-- ==== Sys2Proof/Word.lean ====
section
/-! DEFINITION. Bytes, the index types of the manual, and fixed-length tables of like things. -/

namespace Sys2Proof

/-- One byte of the counter link or the host port. -/
abbrev Byte := BitVec 8

/-- Head index 0 to 7 (00_scope.md section 4.1). -/
abbrev Head := Fin 8

/-- A pair of heads: pair p is heads 2p and 2p + 1 (R1). -/
abbrev PairIndex := Fin 4

/-- Printer index 0 or 1. -/
abbrev Printer := Fin 2

/-- A device slot of the counter link, 0 to 10 (R173). -/
abbrev Slot := Fin 11

/-- Operator number n, 1 to 32, stands here as n - 1. -/
abbrev Operator := Fin 32

/-- Department 0 to 15. -/
abbrev Dept := Fin 16

/-- Ticket slot n, 1 to 48, stands here as n - 1 (R104). -/
abbrev TicketSlot := Fin 48

/-- A head's cache slot, 0 to 15 (R74). -/
abbrev CacheSlot := Fin 16

/-- A job tag, 0 to 255, counted with wrap (R131). -/
abbrev Tag := BitVec 8

/-- A fixed number of like things. -/
abbrev Table (α : Type) (n : Nat) := Vector α n

namespace Table

/-- The table whose entry `i` is `f i`. -/
def gen {α : Type} {n : Nat} (f : Fin n → α) : Table α n := Vector.ofFn f

/-- The table with every entry `x`. -/
def const {α : Type} (n : Nat) (x : α) : Table α n := gen fun _ => x

/-- Entry `i`. -/
def look {α : Type} {n : Nat} (t : Table α n) (i : Fin n) : α := t[i.val]

/-- The table with entry `i` replaced by `x`. -/
def put {α : Type} {n : Nat} (t : Table α n) (i : Fin n) (x : α) : Table α n :=
  t.set i.val x i.isLt

/-- The table with entry `i` replaced by its image under `f`. -/
def change {α : Type} {n : Nat} (t : Table α n) (i : Fin n) (f : α → α) : Table α n :=
  t.put i (f (t.look i))

end Table

/-- The eight heads in ascending order. -/
def allHeads : List Head := [0, 1, 2, 3, 4, 5, 6, 7]

/-- The eleven device slots in ascending order. -/
def allSlots : List Slot := [0, 1, 2, 3, 4, 5, 6, 7, 8, 9, 10]

end Sys2Proof
end

