-- ==== Sys2Proof/Config.lean ====
section
/-! DEFINITION. The fixed numbers of the part. The manual leaves no value open that a run can reach, so there is no free value here. -/

namespace Sys2Proof.Config

/-- Item records of the table (R57). -/
def itemPlaces : Nat := 1024
/-- Entries of a copy list (R74). -/
def copyPlaces : Nat := 16
/-- Jobs of a queue (R130). -/
def queuePlaces : Nat := 16
/-- Lines of a ticket (R104). -/
def linePlaces : Nat := 24
/-- Presses taken of one dispenser report (R93). -/
def pressesPerReport : Nat := 4
/-- Entries of one page of the hold buffer (R164). -/
def pageEntries : Nat := 16
/-- Limit of the waiting list for presses (R89). -/
def waitingLimit : Nat := 64
/-- Consecutive samples that enter or leave CELL_FAULT (R10, R11). -/
def railSamples : Nat := 8
/-- Frames a capture request may wait (R46). -/
def captureFrames : Nat := 300
/-- Frames a message stands (R53). -/
def messageFrames : Nat := 200
/-- Frames after which a pushed entry is due again (R78). -/
def pushFrames : Nat := 10
/-- Frames a join may wait (R182). -/
def joinFrames : Nat := 50
/-- Silence threshold of slots 8, 9 and 10 (R183). -/
def deviceSilence : Nat := 20
/-- Largest error count (R192). -/
def errorLimit : Nat := 65535
/-- Largest amount of a line, in mu (R27). -/
def amountLimit : Nat := 9999999
/-- Largest total of a ticket, in mu (R45). -/
def ticketLimit : Nat := 99999999
/-- Largest item number and key argument (R55, R188). -/
def itemNumberLimit : Nat := 999999
/-- Largest unit price, in mu (R55). -/
def priceLimit : Nat := 999999
/-- Largest capacity of a scale, in tg (R4). -/
def capacityLimit : Nat := 300000
/-- Largest count of lines, pieces and void lines of an accumulator (R152). -/
def countLimit : Nat := 4294967295
/-- Largest weight and amount of an accumulator (R152). -/
def sumLimit : Nat := 281474976710655
/-- Largest payload of a command, in bytes (R198). -/
def payloadLimit : Nat := 1024

end Sys2Proof.Config
end

