-- ==== Sys2Proof/Syntax.lean ====
section
/-! DEFINITION. The commands of the block: one constructor of `Instr` for each row of the table of operations and events, and the host's command messages with the operands their payloads carry. -/

namespace Sys2Proof

/-- The scale type of CONFIGURE_HEAD as its payload gives it (R2, R208): capacities in tg, divisions in grams.
`other` is an alternative byte that names no scale type, with the bytes that stand in its place. -/
inductive RawScale
  | single (max d : Nat)
  | dual (max1 d1 max2 d2 : Nat)
  | other (tag : Byte) (fields : List Byte)
  deriving DecidableEq, Repr

/-- The operands of CONFIGURE_HEAD (R4), before any range check. -/
structure RawHead where
  head : Nat
  role : Nat
  z0 : Int
  span : Nat
  zr : Nat
  scale : RawScale
  printer : Nat
  lineLabels : Nat
  idle : Nat
  deriving DecidableEq, Repr

/-- The operands of CONFIGURE_PAIR (R3), before any range check. -/
structure RawPair where
  pair : Nat
  depth : Nat
  window : Nat
  silence : Nat
  mode : Nat
  gain : Nat
  deriving DecidableEq, Repr

/-- The descriptive fields that ADD_ITEM and UPDATE_ITEM carry (R61, R62), before any range check. -/
structure RawItem where
  number : Nat
  name : List Byte
  mode : Nat
  preset : Option Nat
  shelf : Option Nat
  dept : Nat
  format : Nat
  deriving DecidableEq, Repr

/-- A command message of the host with its operands (section 10.5), before any range check by its owner.
An enumerated operand is the byte the payload carries (R208). -/
inductive HostCmd
  | configureHead (f : RawHead)
  | configurePair (f : RawPair)
  | setSlots (mask : Nat)
  | linkRestart
  | readLink (clear : Nat)
  | readHead (head : Nat)
  | addItem (f : RawItem) (price : Nat)
  | updateItem (f : RawItem)
  | findItem (number : Nat)
  | nextItem (number : Nat)
  | stagePrice (number price : Nat)
  | unstagePrice (number : Nat)
  | commitPrices
  | withdrawItem (number : Nat)
  | reinstateItem (number : Nat)
  | readCopies (head : Nat)
  | setNumberRange (low high : Nat)
  | readQueue
  | listTickets (selection : Nat)
  | readTicket (slot serial : Nat)
  | voidTicket (slot serial : Nat)
  | collectTicket (slot serial : Nat)
  | setCollection (setting : Nat)
  | printText (printer copies : Nat) (text : List (List Byte))
  | cancelJob (tag : Nat)
  | redirectJobs (source destination : Nat)
  | readPrinter (printer : Nat)
  | openDay (year month day : Nat)
  | closeDay
  | readTotals (group : Nat)
  | readHold (page : Nat)
  | readClosing (request : Nat)
  | readStatus
  | hubReset
  deriving DecidableEq, Repr

/-- What the port shows at one instant (R196): RDY, whether the response buffer holds a response, and ATTN. -/
structure PortView where
  rdy : Bool
  held : Bool
  attn : Bool
  deriving DecidableEq, Repr

/-- The commands of the block, one for each row of the table of operations and events.
The operand of a link row is the device it concerns and, upstream, the bytes of its part; the operands of a host
command are those of the command in process (R199); the argument of a key is that of the key event handed on
(R179). `ago` of a command transaction says at which of the port's views SEL fell: that many changes of the view lie
between the fall and the rise of SEL (log 7). -/
inductive Instr
  | powerOnReset
  | resetPinFall
  | resetPinRise
  | commandTransaction (ago : Nat) (bytes : List Byte)
  | responseTransaction (clocked : Nat)
  | configureHead
  | configurePair
  | setSlots
  | linkRestart
  | readLink
  | readHead
  | addItem
  | updateItem
  | findItem
  | nextItem
  | stagePrice
  | unstagePrice
  | commitPrices
  | withdrawItem
  | reinstateItem
  | readCopies
  | setNumberRange
  | readQueue
  | listTickets
  | readTicket
  | voidTicket
  | collectTicket
  | setCollection
  | printText
  | cancelJob
  | redirectJobs
  | readPrinter
  | openDay
  | closeDay
  | readTotals
  | readHold
  | readClosing
  | readStatus
  | hubReset
  | frameStart
  | slotMaskTakesEffect
  | linkRestartTakesEffect
  | joinWaitExpiry (slot : Slot)
  | headServiceFrameStart
  | captureTimeout (head : Head)
  | messageExpiry (head : Head)
  | copyFrameStart
  | ticketFrameStart
  | ticketIdlePark (ticket : TicketSlot)
  | frameNotice
  | welcome (slot : Slot)
  | headUpdate (head : Head)
  | printerUpdate (printer : Printer)
  | dispenserUpdate
  | headReport (head : Head) (part : List Byte)
  | printerReport (printer : Printer) (part : List Byte)
  | dispenserReport (part : List Byte)
  | join (slot : Slot) (part : List Byte)
  | upstreamRejected (slot : Slot) (part : List Byte)
  | upstreamMiss (slot : Slot)
  | silenceLoss (slot : Slot)
  | channelSample (head : Head)
  | cellFaultEntry (head : Head)
  | cellFaultRecovery (head : Head)
  | copyAck (head : Head)
  | captureLineComplete (head : Head)
  | captureLabelComplete (head : Head)
  | keySignOn (head : Head)
  | keySignOff (head : Head)
  | keyItem (head : Head)
  | keyCount (head : Head)
  | keyZero (head : Head)
  | keyTare (head : Head)
  | keyClearTare (head : Head)
  | keyNext (head : Head)
  | keySkip (head : Head)
  | keyOpen (head : Head)
  | keyPark (head : Head)
  | keyPick (head : Head)
  | keyVoidLast (head : Head)
  | keyVoidTicket (head : Head)
  | keyTotal (head : Head)
  | keyLabel (head : Head)
  | keyBatch (head : Head)
  | keyClear (head : Head)
  deriving DecidableEq, Repr

end Sys2Proof
end

