-- ==== Sys2Proof/Decode.lean ====
section
/-! DEFINITION. Words of the table of operations and events. -/

namespace Sys2Proof

/-- The command a word spells by the bits of the table. No row of the table gives bits: a host command is spelled by
the bytes of its transaction, which Machine/Operands.lean reads, and a link message by the bytes of its part, which
Machine/Wire.lean reads. So no word spells a command (log 4). -/
def decodeTableWord (_nbits _w : Nat) : Option Instr := none

end Sys2Proof
end

