-- ==== Sys2Proof/Machine/Types.lean ====
section
/-! DEFINITION. The records the blocks of the hub hold, block by block, as plain data. -/

namespace Sys2Proof.Machine

/-! ### Weighing Engine (chapter 1) -/

/-- Role of a head (R2). -/
inductive Role
  | disabled | service | prepack
  deriving DecidableEq, Repr

/-- Zero tracking mode of a pair (R1). -/
inductive TrackMode
  | off | oneStep | proportional
  deriving DecidableEq, Repr

/-- The settings of a pair (R1). -/
structure PairSettings where
  depth : Nat
  window : Nat
  silence : Nat
  mode : TrackMode
  gain : Nat
  deriving DecidableEq, Repr

/-- The scale type of a head (R2): capacities and divisions in tg. -/
inductive ScaleType
  | single (max d : Nat)
  | dual (max1 d1 max2 d2 : Nat)
  deriving DecidableEq, Repr

/-- The settings of a head (R2). -/
structure HeadSettings where
  role : Role
  z0 : Int
  span : Nat
  zr : Nat
  scale : ScaleType
  printer : Printer
  lineLabels : Bool
  idleLimit : Nat
  deriving DecidableEq, Repr

/-- State of a channel (R6). -/
inductive ChanState
  | idle | settling | active | cellFault
  deriving DecidableEq, Repr

/-- Source of a tare in force (R17). -/
inductive TareSource
  | manual | preset
  deriving DecidableEq, Repr

/-- A tare in force, in tg, with its source (R17). -/
structure Tare where
  value : Nat
  source : TareSource
  deriving DecidableEq, Repr

/-- Why a verdict is not eligible (R21). -/
inductive Reason
  | cell | unstable | overCap | belowMin | locked
  deriving DecidableEq, Repr

/-- Whether a weighed capture may complete (R21). -/
inductive Verdict
  | eligible
  | notEligible (reason : Reason)
  deriving DecidableEq, Repr

/-- The capture lock (R22). -/
inductive Lock
  | armed | locked
  deriving DecidableEq, Repr

/-- A channel result (R20): `overFlag` and `underFlag` are the indicators OVER and UNDER, `netFlag` and `zeroFlag`
the indicators net and zero. -/
structure ChanResult where
  state : ChanState
  gross : Option Int
  tare : Option Tare
  net : Option Int
  division : Option Nat
  shown : Option Int
  stable : Bool
  zeroFlag : Bool
  netFlag : Bool
  overFlag : Bool
  underFlag : Bool
  verdict : Verdict
  deriving DecidableEq, Repr

/-- A weighing channel (R5). `history` and `window` stand oldest first; `verdict` is the standing verdict of R21. -/
structure Channel where
  state : ChanState
  window : List Int
  history : List Int
  railRun : Nat
  clearRun : Nat
  zero : Int
  manual : Option Nat
  offer : Option Nat
  lock : Lock
  last : Option ChanResult
  verdict : Verdict
  deriving DecidableEq, Repr

/-- The Weighing Engine. -/
structure Wge where
  pairs : Table PairSettings 4
  settings : Table HeadSettings 8
  chans : Table Channel 8
  deriving DecidableEq, Repr

/-! ### Item Table (chapter 3) and accumulators (chapter 8) -/

/-- How an item is priced (R55). -/
inductive SaleMode
  | weighed | counted | fixed
  deriving DecidableEq, Repr

/-- State of an item record (R55). -/
inductive ItemState
  | active | withdrawn
  deriving DecidableEq, Repr

/-- An accumulator (R152). -/
structure Acc where
  lines : Nat
  weight : Nat
  pieces : Nat
  amount : Nat
  voidLines : Nat
  voidAmount : Nat
  saturated : Bool
  deriving DecidableEq, Repr

/-- An item record (R55) with its record index (R56); `acc` is the item accumulator that belongs to the index
(R56, R153), which the Totals Unit owns. -/
structure Item where
  number : Nat
  index : Nat
  name : List Byte
  mode : SaleMode
  price : Nat
  pending : Option Nat
  preset : Option Nat
  shelf : Option Nat
  dept : Dept
  format : Fin 4
  state : ItemState
  version : Byte
  refs : Nat
  acc : Acc
  deriving DecidableEq, Repr

/-- The Item Table: the directory in ascending item number (R57) and the generation counter (R59). -/
structure Itb where
  items : List Item
  generation : BitVec 16
  deriving DecidableEq, Repr

/-! ### Copy Coherence Unit (chapter 4) -/

/-- State of a copy list entry (R74). -/
inductive CopyState
  | sending | current | stale
  deriving DecidableEq, Repr

/-- A copy list entry (R74). -/
structure CopyEntry where
  slot : CacheSlot
  index : Nat
  number : Nat
  version : Byte
  state : CopyState
  age : Option Nat
  deriving DecidableEq, Repr

/-- A head's copy list, most recent first, and its owed drops, ascending (R74). -/
structure CopyList where
  entries : List CopyEntry
  drops : List CacheSlot
  deriving DecidableEq, Repr

/-- The Copy Coherence Unit: the lists and the in-step watch (R87). -/
structure Ccu where
  lists : Table CopyList 8
  armed : Bool
  deriving DecidableEq, Repr

/-! ### Tickets (chapter 6) -/

/-- A ticket identity: slot and use serial (R104). -/
structure TicketId where
  slot : TicketSlot
  serial : Byte
  deriving DecidableEq, Repr

/-- State of a ticket (R106). -/
inductive TicketState
  | free | held | parked | closing | closed
  deriving DecidableEq, Repr

/-- A ticket line (R105). -/
structure Line where
  position : Nat
  number : Nat
  index : Nat
  dept : Dept
  mode : SaleMode
  quantity : Nat
  tare : Option Tare
  price : Nat
  amount : Nat
  version : Byte
  generation : BitVec 16
  head : Head
  operator : Operator
  deriving DecidableEq, Repr

/-- The summary job of a CLOSING ticket: its printer and tag (R104). -/
structure JobRef where
  printer : Printer
  tag : Tag
  deriving DecidableEq, Repr

/-- A ticket record (R104). -/
structure Ticket where
  serial : Byte
  state : TicketState
  service : Option Nat
  holder : Option Head
  openHead : Option Head
  openOperator : Option Operator
  idle : Nat
  lines : List Line
  total : Nat
  job : Option JobRef
  deriving DecidableEq, Repr

/-- The Ticket Pool: the records and the collection setting (R104). -/
structure Tkp where
  tickets : Table Ticket 48
  collection : Bool
  deriving DecidableEq, Repr

/-! ### Head Service Unit (chapter 2) -/

/-- Service state of a head (R31). -/
inductive Service
  | off | ready | serving
  deriving DecidableEq, Repr

/-- Message codes a head can show, in the order of the table of R53. -/
inductive Code
  | noItem | withdrawn | noPrice | unstable | copyWait | belowMin | overCap | amountOver | ticketFull | ticketLimit
  | inUse | notHeld | notFound | printerBusy | printerDown | zeroRange | tareRange | tareActive | dayClosed
  | noOperator | queueEmpty | queueBlocked | poolFull | emptyTicket | batchDone | busy | parked | cell
  deriving DecidableEq, Repr

/-- A message with its remaining frames (R53). -/
structure Message where
  code : Code
  frames : Nat
  deriving DecidableEq, Repr

/-- Purpose of a capture request (R42). -/
inductive Purpose
  | line | label | prepack
  deriving DecidableEq, Repr

/-- Origin of a capture request (R42, R50). -/
inductive Origin
  | key | auto
  deriving DecidableEq, Repr

/-- A capture request (R42). -/
structure Request where
  number : Nat
  index : Nat
  purpose : Purpose
  origin : Origin
  count : Option Nat
  ticket : Option TicketId
  waited : Nat
  deriving DecidableEq, Repr

/-- Batch remaining (R29): `left 0` is unlimited. -/
inductive Batch
  | left (n : Nat)
  | done
  deriving DecidableEq, Repr

/-- A reference to the line a head last appended (R29, R39). -/
structure LineRef where
  ticket : TicketId
  position : Nat
  deriving DecidableEq, Repr

/-- A head context (R29) without its display record. -/
structure HeadCtx where
  operator : Option Operator
  nowServing : Option Nat
  held : Option TicketId
  count : Option Nat
  labelMark : Bool
  selected : Option Nat
  batch : Batch
  request : Option Request
  autoHold : Bool
  message : Option Message
  lastLine : Option LineRef
  deriving DecidableEq, Repr

/-- Unit text of a display record (R52). -/
inductive UnitText
  | kg | pcs
  deriving DecidableEq, Repr

/-- The ticket summary of a display record (R52). -/
structure TicketSummary where
  service : Nat
  lines : Nat
  total : Nat
  deriving DecidableEq, Repr

/-- A display record (R52). -/
structure Display where
  weight : Option Int
  unitText : Option UnitText
  stable : Bool
  netFlag : Bool
  zeroFlag : Bool
  overFlag : Bool
  underFlag : Bool
  number : Option Nat
  name : Option (List Byte)
  price : Option Nat
  amount : Option Nat
  ticket : Option TicketSummary
  nowServing : Option Nat
  message : Option Code
  stale : Bool
  deriving DecidableEq, Repr

/-- The Head Service Unit: the contexts, their display records as last composed (R52) and the sign-on table (R30). -/
structure Hsu where
  heads : Table HeadCtx 8
  displays : Table Display 8
  signOn : Table (Option Head) 32
  deriving DecidableEq, Repr

/-! ### Service Number Unit (chapter 5) -/

/-- A waiting list entry: a service number and its skipped mark (R89). -/
structure WaitEntry where
  number : Nat
  skipped : Bool
  deriving DecidableEq, Repr

/-- The Service Number Unit (R89). `issued` and `full` are the pending dispenser content. -/
structure Snu where
  low : Nat
  high : Nat
  capacity : Nat
  next : Nat
  waiting : List WaitEntry
  skipped : Table Bool 8
  lastCalled : Option Nat
  counter : Option Byte
  issued : List Nat
  full : Bool
  deriving DecidableEq, Repr

/-! ### Label Controller (chapter 7) -/

/-- A calendar date (00_scope.md section 4.1). -/
structure Date where
  year : Nat
  month : Nat
  day : Nat
  deriving DecidableEq, Repr

/-- The content an ITEM and a PREPACK label share (R132). The barcode is its thirteen digits. -/
structure ItemLabel where
  number : Nat
  name : List Byte
  mode : SaleMode
  quantity : Nat
  price : Nat
  amount : Nat
  version : Byte
  pack : Option Date
  sellBy : Option Date
  barcode : Option (List Nat)
  format : Fin 4
  deriving DecidableEq, Repr

/-- What a PREPACK job carries for its fold (R132). -/
structure PackFold where
  head : Head
  operator : Operator
  dept : Dept
  index : Nat
  generation : BitVec 16
  deriving DecidableEq, Repr

/-- The content of a SUMMARY label (R132). -/
structure SummaryLabel where
  ticket : TicketId
  service : Nat
  lines : Nat
  total : Nat
  barcode : Option (List Nat)
  deriving DecidableEq, Repr

/-- Label content of a job (R132), one alternative for each kind. -/
inductive Content
  | item (label : ItemLabel)
  | prepack (label : ItemLabel) (fold : PackFold)
  | summary (label : SummaryLabel)
  | text (lines : List (List Byte))
  deriving DecidableEq, Repr

/-- Kind of a job (R129). -/
inductive JobKind
  | item | prepack | summary | text
  deriving DecidableEq, Repr

/-- A print job (R129). Its kind is that of its content. -/
structure Job where
  tag : Tag
  source : Option Head
  copies : Nat
  remaining : Nat
  folded : Bool
  content : Content
  deriving DecidableEq, Repr

/-- State of a printer context (R137). -/
inductive PrinterState
  | offline | idle | loading | printing | stopped
  deriving DecidableEq, Repr

/-- Condition a printer reports (R137). -/
inductive Condition
  | ready | paperOut | headOpen
  deriving DecidableEq, Repr

/-- Load point of a printer context while a job is fed (R137). -/
inductive LoadPoint
  | chunk (index : Nat)
  | done
  deriving DecidableEq, Repr

/-- A printer context (R137). -/
structure PrinterCtx where
  state : PrinterState
  credit : Nat
  condition : Condition
  heldTag : Option Tag
  load : Option LoadPoint
  printed : Nat
  owedDrop : Option Tag
  deriving DecidableEq, Repr

/-- The Label Controller: contexts, queues, the tag allocator's candidate (R131) and the business date (R134). -/
structure Lbc where
  printers : Table PrinterCtx 2
  queues : Table (List Job) 2
  candidate : Tag
  date : Option Date
  deriving DecidableEq, Repr

/-! ### Totals Unit (chapter 8) -/

/-- Day state (R159). -/
inductive DayState
  | closed | opened | closing
  deriving DecidableEq, Repr

/-- Accumulator group (R153). -/
inductive Group
  | grand | head | operator | department | item
  deriving DecidableEq, Repr

/-- The place of an accumulator in the drain order, with its key (R153, R167); an item stands by its number. -/
inductive AccKey
  | grand
  | head (h : Head)
  | operator (n : Operator)
  | department (d : Dept)
  | item (number : Nat)
  deriving DecidableEq, Repr

/-- The closing cursor (R167). -/
inductive Cursor
  | start
  | after (key : AccKey)
  deriving DecidableEq, Repr

/-- Record index and state that stand beside the key of an ITEM entry (R164, R168). -/
structure ItemTag where
  index : Nat
  state : ItemState
  deriving DecidableEq, Repr

/-- An entry of a snapshot (R164). -/
structure HoldEntry where
  key : AccKey
  acc : Acc
  item : Option ItemTag
  deriving DecidableEq, Repr

/-- The hold buffer (R164). -/
structure Hold where
  serial : Byte
  group : Group
  day : DayState
  entries : List HoldEntry
  deriving DecidableEq, Repr

/-- An entry of the closing drain (R168); `purged` is present for an ITEM entry. -/
structure DrainEntry where
  key : AccKey
  acc : Acc
  item : Option ItemTag
  purged : Option Bool
  sequence : Nat
  deriving DecidableEq, Repr

/-- The Totals Unit (R153, R158); the item accumulators stand in the item records. -/
structure Tot where
  grand : Acc
  heads : Table Acc 8
  operators : Table Acc 32
  departments : Table Acc 16
  day : DayState
  cursor : Option Cursor
  drained : Nat
  lastEntry : Option DrainEntry
  hold : Option Hold
  holdSerial : Byte
  deriving DecidableEq, Repr

/-! ### Counter link (chapter 9) -/

/-- Presence state of a device slot (R181). -/
inductive Presence
  | disabled | absent | joining | online | silent
  deriving DecidableEq, Repr

/-- What the Link Controller holds for a device slot (R181, R192). -/
structure SlotLink where
  presence : Presence
  joinWait : Nat
  misses : Nat
  errors : Nat
  deriving DecidableEq, Repr

/-- A copy acknowledgement (R80, R189). -/
structure Ack where
  slot : CacheSlot
  version : Byte
  deriving DecidableEq, Repr

/-- What the Link Controller holds for a head slot beside that (R187, R189, R190). -/
structure HeadLink where
  serial : Option (BitVec 4)
  ack : Option Ack
  refresh : Bool
  deriving DecidableEq, Repr

/-- A copy operation of a HEAD_UPDATE (R75). -/
inductive CopyOp
  | push (slot : CacheSlot) (number : Nat) (version : Byte) (name : List Byte) (mode : SaleMode) (price : Nat)
      (preset : Bool)
  | drop (slot : CacheSlot)
  deriving DecidableEq, Repr

/-- The part of a job's content that one chunk carries (R135). -/
inductive ChunkPart
  | start (kind : JobKind) (format : Option (Fin 4))
  | number (n : Nat)
  | name (text : List Byte)
  | quantity (mode : SaleMode) (q : Nat)
  | price (p : Nat)
  | amount (a : Nat)
  | pack (d : Option Date)
  | sellBy (d : Date)
  | barcode (digits : List Nat)
  | ticket (t : TicketId)
  | service (n : Nat)
  | lines (n : Nat)
  | total (t : Nat)
  | text (line : List Byte)
  deriving DecidableEq, Repr

/-- An operation of a PRINTER_UPDATE (R139). -/
inductive PrintOp
  | drop (tag : Tag)
  | chunk (tag : Tag) (index : Nat) (last : Bool) (part : ChunkPart)
  | order (tag : Tag) (copy : Nat)
  deriving DecidableEq, Repr

/-- A downstream message (section 9.2). A FRAME_NOTICE is held as its six bytes (section 9.8); the manual lays out
no other downstream kind. -/
inductive Downstream
  | frameNotice (wire : List Byte)
  | welcome (slot : Slot) (texts : Option (List Byte × List Byte))
  | headUpdate (display : Display) (serial : Option (BitVec 4)) (op : Option CopyOp)
  | printerUpdate (op : Option PrintOp)
  | dispenserUpdate (issued : List Nat) (nowServing : Option Nat) (waiting : Nat) (full : Bool)
  deriving DecidableEq, Repr

/-- The Link Controller. -/
structure Lnk where
  frame : Byte
  mask : Table Bool 11
  pendingMask : Option (Table Bool 11)
  restart : Bool
  slots : Table SlotLink 11
  heads : Table HeadLink 8
  deriving DecidableEq, Repr

/-- The eighteen keys (section 9.8), in the order of their codes. -/
inductive KeyKind
  | signOn | signOff | item | count | zero | tare | clearTare | next | skip | openKey | park | pick | voidLast
  | voidTicket | total | label | batch | clear
  deriving DecidableEq, Repr

/-- A key event as the Link Controller hands it on (R179). -/
structure KeyEvent where
  kind : KeyKind
  arg : Nat
  deriving DecidableEq, Repr

/-- The parts of accepted head reports that stand between the Link Controller and their blocks (R179), oldest
first. -/
structure Inbox where
  samples : List Int
  keys : List KeyEvent
  acks : List Ack
  deriving DecidableEq, Repr

/-- What has been handed on and not yet taken: parts of head reports (R179) and frame-start signals for the Head
Service Unit, the Copy Coherence Unit and the Ticket Pool (R174). -/
structure Hand where
  inbox : Table Inbox 8
  hsu : Nat
  ccu : Nat
  tkp : Nat
  deriving DecidableEq, Repr

/-! ### Host Port (chapter 10) -/

/-- Status codes (R201). -/
inductive Status
  | done | badCommand | badValue | notFound | existsAlready | full | wrongState | inUse
  deriving DecidableEq, Repr

/-- The latched attention flags with their sources (R202). A flag that keeps sources stands while a source does. -/
structure Latched where
  headLost : Table Bool 8
  printerLost : Table Bool 2
  dispenserLost : Bool
  printerStopped : Table Bool 2
  cellFault : Table Bool 8
  zeroLimit : Table Bool 8
  totalSaturated : Bool
  inStep : Bool
  dispenserRefused : Bool
  portOverrun : Bool
  deriving DecidableEq, Repr

/-- What READ_LINK returns (R194). -/
structure LinkReply where
  mask : Table Bool 11
  pendingMask : Option (Table Bool 11)
  restart : Bool
  frame : Byte
  slots : Table SlotLink 11
  heads : Table HeadLink 8
  deriving DecidableEq, Repr

/-- What READ_HEAD returns (R28, R54): the context part, then the channel part. -/
structure HeadReply where
  service : Service
  ctx : HeadCtx
  display : Display
  settings : HeadSettings
  pair : PairSettings
  state : ChanState
  zero : Int
  manual : Option Nat
  offer : Option Nat
  lock : Lock
  windowLength : Nat
  historyLength : Nat
  last : Option ChanResult
  deriving DecidableEq, Repr

/-- What READ_COPIES returns (R88). -/
structure CopiesReply where
  entries : List CopyEntry
  drops : List CacheSlot
  inStep : Bool
  armed : Bool
  deriving DecidableEq, Repr

/-- What READ_QUEUE returns (R103). -/
structure QueueReply where
  low : Nat
  high : Nat
  capacity : Nat
  next : Nat
  waiting : List WaitEntry
  serving : Table (Option Nat) 8
  skipped : Table Bool 8
  lastCalled : Option Nat
  counter : Option Byte
  deriving DecidableEq, Repr

/-- One entry of LIST_TICKETS (R125). -/
structure TicketEntry where
  slot : TicketSlot
  serial : Byte
  state : TicketState
  service : Option Nat
  holder : Option Head
  lines : Nat
  total : Nat
  deriving DecidableEq, Repr

/-- How many ticket records stand in each state (R125). -/
structure TicketCounts where
  free : Nat
  held : Nat
  parked : Nat
  closing : Nat
  closed : Nat
  deriving DecidableEq, Repr

/-- What READ_PRINTER returns (R151). -/
structure PrinterReply where
  ctx : PrinterCtx
  queue : List Job
  candidate : Tag
  date : Option Date
  deriving DecidableEq, Repr

/-- The payload of a response, by the rule of the command that gives it. -/
inductive Reply
  | empty
  | link (r : LinkReply)
  | head (r : HeadReply)
  | added (index : Nat)
  | updated (version : Byte)
  | item (r : Item) (records : Nat) (generation : BitVec 16)
  | unstaged (removed : Bool)
  | committed (changed consumed : Nat) (generation : BitVec 16)
  | withdrawn (purged : Bool) (kept : Option (Nat × Bool))
  | copies (r : CopiesReply)
  | capacity (n : Nat)
  | queue (r : QueueReply)
  | tickets (entries : List TicketEntry) (counts : TicketCounts)
  | ticket (r : Ticket)
  | voided (lines sum : Nat)
  | queued (tag : Tag) (down : Bool)
  | cancelled (kind : JobKind) (remaining : Nat) (fed : Bool)
  | moved (moved left : Nat)
  | printer (r : PrinterReply)
  | day (d : DayState)
  | closeRefused (d : DayState) (held parked closing unfolded : Nat)
  | totals (hold : Hold) (page : List HoldEntry)
  | page (serial : Byte) (group : Group) (pages : Nat) (entries : List HoldEntry)
  | drained (entry : DrainEntry)
  | drainEnd (count : Nat)
  | status (flags : Latched) (ticketsToCollect poolFull : Bool)
  deriving DecidableEq, Repr

/-- A response (R195). -/
structure Response where
  status : Status
  serial : Byte
  code : Byte
  reply : Reply
  deriving DecidableEq, Repr

/-- The command in process (R195): its serial and the command its code and payload spell. -/
structure InProcess where
  serial : Byte
  cmd : HostCmd
  deriving DecidableEq, Repr

/-- The Host Port (R195). -/
structure Port where
  inProcess : Option InProcess
  buffer : Option Response
  serial : Byte
  latched : Latched
  deriving DecidableEq, Repr

end Sys2Proof.Machine
end

