-- ==== Sys2Proof/Machine/PowerOn.lean ====
section
/-! DEFINITION. The power-on value of every block's state, each from the table of its own chapter. -/

namespace Sys2Proof.Machine

/-- The blank display record of a head with nothing to show (R29, R32, R52). -/
def blankDisplay : Display :=
  { weight := none, unitText := none, stable := false, netFlag := false, zeroFlag := false, overFlag := false,
    underFlag := false, number := none, name := none, price := none, amount := none, ticket := none,
    nowServing := none, message := none, stale := false }

/-- Power-on values of the pair settings (R1). -/
def powerOnPair : PairSettings := { depth := 8, window := 6, silence := 20, mode := .oneStep, gain := 4 }

/-- Power-on values of the head settings (R2). -/
def powerOnSettings : HeadSettings :=
  { role := .disabled, z0 := 0, span := 65536, zr := 0, scale := .single 150000 50, printer := 0,
    lineLabels := false, idleLimit := 0 }

/-- The values of an IDLE channel whose calibration zero is `z0` (R5, R8).
DEDUCED: the standing verdict is the reason R21 gives a channel in IDLE. -/
def idleChannel (z0 : Int) : Channel :=
  { state := .idle, window := [], history := [], railRun := 0, clearRun := 0, zero := z0, manual := none,
    offer := none, lock := .armed, last := none, verdict := .notEligible .unstable }

/-- The Weighing Engine at power-on (R1, R2, R5). -/
def powerOnWge : Wge :=
  { pairs := Table.const 4 powerOnPair, settings := Table.const 8 powerOnSettings,
    chans := Table.const 8 (idleChannel 0) }

/-- A head context after power-on, hub reset or loss (R29). -/
def offCtx : HeadCtx :=
  { operator := none, nowServing := none, held := none, count := none, labelMark := false, selected := none,
    batch := .left 0, request := none, autoHold := false, message := none, lastLine := none }

/-- The Head Service Unit at power-on (R29, R30). -/
def powerOnHsu : Hsu :=
  { heads := Table.const 8 offCtx, displays := Table.const 8 blankDisplay, signOn := Table.const 32 none }

/-- The empty accumulator (R152). -/
def emptyAcc : Acc :=
  { lines := 0, weight := 0, pieces := 0, amount := 0, voidLines := 0, voidAmount := 0, saturated := false }

/-- The Item Table at power-on (R57, R59). -/
def powerOnItb : Itb := { items := [], generation := 0 }

/-- An empty copy list (R74). -/
def emptyCopies : CopyList := { entries := [], drops := [] }

/-- The Copy Coherence Unit at power-on (R74, R87). -/
def powerOnCcu : Ccu := { lists := Table.const 8 emptyCopies, armed := false }

/-- The Service Number Unit at power-on (R89). -/
def powerOnSnu : Snu :=
  { low := 1, high := 99, capacity := 64, next := 1, waiting := [], skipped := Table.const 8 false,
    lastCalled := none, counter := none, issued := [], full := false }

/-- A FREE ticket record whose last use had serial `serial` (R104). Its idle count is 0, which no rule says of a record
that becomes FREE (DESIGN CHOICE, log 43). -/
def freeTicket (serial : Byte) : Ticket :=
  { serial := serial, state := .free, service := none, holder := none, openHead := none, openOperator := none,
    idle := 0, lines := [], total := 0, job := none }

/-- The Ticket Pool at power-on (R104). -/
def powerOnTkp : Tkp := { tickets := Table.const 48 (freeTicket 0), collection := false }

/-- A printer context after power-on, hub reset or loss (R137). -/
def offlinePrinter : PrinterCtx :=
  { state := .offline, credit := 0, condition := .ready, heldTag := none, load := none, printed := 0,
    owedDrop := none }

/-- The Label Controller at power-on (R130, R131, R134, R137). -/
def powerOnLbc : Lbc :=
  { printers := Table.const 2 offlinePrinter, queues := Table.const 2 [], candidate := 0, date := none }

/-- The Totals Unit at power-on (R153, R158). -/
def powerOnTot : Tot :=
  { grand := emptyAcc, heads := Table.const 8 emptyAcc, operators := Table.const 32 emptyAcc,
    departments := Table.const 16 emptyAcc, day := .closed, cursor := none, drained := 0, lastEntry := none,
    hold := none, holdSerial := 0 }

/-- A device slot after reset under a setting of the slot mask (R181, R192). -/
def resetSlot (on : Bool) : SlotLink :=
  { presence := if on then .absent else .disabled, joinWait := 0, misses := 0, errors := 0 }

/-- A head slot with nothing accepted, nothing acknowledged and nothing owed (R187, R189, R190). -/
def resetHeadLink : HeadLink := { serial := none, ack := none, refresh := false }

/-- The Link Controller at power-on (R173, R180, R181, R187, R189, R192, R193). -/
def powerOnLnk : Lnk :=
  { frame := 0, mask := Table.const 11 true, pendingMask := none, restart := false,
    slots := Table.const 11 (resetSlot true), heads := Table.const 8 resetHeadLink }

/-- No latched flag and no source (R202). -/
def noFlags : Latched :=
  { headLost := Table.const 8 false, printerLost := Table.const 2 false, dispenserLost := false,
    printerStopped := Table.const 2 false, cellFault := Table.const 8 false, zeroLimit := Table.const 8 false,
    totalSaturated := false, inStep := false, dispenserRefused := false, portOverrun := false }

/-- The Host Port at power-on (R195). -/
def powerOnPort : Port := { inProcess := none, buffer := none, serial := 0, latched := noFlags }

/-- Nothing handed on and no signal sent. -/
def emptyHand : Hand := { inbox := Table.const 8 ⟨[], [], []⟩, hsu := 0, ccu := 0, tkp := 0 }

/-- No message sent in any slot. -/
def noDownstream : Table (Option Downstream) 12 := Table.const 12 none

end Sys2Proof.Machine
end

