-- ==== Sys2Proof/Machine/State.lean ====
section
/-! DEFINITION. The state of the hub, its reset, and the reasons a step can stop. -/

namespace Sys2Proof.Machine

/-- The hub: one field for each block of 00_scope.md section 2.2, the RESET pin and the two outputs that carry bytes,
what stands between blocks, and the queue of commands. -/
structure State where
  /-- RESET pin held low (R207). -/
  resetLow : Bool
  /-- The bytes the hub sent in the last transaction (R196, R200). -/
  sdo : List Byte
  /-- What the hub sent in each slot of the frame in progress (R175, R178). -/
  down : Table (Option Downstream) 12
  port : Port
  lnk : Lnk
  wge : Wge
  hsu : Hsu
  itb : Itb
  ccu : Ccu
  snu : Snu
  tkp : Tkp
  lbc : Lbc
  tot : Tot
  /-- Model's own: what the port showed since the last transaction ended, newest first, the standing view not among
  them; a transaction that ends later fell at one of these or at the standing view (R196, log 7). -/
  shown : List PortView
  /-- Model's own: what blocks have handed on and their owners have not yet taken. -/
  hand : Hand
  /-- Model's own: the commands that wait, first in, first out. -/
  pending : List Instr
  deriving DecidableEq, Repr

/-- The manual describes no state in which the hub stops: every trouble is a message, a status code, a flag or a
counter. So no command faults. -/
inductive Fault
  deriving DecidableEq, Repr

/-- Why a step is refused. -/
inductive Refusal
  /-- Raised by an arm of `exec` whose command has no meaning yet. Safe: nothing is claimed of such a step. No arm
  raises it now. -/
  | notModelled (mnemonic : String)
  deriving DecidableEq, Repr

/-- The hub right after power-on (R195 and the reset columns of every chapter), with the RESET pin high and no
command waiting. -/
def State.reset : State :=
  { resetLow := false, sdo := [], down := noDownstream, port := powerOnPort, lnk := powerOnLnk, wge := powerOnWge,
    hsu := powerOnHsu, itb := powerOnItb, ccu := powerOnCcu, snu := powerOnSnu, tkp := powerOnTkp,
    lbc := powerOnLbc, tot := powerOnTot, shown := [], hand := emptyHand, pending := [] }

/-- What a command answers. -/
abbrev Out := Host.Outcome State Fault Refusal

end Sys2Proof.Machine
end

