-- ==== Sys2Proof/Machine/Wire.lean ====
section
/-! DEFINITION. Bytes of the counter link: byte order, CRC-8 and the layouts of section 9.8, read and written. -/

namespace Sys2Proof.Machine

/-! ### Byte order -/

/-- `n` bytes of `v`, most significant first (9.8, 10.6). -/
def beNat : Nat → Nat → List Byte
  | 0, _ => []
  | n + 1, v => beNat n (v / 256) ++ [BitVec.ofNat 8 v]

/-- The value of bytes that stand most significant first. -/
def ofBe (bs : List Byte) : Nat := bs.foldl (fun acc b => acc * 256 + b.toNat) 0

/-- `n` bytes of `v` in two's complement, most significant first. -/
def beInt (n : Nat) (v : Int) : List Byte := beNat n (v % (256 ^ n : Nat)).toNat

/-- The signed value of `n` bytes in two's complement. -/
def signedOf (n v : Nat) : Int := if 2 * v < 256 ^ n then v else (v : Int) - (256 ^ n : Nat)

/-! ### CRC-8 (R176) -/

/-- One bit of the CRC register with the generator x^8 + x^5 + x^3 + x^2 + x + 1. -/
def crcBit (r : Byte) : Byte := if r.msb then (r <<< 1) ^^^ 0x2F#8 else r <<< 1

/-- One byte taken into the CRC register, most significant bit first. -/
def crcByte (r b : Byte) : Byte :=
  crcBit (crcBit (crcBit (crcBit (crcBit (crcBit (crcBit (crcBit (r ^^^ b))))))))

/-- The CRC-8 of a message: the register starts at all ones and is not inverted at the end. -/
def crc8 (bs : List Byte) : Byte := bs.foldl crcByte 0xFF#8

/-- A message with its CRC byte at the end. -/
def sealed (bs : List Byte) : List Byte := bs ++ [crc8 bs]

/-- Whether the last byte of a message is the CRC of the bytes before it. -/
def crcGood (bs : List Byte) : Bool :=
  match bs.getLast? with
  | some c => crc8 bs.dropLast == c
  | none => false

/-! ### Upstream messages -/

/-- The key event of a HEAD_REPORT as its bytes give it (9.8). -/
structure WireKey where
  kind : Byte
  arg : Nat
  serial : BitVec 4
  deriving DecidableEq, Repr

/-- The copy acknowledgement of a HEAD_REPORT as its bytes give it (9.8). -/
structure WireAck where
  slot : Byte
  version : Byte
  deriving DecidableEq, Repr

/-- A HEAD_REPORT (9.8). -/
structure HeadReport where
  raw : Int
  key : Option WireKey
  ack : Option WireAck
  deriving DecidableEq, Repr

/-- A PRINTER_REPORT (9.8). -/
structure PrinterReport where
  credit : Nat
  condition : Condition
  heldTag : Option Tag
  copies : Nat
  deriving DecidableEq, Repr

/-- Device kind of a JOIN (9.8). -/
inductive DeviceKind
  | head | printer | dispenser
  deriving DecidableEq, Repr

/-- A good upstream message (R176). -/
inductive Upstream
  | join (kind : DeviceKind)
  | head (r : HeadReport)
  | printer (r : PrinterReport)
  | dispenser (counter : Byte)
  deriving DecidableEq, Repr

/-- The judgement of an upstream part (R176). -/
inductive Judgement
  | missing
  | badCrc
  | malformed
  | good (m : Upstream)
  deriving DecidableEq, Repr

/-- Slot class (R173) as the device kind whose regular report belongs to the slot. -/
def slotClass (s : Slot) : DeviceKind :=
  if s.val < 8 then .head else if s.val < 10 then .printer else .dispenser

/-- The slot of a head. -/
def headSlot (h : Head) : Slot := ⟨h.val, by omega⟩

/-- The slot of a printer. -/
def printerSlot (p : Printer) : Slot := ⟨p.val + 8, by omega⟩

/-- The slot of the dispenser. -/
def dispenserSlot : Slot := 10

/-- The head of a head slot. -/
def slotHead (s : Slot) : Option Head := if h : s.val < 8 then some ⟨s.val, h⟩ else none

/-- The printer of a printer slot. -/
def slotPrinter (s : Slot) : Option Printer :=
  if h : 8 ≤ s.val ∧ s.val < 10 then some ⟨s.val - 8, by omega⟩ else none

/-- The key event part of a HEAD_REPORT body, when bit 0 of the flags says there is one, and what follows it. -/
def readWireKey (flags : Byte) (bs : List Byte) : Option (Option WireKey × List Byte) :=
  let serial : BitVec 4 := flags.extractLsb' 4 4
  if flags.getLsbD 0 then
    match bs with
    | k :: a :: b :: c :: rest => some (some ⟨k, ofBe [a, b, c], serial⟩, rest)
    | _ => none
  else if serial = 0 then some (none, bs) else none

/-- The acknowledgement part of a HEAD_REPORT body, when bit 1 of the flags says there is one, and what follows. -/
def readWireAck (flags : Byte) (bs : List Byte) : Option (Option WireAck × List Byte) :=
  if flags.getLsbD 1 then
    match bs with
    | s :: v :: rest => some (some ⟨s, v⟩, rest)
    | _ => none
  else some (none, bs)

/-- The body of a HEAD_REPORT after its kind byte and without its CRC (9.8). Bits 2 and 3 of the flags are zero, and
the length is the one the flags give. -/
def readHeadReport : List Byte → Option HeadReport
  | flags :: a :: b :: c :: rest =>
    if flags.getLsbD 2 || flags.getLsbD 3 then none
    else
      match readWireKey flags rest with
      | some (key, rest) =>
        match readWireAck flags rest with
        | some (ack, []) => some ⟨signedOf 3 (ofBe [a, b, c]), key, ack⟩
        | _ => none
      | none => none
  | _ => none

/-- The condition a byte of a PRINTER_REPORT names (9.8). -/
def conditionOf (b : Byte) : Option Condition :=
  if b = 0 then some .ready else if b = 1 then some .paperOut else if b = 2 then some .headOpen else none

/-- The body of a PRINTER_REPORT after its kind byte and without its CRC (9.8). -/
def readPrinterReport : List Byte → Option PrinterReport
  | [credit, cond, held, tag, copies] =>
    match conditionOf cond with
    | some c =>
      if 8 < credit.toNat || 16 < copies.toNat then none
      else if held = 1 then some ⟨credit.toNat, c, some tag, copies.toNat⟩
      else if held = 0 ∧ tag = 0 ∧ copies = 0 then some ⟨credit.toNat, c, none, 0⟩
      else none
    | none => none
  | _ => none

/-- The body of a JOIN after its kind byte and without its CRC (9.8). -/
def readJoin : List Byte → Option DeviceKind
  | [k] => if k = 1 then some .head else if k = 2 then some .printer else if k = 3 then some .dispenser else none
  | _ => none

/-- The body of a DISPENSER_REPORT after its kind byte and without its CRC (9.8). -/
def readDispenserReport : List Byte → Option Byte
  | [c] => some c
  | _ => none

/-- The message of a part whose CRC is good, read for a slot of class `cls` (R176); `body` is without the CRC. -/
def readUpstream (cls : DeviceKind) : List Byte → Option Upstream
  | [] => none
  | code :: body =>
    if code = 0x40#8 then (readJoin body).map .join
    else
      match cls with
      | .head => if code = 0x11#8 then (readHeadReport body).map .head else none
      | .printer => if code = 0x21#8 then (readPrinterReport body).map .printer else none
      | .dispenser => if code = 0x31#8 then (readDispenserReport body).map .dispenser else none

/-- The hub's judgement of a message that began in the upstream part of slot `s` (R176): the CRC before anything else.
One of which not one whole byte arrived is incomplete, and so malformed (log 39). -/
def judge (s : Slot) (part : List Byte) : Judgement :=
  if part = [] then .malformed
  else if crcGood part then
    match readUpstream (slotClass s) part.dropLast with
    | some m => .good m
    | none => .malformed
  else .badCrc

/-- The hub's judgement of an upstream part (R176): missing where no message began in it. -/
def judgePart (s : Slot) : Option (List Byte) → Judgement
  | none => .missing
  | some part => judge s part

/-! ### The same layouts, written -/

/-- The flags byte of a HEAD_REPORT (9.8). -/
def headFlags (r : HeadReport) : Byte :=
  let serial : BitVec 4 := match r.key with
    | some k => k.serial
    | none => 0
  serial ++ BitVec.ofNat 4 ((if r.key.isSome then 1 else 0) + (if r.ack.isSome then 2 else 0))

/-- The bytes of a HEAD_REPORT with its CRC (9.8). -/
def writeHeadReport (r : HeadReport) : List Byte :=
  sealed <| [0x11#8, headFlags r] ++ beInt 3 r.raw
    ++ (match r.key with
        | some k => k.kind :: beNat 3 k.arg
        | none => [])
    ++ (match r.ack with
        | some a => [a.slot, a.version]
        | none => [])

/-- The byte of a condition (9.8). -/
def conditionByte : Condition → Byte
  | .ready => 0
  | .paperOut => 1
  | .headOpen => 2

/-- The bytes of a PRINTER_REPORT with its CRC (9.8). -/
def writePrinterReport (r : PrinterReport) : List Byte :=
  sealed <| [0x21#8, BitVec.ofNat 8 r.credit, conditionByte r.condition]
    ++ (match r.heldTag with
        | some t => [1#8, t, BitVec.ofNat 8 r.copies]
        | none => [0#8, 0#8, 0#8])

/-- The bytes of a DISPENSER_REPORT with its CRC (9.8). -/
def writeDispenserReport (c : Byte) : List Byte := sealed [0x31#8, c]

/-- The byte of a device kind (9.8). -/
def deviceByte : DeviceKind → Byte
  | .head => 1
  | .printer => 2
  | .dispenser => 3

/-- The bytes of a JOIN with its CRC (9.8). -/
def writeJoin (k : DeviceKind) : List Byte := sealed [0x40#8, deviceByte k]

/-- The bytes of an upstream message (9.8). -/
def writeUpstream : Upstream → List Byte
  | .join k => writeJoin k
  | .head r => writeHeadReport r
  | .printer r => writePrinterReport r
  | .dispenser c => writeDispenserReport c

/-- The key a kind code names (9.8). -/
def keyOfCode (b : Byte) : Option KeyKind :=
  match b.toNat with
  | 1 => some .signOn
  | 2 => some .signOff
  | 3 => some .item
  | 4 => some .count
  | 5 => some .zero
  | 6 => some .tare
  | 7 => some .clearTare
  | 8 => some .next
  | 9 => some .skip
  | 10 => some .openKey
  | 11 => some .park
  | 12 => some .pick
  | 13 => some .voidLast
  | 14 => some .voidTicket
  | 15 => some .total
  | 16 => some .label
  | 17 => some .batch
  | 18 => some .clear
  | _ => none

/-! ### Downstream -/

/-- A date, or no date, in three bytes (9.8). -/
def dateBytes : Option Date → List Byte
  | some d => [BitVec.ofNat 8 (d.year - 2000), BitVec.ofNat 8 d.month, BitVec.ofNat 8 d.day]
  | none => [0xFF#8, 0#8, 0#8]

/-- The six bytes of a FRAME_NOTICE (9.8). -/
def writeFrameNotice (frame : Byte) (date : Option Date) : List Byte :=
  sealed ([0x01#8, frame] ++ dateBytes date)

/-- Decimal digits of `n` as characters, with no leading zero; `fuel` bounds their number. -/
def decimal : Nat → Nat → List Byte
  | 0, _ => []
  | fuel + 1, n => (if n < 10 then [] else decimal fuel (n / 10)) ++ [BitVec.ofNat 8 (48 + n % 10)]

/-- The decimal places of `thousandths` without trailing zeros, at most three. -/
def decimals (thousandths : Nat) : List Byte :=
  let a := thousandths / 100
  let b := thousandths / 10 % 10
  let c := thousandths % 10
  let ch := fun d : Nat => BitVec.ofNat 8 (48 + d)
  if c ≠ 0 then [46#8, ch a, ch b, ch c]
  else if b ≠ 0 then [46#8, ch a, ch b]
  else if a ≠ 0 then [46#8, ch a]
  else []

/-- A capacity in tg written in kilograms with as many decimal places as it needs, up to three (R190). -/
def kilograms (tg : Nat) : List Byte := decimal 8 (tg / 10000) ++ decimals (tg % 10000 / 10)

/-- A division in tg written in grams (R190). -/
def grams (tg : Nat) : List Byte := decimal 8 (tg / 10)

/-- Characters as bytes. -/
def chars (s : List Nat) : List Byte := s.map (BitVec.ofNat 8)

/-- The division text of a WELCOME (R190): "Max C kg d=D g", or "Max C1/C2 kg d=D1/D2 g". -/
def divisionText : ScaleType → List Byte
  | .single max d =>
    chars [77, 97, 120, 32] ++ kilograms max ++ chars [32, 107, 103, 32, 100, 61] ++ grams d ++ chars [32, 103]
  | .dual max1 d1 max2 d2 =>
    chars [77, 97, 120, 32] ++ kilograms max1 ++ chars [47] ++ kilograms max2
      ++ chars [32, 107, 103, 32, 100, 61] ++ grams d1 ++ chars [47] ++ grams d2 ++ chars [32, 103]

/-- The unit text "kg" (R190). -/
def kgText : List Byte := chars [107, 103]

end Sys2Proof.Machine
end

