-- ==== Sys2Proof/Machine/Operands.lean ====
section
/-! DEFINITION. Every operand form of a host command: the fields of section 10.5's commands read from a payload and written to one by the kinds of R208, and the checks of their ranges. -/

namespace Sys2Proof.Machine

/-! ### Fields by kind (R208) -/

/-- An unsigned integer of `n` bytes, read from the front of a payload, with what follows it. -/
def getNat (n : Nat) (bs : List Byte) : Option (Nat × List Byte) :=
  if bs.length < n then none else some (ofBe (bs.take n), bs.drop n)

/-- A two's complement integer of `n` bytes. -/
def getInt (n : Nat) (bs : List Byte) : Option (Int × List Byte) :=
  match getNat n bs with
  | some (v, rest) => some (signedOf n v, rest)
  | none => none

/-- An optional integer of `n` bytes behind its presence byte, which is 0x00 or 0x01. -/
def getOpt (n : Nat) : List Byte → Option ((Option Nat) × List Byte)
  | [] => none
  | b :: rest =>
    if b = 0 then some (none, rest)
    else if b = 1 then
      match getNat n rest with
      | some (v, rest) => some (some v, rest)
      | none => none
    else none

/-- A name or a text line: its number of characters, then one byte each. -/
def getText : List Byte → Option ((List Byte) × List Byte)
  | [] => none
  | n :: rest => if rest.length < n.toNat then none else some (rest.take n.toNat, rest.drop n.toNat)

/-- `k` text lines. -/
def getLines : Nat → List Byte → Option ((List (List Byte)) × List Byte)
  | 0, bs => some ([], bs)
  | k + 1, bs =>
    match getText bs with
    | some (l, rest) =>
      match getLines k rest with
      | some (ls, rest) => some (l :: ls, rest)
      | none => none
    | none => none

/-- The scale type of CONFIGURE_HEAD: the alternative byte and its fields. An alternative byte that names none
takes every byte but the four that the fields after the scale type need (DESIGN CHOICE, log 20). -/
def getScale : List Byte → Option (RawScale × List Byte)
  | [] => none
  | t :: rest =>
    if t = 0 then do
      let (max, rest) ← getNat 3 rest
      let (d, rest) ← getNat 1 rest
      some (.single max d, rest)
    else if t = 1 then do
      let (max1, rest) ← getNat 3 rest
      let (d1, rest) ← getNat 1 rest
      let (max2, rest) ← getNat 3 rest
      let (d2, rest) ← getNat 1 rest
      some (.dual max1 d1 max2 d2, rest)
    else if rest.length < 4 then none
    else some (.other t (rest.take (rest.length - 4)), rest.drop (rest.length - 4))

/-- A command whose fields use up the whole payload. -/
def whole {α : Type} (f : Option (α × List Byte)) : Option α :=
  match f with
  | some (a, []) => some a
  | _ => none

/-- The operands of CONFIGURE_HEAD (R4), in the order of R2. -/
def getHead (bs : List Byte) : Option (RawHead × List Byte) := do
  let (head, bs) ← getNat 1 bs
  let (role, bs) ← getNat 1 bs
  let (z0, bs) ← getInt 3 bs
  let (span, bs) ← getNat 3 bs
  let (zr, bs) ← getNat 3 bs
  let (scale, bs) ← getScale bs
  let (printer, bs) ← getNat 1 bs
  let (lineLabels, bs) ← getNat 1 bs
  let (idle, bs) ← getNat 2 bs
  some (⟨head, role, z0, span, zr, scale, printer, lineLabels, idle⟩, bs)

/-- The operands of CONFIGURE_PAIR (R3), in the order of R1. -/
def getPair (bs : List Byte) : Option (RawPair × List Byte) := do
  let (pair, bs) ← getNat 1 bs
  let (depth, bs) ← getNat 1 bs
  let (window, bs) ← getNat 1 bs
  let (silence, bs) ← getNat 1 bs
  let (mode, bs) ← getNat 1 bs
  let (gain, bs) ← getNat 1 bs
  some (⟨pair, depth, window, silence, mode, gain⟩, bs)

/-- The operands of ADD_ITEM (R61). Of the three optional fields that R61 speaks of, R55 lets two of the carried ones be
absent, preset tare and shelf days: these two have a presence byte, and no other (DESIGN CHOICE, log 19). -/
def getNewItem (bs : List Byte) : Option ((RawItem × Nat) × List Byte) := do
  let (number, bs) ← getNat 3 bs
  let (name, bs) ← getText bs
  let (mode, bs) ← getNat 1 bs
  let (price, bs) ← getNat 3 bs
  let (preset, bs) ← getOpt 2 bs
  let (shelf, bs) ← getOpt 2 bs
  let (dept, bs) ← getNat 1 bs
  let (format, bs) ← getNat 1 bs
  some ((⟨number, name, mode, preset, shelf, dept, format⟩, price), bs)

/-- The operands of UPDATE_ITEM (R62). -/
def getItem (bs : List Byte) : Option (RawItem × List Byte) := do
  let (number, bs) ← getNat 3 bs
  let (name, bs) ← getText bs
  let (mode, bs) ← getNat 1 bs
  let (preset, bs) ← getOpt 2 bs
  let (shelf, bs) ← getOpt 2 bs
  let (dept, bs) ← getNat 1 bs
  let (format, bs) ← getNat 1 bs
  some (⟨number, name, mode, preset, shelf, dept, format⟩, bs)

/-- One operand of `n` bytes. -/
def get1 (n : Nat) (bs : List Byte) : Option Nat := whole (getNat n bs)

/-- Two operands of `m` and `n` bytes. -/
def get2 (m n : Nat) (bs : List Byte) : Option (Nat × Nat) := whole do
  let (a, bs) ← getNat m bs
  let (b, bs) ← getNat n bs
  some ((a, b), bs)

/-- The operands of PRINT_TEXT (R148). -/
def getPrint (bs : List Byte) : Option ((Nat × Nat × List (List Byte)) × List Byte) := do
  let (printer, bs) ← getNat 1 bs
  let (copies, bs) ← getNat 1 bs
  let (k, bs) ← getNat 1 bs
  let (text, bs) ← getLines k bs
  some ((printer, copies, text), bs)

/-- The operands of OPEN_DAY: a date as bytes 2 to 4 of a FRAME_NOTICE (R160, R208). Year byte 0xFF, which stands
for no date there, reads as the year 2255, which no calendar date has. -/
def getDate (bs : List Byte) : Option ((Nat × Nat × Nat) × List Byte) := do
  let (y, bs) ← getNat 1 bs
  let (m, bs) ← getNat 1 bs
  let (d, bs) ← getNat 1 bs
  some ((y + 2000, m, d), bs)

/-- A command without operands: its payload is empty. -/
def bare (c : HostCmd) (bs : List Byte) : Option HostCmd := if bs = [] then some c else none

/-- Check 5 of R198: the command that code and payload spell, when the payload holds the fields the command's owner
names, in order, with the lengths their kinds give. A code outside section 10.5 spells none. -/
def readCommand (code : Byte) (bs : List Byte) : Option HostCmd :=
  match code.toNat with
  | 0x01 => (whole (getHead bs)).map .configureHead
  | 0x02 => (whole (getPair bs)).map .configurePair
  | 0x03 => (get1 2 bs).map .setSlots
  | 0x04 => bare .linkRestart bs
  | 0x05 => (get1 1 bs).map .readLink
  | 0x06 => (get1 1 bs).map .readHead
  | 0x10 => (whole (getNewItem bs)).map fun p => .addItem p.1 p.2
  | 0x11 => (whole (getItem bs)).map .updateItem
  | 0x12 => (get1 3 bs).map .findItem
  | 0x13 => (get1 3 bs).map .nextItem
  | 0x14 => (get2 3 3 bs).map fun p => .stagePrice p.1 p.2
  | 0x15 => (get1 3 bs).map .unstagePrice
  | 0x16 => bare .commitPrices bs
  | 0x17 => (get1 3 bs).map .withdrawItem
  | 0x18 => (get1 3 bs).map .reinstateItem
  | 0x19 => (get1 1 bs).map .readCopies
  | 0x20 => (get2 2 2 bs).map fun p => .setNumberRange p.1 p.2
  | 0x21 => bare .readQueue bs
  | 0x22 => (get1 1 bs).map .listTickets
  | 0x23 => (get2 1 1 bs).map fun p => .readTicket p.1 p.2
  | 0x24 => (get2 1 1 bs).map fun p => .voidTicket p.1 p.2
  | 0x25 => (get2 1 1 bs).map fun p => .collectTicket p.1 p.2
  | 0x26 => (get1 1 bs).map .setCollection
  | 0x30 => (whole (getPrint bs)).map fun p => .printText p.1 p.2.1 p.2.2
  | 0x31 => (get1 1 bs).map .cancelJob
  | 0x32 => (get2 1 1 bs).map fun p => .redirectJobs p.1 p.2
  | 0x33 => (get1 1 bs).map .readPrinter
  | 0x40 => (whole (getDate bs)).map fun p => .openDay p.1 p.2.1 p.2.2
  | 0x41 => bare .closeDay bs
  | 0x42 => (get1 1 bs).map .readTotals
  | 0x43 => (get1 1 bs).map .readHold
  | 0x44 => (get1 1 bs).map .readClosing
  | 0x50 => bare .readStatus bs
  | 0x51 => bare .hubReset bs
  | _ => none

/-- The code of a command (section 10.5). -/
def commandCode : HostCmd → Byte
  | .configureHead .. => 0x01
  | .configurePair .. => 0x02
  | .setSlots .. => 0x03
  | .linkRestart => 0x04
  | .readLink .. => 0x05
  | .readHead .. => 0x06
  | .addItem .. => 0x10
  | .updateItem .. => 0x11
  | .findItem .. => 0x12
  | .nextItem .. => 0x13
  | .stagePrice .. => 0x14
  | .unstagePrice .. => 0x15
  | .commitPrices => 0x16
  | .withdrawItem .. => 0x17
  | .reinstateItem .. => 0x18
  | .readCopies .. => 0x19
  | .setNumberRange .. => 0x20
  | .readQueue => 0x21
  | .listTickets .. => 0x22
  | .readTicket .. => 0x23
  | .voidTicket .. => 0x24
  | .collectTicket .. => 0x25
  | .setCollection .. => 0x26
  | .printText .. => 0x30
  | .cancelJob .. => 0x31
  | .redirectJobs .. => 0x32
  | .readPrinter .. => 0x33
  | .openDay .. => 0x40
  | .closeDay => 0x41
  | .readTotals .. => 0x42
  | .readHold .. => 0x43
  | .readClosing .. => 0x44
  | .readStatus => 0x50
  | .hubReset => 0x51

/-! ### The same fields, written -/

/-- An optional integer of `n` bytes behind its presence byte (R208). -/
def putOpt (n : Nat) : Option Nat → List Byte
  | none => [0#8]
  | some v => 1#8 :: beNat n v

/-- A name or a text line (R208). -/
def putText (t : List Byte) : List Byte := BitVec.ofNat 8 t.length :: t

/-- The scale type of CONFIGURE_HEAD (R208). -/
def putScale : RawScale → List Byte
  | .single max d => 0#8 :: (beNat 3 max ++ beNat 1 d)
  | .dual max1 d1 max2 d2 => 1#8 :: (beNat 3 max1 ++ beNat 1 d1 ++ beNat 3 max2 ++ beNat 1 d2)
  | .other t fs => t :: fs

/-- The payload of a command (R208). -/
def commandPayload : HostCmd → List Byte
  | .configureHead f =>
    beNat 1 f.head ++ beNat 1 f.role ++ beInt 3 f.z0 ++ beNat 3 f.span ++ beNat 3 f.zr ++ putScale f.scale
      ++ beNat 1 f.printer ++ beNat 1 f.lineLabels ++ beNat 2 f.idle
  | .configurePair f =>
    beNat 1 f.pair ++ beNat 1 f.depth ++ beNat 1 f.window ++ beNat 1 f.silence ++ beNat 1 f.mode ++ beNat 1 f.gain
  | .setSlots m => beNat 2 m
  | .linkRestart => []
  | .readLink c => beNat 1 c
  | .readHead h => beNat 1 h
  | .addItem f p =>
    beNat 3 f.number ++ putText f.name ++ beNat 1 f.mode ++ beNat 3 p ++ putOpt 2 f.preset ++ putOpt 2 f.shelf
      ++ beNat 1 f.dept ++ beNat 1 f.format
  | .updateItem f =>
    beNat 3 f.number ++ putText f.name ++ beNat 1 f.mode ++ putOpt 2 f.preset ++ putOpt 2 f.shelf
      ++ beNat 1 f.dept ++ beNat 1 f.format
  | .findItem n => beNat 3 n
  | .nextItem n => beNat 3 n
  | .stagePrice n p => beNat 3 n ++ beNat 3 p
  | .unstagePrice n => beNat 3 n
  | .commitPrices => []
  | .withdrawItem n => beNat 3 n
  | .reinstateItem n => beNat 3 n
  | .readCopies h => beNat 1 h
  | .setNumberRange l c => beNat 2 l ++ beNat 2 c
  | .readQueue => []
  | .listTickets k => beNat 1 k
  | .readTicket t u => beNat 1 t ++ beNat 1 u
  | .voidTicket t u => beNat 1 t ++ beNat 1 u
  | .collectTicket t u => beNat 1 t ++ beNat 1 u
  | .setCollection c => beNat 1 c
  | .printText p k ls => beNat 1 p ++ beNat 1 k ++ beNat 1 ls.length ++ ls.flatMap putText
  | .cancelJob t => beNat 1 t
  | .redirectJobs p q => beNat 1 p ++ beNat 1 q
  | .readPrinter p => beNat 1 p
  | .openDay y m d => beNat 1 (y - 2000) ++ beNat 1 m ++ beNat 1 d
  | .closeDay => []
  | .readTotals g => beNat 1 g
  | .readHold k => beNat 1 k
  | .readClosing r => beNat 1 r
  | .readStatus => []
  | .hubReset => []

/-- The bytes of a command frame (section 10.6). -/
def commandFrame (c : HostCmd) : List Byte :=
  commandCode c :: (beNat 2 (commandPayload c).length ++ commandPayload c)

/-! ### Ranges and enumerations -/

/-- Entry `n` of a table of `k`, when there is one. -/
def index? (k n : Nat) : Option (Fin k) := if h : n < k then some ⟨n, h⟩ else none

/-- Role byte (R2, R208). -/
def roleOf : Nat → Option Role
  | 0 => some .disabled
  | 1 => some .service
  | 2 => some .prepack
  | _ => none

/-- Zero tracking mode byte (R1, R208). -/
def trackModeOf : Nat → Option TrackMode
  | 0 => some .off
  | 1 => some .oneStep
  | 2 => some .proportional
  | _ => none

/-- Sale mode byte (R55, R208). -/
def saleModeOf : Nat → Option SaleMode
  | 0 => some .weighed
  | 1 => some .counted
  | 2 => some .fixed
  | _ => none

/-- Accumulator group byte (R153, R208). -/
def groupOf : Nat → Option Group
  | 0 => some .grand
  | 1 => some .head
  | 2 => some .operator
  | 3 => some .department
  | 4 => some .item
  | _ => none

/-- An on/off or set/clear byte (R208). -/
def switchOf : Nat → Option Bool
  | 0 => some false
  | 1 => some true
  | _ => none

/-- Whether a division in grams is one of the six (R2). -/
def divisionGood (g : Nat) : Bool := [1, 2, 5, 10, 20, 50].contains g

/-- Whether a capacity in tg may stand with a division in grams (R4). -/
def capacityGood (max g : Nat) : Bool :=
  max != 0 && decide (max ≤ Config.capacityLimit) && max % (10 * g) == 0

/-- The scale type of CONFIGURE_HEAD with its divisions turned to tg, when R4 admits it. -/
def scaleOf : RawScale → Option ScaleType
  | .single max d => if divisionGood d && capacityGood max d then some (.single max (10 * d)) else none
  | .dual max1 d1 max2 d2 =>
    if divisionGood d1 && divisionGood d2 && capacityGood max1 d1 && capacityGood max2 d2 && decide (max1 < max2)
        && decide (d1 < d2) then
      some (.dual max1 (10 * d1) max2 (10 * d2))
    else none
  | .other .. => none

/-- Whether a ticket idle limit is off or in its range (R2). -/
def idleGood (n : Nat) : Bool := n == 0 || (decide (3000 ≤ n) && decide (n ≤ 60000))

/-- The head and settings of a CONFIGURE_HEAD whose values R4 admits; none is BAD_VALUE. -/
def headSettingsOf (f : RawHead) : Option (Head × HeadSettings) := do
  let h ← index? 8 f.head
  let role ← roleOf f.role
  let scale ← scaleOf f.scale
  let printer ← index? 2 f.printer
  let labels ← switchOf f.lineLabels
  if -8388607 ≤ f.z0 ∧ f.z0 ≤ 8388606 ∧ 1 ≤ f.span ∧ f.span ≤ 1048575 ∧ f.zr ≤ 1048575 ∧ idleGood f.idle then
    some (h, ⟨role, f.z0, f.span, f.zr, scale, printer, labels, f.idle⟩)
  else none

/-- The pair and settings of a CONFIGURE_PAIR whose values R3 admits; none is BAD_VALUE. -/
def pairSettingsOf (f : RawPair) : Option (PairIndex × PairSettings) := do
  let p ← index? 4 f.pair
  let mode ← trackModeOf f.mode
  if [4, 8, 16].contains f.depth && [3, 6, 12, 24].contains f.window && [20, 80].contains f.silence
      && [1, 2, 4, 8].contains f.gain then
    some (p, ⟨f.depth, f.window, f.silence, mode, f.gain⟩)
  else none

/-- A slot mask as its number gives it, bit i for slot i; a bit beyond slot 10 is BAD_VALUE (R180, log 19). -/
def maskOf (m : Nat) : Option (Table Bool 11) := if m < 2048 then some (Table.gen fun i => m.testBit i.val) else none

/-- Whether characters have codes 32 to 126 (R55). -/
def charsGood (t : List Byte) : Bool := t.all fun c => decide (32 ≤ c.toNat) && decide (c.toNat ≤ 126)

/-- Whether an item number is 1 to 999,999 (R55). -/
def numberGood (n : Nat) : Bool := decide (1 ≤ n) && decide (n ≤ Config.itemNumberLimit)

/-- The descriptive fields of an item whose values R55 admits. -/
structure ItemFields where
  number : Nat
  name : List Byte
  mode : SaleMode
  preset : Option Nat
  shelf : Option Nat
  dept : Dept
  format : Fin 4
  deriving DecidableEq, Repr

/-- The fields of an ADD_ITEM or UPDATE_ITEM that R55 admits; none is BAD_VALUE (R60). -/
def itemFieldsOf (f : RawItem) : Option ItemFields := do
  let mode ← saleModeOf f.mode
  let dept ← index? 16 f.dept
  let format ← index? 4 f.format
  if numberGood f.number && decide (1 ≤ f.name.length) && decide (f.name.length ≤ 24) && charsGood f.name
      && f.preset.all (fun t => decide (1 ≤ t) && decide (t ≤ 10000)) && f.shelf.all (fun d => decide (d ≤ 365)) then
    some ⟨f.number, f.name, mode, f.preset, f.shelf, dept, format⟩
  else none

/-- Days of a month (R134). -/
def monthDays (year month : Nat) : Nat :=
  match month with
  | 2 => if year % 4 = 0 then 29 else 28
  | 4 => 30
  | 6 => 30
  | 9 => 30
  | 11 => 30
  | _ => 31

/-- The calendar date of year, month and day, when there is one (00_scope.md section 4.1, R160). -/
def dateOf (y m d : Nat) : Option Date :=
  if 2000 ≤ y ∧ y ≤ 2099 ∧ 1 ≤ m ∧ m ≤ 12 ∧ 1 ≤ d ∧ d ≤ monthDays y m then some ⟨y, m, d⟩ else none

end Sys2Proof.Machine
end

