-- ==== Sys2Proof/Machine/Flags.lean ====
section
/-! DEFINITION. The attention flags of the Host Port: every setting, the level flags, and the pins that follow from state. -/

namespace Sys2Proof.Machine

/-- A change of the latched flags. -/
def latch (f : Latched → Latched) (s : State) : State :=
  { s with port := { s.port with latched := f s.port.latched } }

/-- HEAD_LOST with source `h` (R184, R203). -/
def flagHeadLost (h : Head) : State → State := latch fun l => { l with headLost := l.headLost.put h true }

/-- PRINTER_LOST with source `p` (R184, R203). -/
def flagPrinterLost (p : Printer) : State → State := latch fun l => { l with printerLost := l.printerLost.put p true }

/-- DISPENSER_LOST (R184). -/
def flagDispenserLost : State → State := latch fun l => { l with dispenserLost := true }

/-- PRINTER_STOPPED with source `p` (R143, R203). -/
def flagPrinterStopped (p : Printer) : State → State :=
  latch fun l => { l with printerStopped := l.printerStopped.put p true }

/-- CELL_FAULT with source `h` (R10, R203). -/
def flagCellFault (h : Head) : State → State := latch fun l => { l with cellFault := l.cellFault.put h true }

/-- ZERO_LIMIT with source `h` (R16, R203). -/
def flagZeroLimit (h : Head) : State → State := latch fun l => { l with zeroLimit := l.zeroLimit.put h true }

/-- TOTAL_SATURATED (R157). -/
def flagSaturated : State → State := latch fun l => { l with totalSaturated := true }

/-- IN_STEP (R87). -/
def flagInStep : State → State := latch fun l => { l with inStep := true }

/-- DISPENSER_REFUSED (R93). -/
def flagRefused : State → State := latch fun l => { l with dispenserRefused := true }

/-- PORT_OVERRUN (R197). -/
def flagOverrun : State → State := latch fun l => { l with portOverrun := true }

/-- Whether a source stands in a set of sources. -/
def anySource {n : Nat} (t : Table Bool n) : Bool := t.toList.any id

/-- Whether any latched flag stands (R202). -/
def anyLatched (l : Latched) : Bool :=
  anySource l.headLost || anySource l.printerLost || l.dispenserLost || anySource l.printerStopped
    || anySource l.cellFault || anySource l.zeroLimit || l.totalSaturated || l.inStep || l.dispenserRefused
    || l.portOverrun

/-- How many ticket records stand in state `k`. -/
def countTickets (k : TicketState) (s : State) : Nat := s.tkp.tickets.toList.countP fun t => t.state == k

/-- The level flag TICKETS_TO_COLLECT (R127, R204). -/
def ticketsToCollect (s : State) : Bool := countTickets .closed s != 0

/-- The level flag POOL_FULL (R127, R204). -/
def poolFullFlag (s : State) : Bool := countTickets .free s == 0

/-- The ATTN pin (R205). -/
def attn (s : State) : Bool := anyLatched s.port.latched || ticketsToCollect s || poolFullFlag s

/-- The RDY pin (R195, R196): low exactly while a command is in process or the RESET pin is held low. -/
def rdy (s : State) : Bool := s.port.inProcess.isNone && !s.resetLow

/-- The port byte (section 10.6). -/
def portByte (v : PortView) : Byte :=
  BitVec.ofNat 8 ((if v.rdy then 1 else 0) + (if v.held then 2 else 0) + (if v.attn then 4 else 0))

/-- What the port shows now (R196). -/
def portView (s : State) : PortView := ⟨rdy s, s.port.buffer.isSome, attn s⟩

end Sys2Proof.Machine
end

