-- ==== Sys2Proof/Machine/Ops.lean ====
section
/-! DEFINITION. The named operations over the hub's records: reading one, changing one, and the small computations the chapters share. -/

namespace Sys2Proof.Machine

/-! ### Rounding (00_scope.md section 4.2) -/

/-- `num / den` rounded half away from zero, for positive `den`. -/
def roundAway (num : Int) (den : Nat) : Int :=
  let q : Nat := (2 * num.natAbs + den) / (2 * den)
  if num < 0 then -(q : Int) else q

/-- `x` rounded half away to a whole multiple of `d`. -/
def roundTo (x : Int) (d : Nat) : Int := roundAway x d * d

/-- `num / den` rounded half up, for natural numbers and positive `den`. -/
def roundUp (num den : Nat) : Nat := (2 * num + den) / (2 * den)

/-! ### One record of a block: read it, change it -/

/-- Settings of head `h`. -/
def settings (h : Head) (s : State) : HeadSettings := s.wge.settings.look h

/-- Role of head `h`. -/
def role (h : Head) (s : State) : Role := (settings h s).role

/-- The pair of head `h` (R1). -/
def pairOf (h : Head) : PairIndex := ⟨h.val / 2, by omega⟩

/-- Pair settings that hold for head `h`. -/
def pairSettings (h : Head) (s : State) : PairSettings := s.wge.pairs.look (pairOf h)

/-- Channel of head `h`. -/
def chan (h : Head) (s : State) : Channel := s.wge.chans.look h

/-- Change of the channel of head `h`. -/
def onChan (h : Head) (f : Channel → Channel) (s : State) : State :=
  { s with wge := { s.wge with chans := s.wge.chans.change h f } }

/-- Context of head `h`. -/
def ctx (h : Head) (s : State) : HeadCtx := s.hsu.heads.look h

/-- Change of the context of head `h`. -/
def onCtx (h : Head) (f : HeadCtx → HeadCtx) (s : State) : State :=
  { s with hsu := { s.hsu with heads := s.hsu.heads.change h f } }

/-- Entry of operator `n` in the sign-on table. -/
def signedOnAt (n : Operator) (s : State) : Option Head := s.hsu.signOn.look n

/-- Write of operator `n`'s entry in the sign-on table. -/
def setSignOn (n : Operator) (e : Option Head) (s : State) : State :=
  { s with hsu := { s.hsu with signOn := s.hsu.signOn.put n e } }

/-- Ticket record in slot `t`. -/
def ticket (t : TicketSlot) (s : State) : Ticket := s.tkp.tickets.look t

/-- Change of the ticket record in slot `t`. -/
def onTicket (t : TicketSlot) (f : Ticket → Ticket) (s : State) : State :=
  { s with tkp := { s.tkp with tickets := s.tkp.tickets.change t f } }

/-- Copy list of head `h`. -/
def copies (h : Head) (s : State) : CopyList := s.ccu.lists.look h

/-- Change of the copy list of head `h`. -/
def onCopies (h : Head) (f : CopyList → CopyList) (s : State) : State :=
  { s with ccu := { s.ccu with lists := s.ccu.lists.change h f } }

/-- Printer context `p`. -/
def printer (p : Printer) (s : State) : PrinterCtx := s.lbc.printers.look p

/-- Change of printer context `p`. -/
def onPrinter (p : Printer) (f : PrinterCtx → PrinterCtx) (s : State) : State :=
  { s with lbc := { s.lbc with printers := s.lbc.printers.change p f } }

/-- Job queue of printer `p`, front first. -/
def queue (p : Printer) (s : State) : List Job := s.lbc.queues.look p

/-- Change of the job queue of printer `p`. -/
def onQueue (p : Printer) (f : List Job → List Job) (s : State) : State :=
  { s with lbc := { s.lbc with queues := s.lbc.queues.change p f } }

/-- What the Link Controller holds for slot `i`. -/
def slotLink (i : Slot) (s : State) : SlotLink := s.lnk.slots.look i

/-- Change of what the Link Controller holds for slot `i`. -/
def onSlot (i : Slot) (f : SlotLink → SlotLink) (s : State) : State :=
  { s with lnk := { s.lnk with slots := s.lnk.slots.change i f } }

/-- Presence state of slot `i`. -/
def presence (i : Slot) (s : State) : Presence := (slotLink i s).presence

/-- What the Link Controller holds for head `h` beside its slot. -/
def headLink (h : Head) (s : State) : HeadLink := s.lnk.heads.look h

/-- Change of what the Link Controller holds for head `h`. -/
def onHeadLink (h : Head) (f : HeadLink → HeadLink) (s : State) : State :=
  { s with lnk := { s.lnk with heads := s.lnk.heads.change h f } }

/-- What has been handed on from head `h`'s reports. -/
def inbox (h : Head) (s : State) : Inbox := s.hand.inbox.look h

/-- Change of what has been handed on from head `h`'s reports. -/
def onInbox (h : Head) (f : Inbox → Inbox) (s : State) : State :=
  { s with hand := { s.hand with inbox := s.hand.inbox.change h f } }

/-- Change of the item records. -/
def onItems (f : List Item → List Item) (s : State) : State :=
  { s with itb := { s.itb with items := f s.itb.items } }

/-- The slots that link parts concern: the message sent in slot `i` of the frame in progress. -/
def send (i : Fin 12) (m : Downstream) (s : State) : State := { s with down := s.down.put i (some m) }

/-- A device slot among the twelve slots of a frame. -/
def downSlot (i : Slot) : Fin 12 := ⟨i.val, by omega⟩

/-- One event at each head in ascending order. -/
def eachHead (f : Head → State → State) (s : State) : State := allHeads.foldl (fun s h => f h s) s

/-- One event at each device slot in ascending order. -/
def eachSlot (f : Slot → State → State) (s : State) : State := allSlots.foldl (fun s i => f i s) s

/-- One event at each device slot in descending order: when one event signs off several heads, their numbers then
stand at the front of the waiting list in ascending order of head index (R101). -/
def eachSlotDown (f : Slot → State → State) (s : State) : State := allSlots.reverse.foldl (fun s i => f i s) s

/-! ### Questions that several blocks ask -/

/-- A lookup by item number (R57). -/
def findItem (n : Nat) (s : State) : Option Item := s.itb.items.find? fun i => i.number == n

/-- The record at a record index (R56). -/
def itemAt (k : Nat) (s : State) : Option Item := s.itb.items.find? fun i => i.index == k

/-- Change of the record at a record index. -/
def onItemAt (k : Nat) (f : Item → Item) : State → State :=
  onItems fun is => is.map fun i => if i.index == k then f i else i

/-- Whether the item table holds an ACTIVE record with number `n` (R46, R50). -/
def activeItem (n : Nat) (s : State) : Bool :=
  match findItem n s with
  | some i => i.state == .active
  | none => false

/-- Service state of a head context (R31). -/
def serviceOf (c : HeadCtx) : Service :=
  match c.operator, c.held with
  | none, _ => .off
  | some _, none => .ready
  | some _, some _ => .serving

/-- Service state of head `h` (R31). -/
def service (h : Head) (s : State) : Service := serviceOf (ctx h s)

/-- Whether a slot's device is on the link: ONLINE or SILENT. -/
def onLink (i : Slot) (s : State) : Bool := presence i s == .online || presence i s == .silent

/-- Whether the day is DAY_OPEN (R163). -/
def dayOpen (s : State) : Bool := s.tot.day == .opened

/-- The heads, or the printers, whose entry of a table is set. -/
def sources {n : Nat} (t : Table Bool n) : List (Fin n) := (List.finRange n).filter fun i => t.look i

end Sys2Proof.Machine
end

