-- ==== Sys2Proof/Machine/Channel.lean ====
section
/-! DEFINITION. The weighing channel: restart and idle, the path from raw count to channel result, the weighing keys and the price formulas (chapter 1). -/

namespace Sys2Proof.Machine

/-! ### The scale type (R2) -/

/-- The smallest division, tg. -/
def divSmall : ScaleType → Nat
  | .single _ d => d
  | .dual _ d1 _ _ => d1

/-- The limit of the first interval, tg. -/
def maxFirst : ScaleType → Nat
  | .single max _ => max
  | .dual max1 _ _ _ => max1

/-- The division of the top interval, tg. -/
def divTop : ScaleType → Nat
  | .single _ d => d
  | .dual _ _ _ d2 => d2

/-- The capacity, tg. -/
def maxTop : ScaleType → Nat
  | .single max _ => max
  | .dual _ _ max2 _ => max2

/-! ### Restart and idle -/

/-- A channel result of a state that gives no weight (R7, R8, R10, R12). -/
def blankResult (state : ChanState) (v : Verdict) : ChanResult :=
  { state := state, gross := none, tare := none, net := none, division := none, shown := none, stable := false,
    zeroFlag := false, netFlag := false, overFlag := false, underFlag := false, verdict := v }

/-- The verdict not eligible with reason UNSTABLE. -/
def unstable : Verdict := .notEligible .unstable

/-- A restart (R7) that leaves a channel outside `to` states as the rule lists: SETTLING and ACTIVE enter SETTLING,
CELL_FAULT and IDLE stay. The channel that leaves a fault is restarted by `leaveFault`. -/
def restartChannel (c : Channel) : Channel :=
  { c with
    state := match c.state with
      | .idle => .idle
      | .cellFault => .cellFault
      | .settling => .settling
      | .active => .settling
    window := [], history := [], railRun := 0, clearRun := 0, lock := .armed, last := none
    verdict := match c.state with
      | .active => unstable
      | _ => c.verdict }

/-- A channel that goes to IDLE (R8): the values of R5, with Z at the calibration zero. -/
def toIdle (cfg : HeadSettings) (_ : Channel) : Channel := idleChannel cfg.z0

/-- A channel in IDLE that starts weighing (R6): SETTLING, with nothing else changed. -/
def startSettling (c : Channel) : Channel :=
  match c.state with
  | .idle => { c with state := .settling }
  | _ => c

/-! ### Stages of a sample -/

/-- The two rails (R10). -/
def isRail (raw : Int) : Bool := raw == -8388608 || raw == 8388607

/-- A list with `x` joined at its newest end and at most `n` values kept (R12, R14). -/
def pushLast (n : Nat) (xs : List Int) (x : Int) : List Int :=
  let ys := xs ++ [x]
  ys.drop (ys.length - n)

/-- The average of the filter window (R12); `/` on a positive divisor is floor division. -/
def average (depth : Nat) (window : List Int) : Int := (window.sum + (depth / 2 : Nat)) / depth

/-- Gross weight from an average (R13). -/
def grossOf (cfg : HeadSettings) (zero avg : Int) : Int := roundAway ((avg - zero) * cfg.span) 65536

/-- Whether a stability history is full and within d1 (R14). -/
def stableHistory (m d1 : Nat) : List Int → Bool
  | [] => false
  | g :: gs => (g :: gs).length == m && decide (gs.foldl max g - gs.foldl min g ≤ d1)

/-- The tare in force (R17). -/
def tareInForce (cfg : HeadSettings) (c : Channel) : Option Tare :=
  match c.manual with
  | some t => some ⟨t, .manual⟩
  | none =>
    match c.offer with
    | some t =>
      let r := (roundTo t (divSmall cfg.scale)).toNat
      if r = 0 then none else some ⟨r, .preset⟩
    | none => none

/-- The zero tracking step of R15 for an error `e` in raw counts. -/
def trackStep (p : PairSettings) (e : Int) : Int :=
  match p.mode with
  | .off => 0
  | .oneStep => e.sign
  | .proportional =>
    let t := Int.tdiv (e * p.gain) 16
    if t = 0 then e.sign else t

/-- The lower limit of the zero count (R16). -/
def zeroLow (cfg : HeadSettings) : Int := cfg.z0 - cfg.zr

/-- The upper limit of the zero count (R16). -/
def zeroHigh (cfg : HeadSettings) : Int := cfg.z0 + cfg.zr

/-- A zero count kept within its limits, and whether it was clamped (R16). -/
def clampZero (cfg : HeadSettings) (z : Int) : Int × Bool :=
  if zeroHigh cfg < z then (zeroHigh cfg, true)
  else if z < zeroLow cfg then (zeroLow cfg, true)
  else (z, false)

/-- Whether zero tracking runs on an ACTIVE sample (R15). -/
def tracks (cfg : HeadSettings) (p : PairSettings) (requestPending stable : Bool) (tare : Option Tare)
    (gross : Int) : Bool :=
  stable && tare.isNone && !requestPending && p.mode != .off && decide (2 * gross.natAbs ≤ divSmall cfg.scale)

/-- The division of a sample, chosen from the unrounded net (R18). -/
def chooseDivision (sc : ScaleType) (net : Int) : Nat := if net ≤ maxFirst sc then divSmall sc else divTop sc

/-- Indicator OVER (R19). -/
def isOver (sc : ScaleType) (gross : Int) : Bool := decide ((maxTop sc + 9 * divTop sc : Nat) < gross)

/-- Indicator UNDER (R19). -/
def isUnder (sc : ScaleType) (gross : Int) : Bool := decide (gross < -((20 * divSmall sc : Nat) : Int))

/-- The verdict of an ACTIVE sample (R21): the first failing condition in the table's order. -/
def verdictOf (sc : ScaleType) (lock : Lock) (stable : Bool) (gross : Int) (shown : Option Int) : Verdict :=
  if !stable then .notEligible .unstable
  else if isOver sc gross || decide ((maxTop sc : Int) < gross) then .notEligible .overCap
  else
    match shown with
    | none => .notEligible .belowMin
    | some w =>
      if w < ((20 * divSmall sc : Nat) : Int) then .notEligible .belowMin
      else
        match lock with
        | .locked => .notEligible .locked
        | .armed => .eligible

/-- The channel result of an ACTIVE sample (R17 to R21). -/
def activeResult (cfg : HeadSettings) (lock : Lock) (stable : Bool) (tare : Option Tare) (gross : Int) :
    ChanResult :=
  let sc := cfg.scale
  let net := match tare with
    | some t => gross - t.value
    | none => gross
  let division := chooseDivision sc net
  let shown := if isOver sc gross || isUnder sc gross then none else some (roundTo net division)
  { state := .active, gross := some gross, tare := tare, net := some net, division := some division, shown := shown,
    stable := stable, zeroFlag := decide (4 * gross.natAbs ≤ divSmall sc), netFlag := tare.isSome,
    overFlag := isOver sc gross, underFlag := isUnder sc gross, verdict := verdictOf sc lock stable gross shown }

/-- What processing one sample leaves (section 1.4): the channel, the result handed to the Head Service Unit, and
what the sample sets off: the clamp of R16, the entry of R10, the newly set OVER of R19. -/
structure Processed where
  chan : Channel
  result : ChanResult
  zeroLimit : Bool
  cellFault : Bool
  newOver : Bool
  deriving DecidableEq, Repr

/-- Whether the previous ACTIVE sample since the last restart had OVER set (R19). -/
def wasOver (c : Channel) : Bool :=
  match c.last with
  | some r => r.state == .active && r.overFlag
  | none => false

/-- Stages 3 to 10 on an ACTIVE sample (R13 to R22) with its average and the filter window that gave it. -/
def activeSample (cfg : HeadSettings) (p : PairSettings) (requestPending : Bool) (c : Channel) (window : List Int) :
    Processed :=
  let avg := average p.depth window
  let gross := grossOf cfg c.zero avg
  let history := pushLast p.window c.history gross
  let stable := stableHistory p.window (divSmall cfg.scale) history
  let tare := tareInForce cfg c
  let clamped :=
    if tracks cfg p requestPending stable tare gross then clampZero cfg (c.zero + trackStep p (avg - c.zero))
    else (c.zero, false)
  let result := activeResult cfg c.lock stable tare gross
  let lock := if stable && decide (gross ≤ ((10 * divSmall cfg.scale : Nat) : Int)) then Lock.armed else c.lock
  { chan := { c with state := .active, window := window, history := history, railRun := 0, zero := clamped.1,
                     lock := lock, last := some result, verdict := result.verdict }
    result := result, zeroLimit := clamped.2, cellFault := false, newOver := result.overFlag && !wasOver c }

/-- A result handed with no sample's effects beside it. -/
def handed (c : Channel) (r : ChanResult) : Processed :=
  { chan := c, result := r, zeroLimit := false, cellFault := false, newOver := false }

/-- A non-rail sample in SETTLING or ACTIVE (R10, R12). -/
def filterSample (cfg : HeadSettings) (p : PairSettings) (requestPending : Bool) (c : Channel) (raw : Int) :
    Processed :=
  let window := pushLast p.depth c.window raw
  if window.length < p.depth then
    let r := blankResult .settling unstable
    handed { c with state := .settling, window := window, railRun := 0, last := some r, verdict := unstable } r
  else activeSample cfg p requestPending c window

/-- A rail sample in SETTLING or ACTIVE (R10). The eighth enters CELL_FAULT, and its result becomes the last result
(DEDUCED, log 18); an earlier one hands the last result again with its verdict replaced (R20). -/
def railSample (c : Channel) : Processed :=
  if c.railRun + 1 < Config.railSamples then
    let r := match c.last with
      | some l => { l with verdict := unstable }
      | none => blankResult c.state unstable
    handed { c with railRun := c.railRun + 1, verdict := unstable } r
  else
    let r := blankResult .cellFault (.notEligible .cell)
    { chan := { c with state := .cellFault, railRun := Config.railSamples, clearRun := 0, last := some r,
                       verdict := .notEligible .cell }
      result := r, zeroLimit := false, cellFault := true, newOver := false }

/-- The restart that ends a cell fault (R7, R11): SETTLING, emptied. -/
def leaveFault (c : Channel) : Channel := { restartChannel c with state := .settling, verdict := unstable }

/-- A sample in CELL_FAULT (R11). -/
def faultSample (cfg : HeadSettings) (p : PairSettings) (requestPending : Bool) (c : Channel) (raw : Int) :
    Processed :=
  let r := blankResult .cellFault (.notEligible .cell)
  let stay := fun clear : Nat =>
    handed { c with clearRun := clear, last := some r, verdict := .notEligible .cell } r
  if isRail raw then stay 0
  else if c.clearRun + 1 < Config.railSamples then stay (c.clearRun + 1)
  else filterSample cfg p requestPending (leaveFault c) raw

/-- The processing of one sample by a channel (R9 to R22); none in IDLE, where the sample is discarded. -/
def process (cfg : HeadSettings) (p : PairSettings) (requestPending : Bool) (c : Channel) (raw : Int) :
    Option Processed :=
  match c.state with
  | .idle => none
  | .cellFault => some (faultSample cfg p requestPending c raw)
  | .settling => some (if isRail raw then railSample c else filterSample cfg p requestPending c raw)
  | .active => some (if isRail raw then railSample c else filterSample cfg p requestPending c raw)

/-- A frame without a good report: the verdict turns UNSTABLE and nothing else changes (R9). -/
def missedSample (c : Channel) : Channel := { c with verdict := unstable }

/-- Word of a completed weighed capture (R22). The standing verdict turns LOCKED; the verdict inside the last result,
which READ_HEAD returns, stays that of its sample (DEDUCED, log 42). -/
def lockChannel (c : Channel) : Channel := { c with lock := .locked, verdict := .notEligible .locked }

/-! ### The weighing keys (R23 to R26) -/

/-- Whether the last sample was an ACTIVE and stable one (R24, R25; DEDUCED, log 17). -/
def lastStable (c : Channel) : Bool :=
  c.state == .active && (match c.last with
    | some r => r.stable
    | none => false)

/-- The gross of the last result. -/
def lastGross (c : Channel) : Int := (c.last.bind (·.gross)).getD 0

/-- The ZERO key (R24): the channel, or the code it is refused with. -/
def zeroKey (cfg : HeadSettings) (p : PairSettings) (c : Channel) : Except Code Channel :=
  let avg := average p.depth c.window
  if c.state == .cellFault then .error .cell
  else if (tareInForce cfg c).isSome then .error .tareActive
  else if !lastStable c then .error .unstable
  else if cfg.zr < (avg - cfg.z0).natAbs then .error .zeroRange
  else .ok { c with zero := avg, history := [] }

/-- The TARE key (R25): the channel, or the code it is refused with. -/
def tareKey (cfg : HeadSettings) (c : Channel) : Except Code Channel :=
  let gross := lastGross c
  let r := roundTo gross (divSmall cfg.scale)
  if c.state == .cellFault then .error .cell
  else if !lastStable c then .error .unstable
  else if 0 < gross then
    if (maxFirst cfg.scale : Int) < r then .error .tareRange
    else if r = 0 then .ok { c with manual := none }
    else .ok { c with manual := some r.toNat }
  else .ok { c with manual := none }

/-- The CLEAR_TARE key (R26). -/
def clearTareKey (c : Channel) : Channel := { c with manual := none }

/-! ### Amounts (R27) -/

/-- The amount of a quantity at a unit price, or the code the computation is refused with (R27). The quantity is the
shown weight in tg, the piece count, or one piece. -/
def amountOf (mode : SaleMode) (price quantity : Nat) : Except Code Nat :=
  let a := match mode with
    | .weighed => roundUp (quantity * price) 10000
    | .counted => quantity * price
    | .fixed => price
  if price = 0 then .error .noPrice else if Config.amountLimit < a then .error .amountOver else .ok a

end Sys2Proof.Machine
end

