-- ==== Sys2Proof/Machine/Folds.lean ====
section
/-! DEFINITION. Accumulators: sale folds, void folds and saturation (R152 to R157). -/

namespace Sys2Proof.Machine

/-- An addition that saturates at `limit`, and whether it was cut short (R157). -/
def satAdd (limit cur add : Nat) : Nat × Bool :=
  if limit < cur + add then (limit, true) else (cur + add, false)

/-- A sale folded into an accumulator (R154), and whether any field was cut short. -/
def foldSale (mode : SaleMode) (quantity amount : Nat) (a : Acc) : Acc × Bool :=
  let l := satAdd Config.countLimit a.lines 1
  let w := satAdd Config.sumLimit a.weight (if mode = .weighed then quantity else 0)
  let p := satAdd Config.countLimit a.pieces (if mode = .weighed then 0 else quantity)
  let m := satAdd Config.sumLimit a.amount amount
  let cut := l.2 || w.2 || p.2 || m.2
  ({ a with lines := l.1, weight := w.1, pieces := p.1, amount := m.1, saturated := a.saturated || cut }, cut)

/-- A void folded into an accumulator (R155), and whether any field was cut short. -/
def foldVoid (amount : Nat) (a : Acc) : Acc × Bool :=
  let l := satAdd Config.countLimit a.voidLines 1
  let m := satAdd Config.sumLimit a.voidAmount amount
  let cut := l.2 || m.2
  ({ a with voidLines := l.1, voidAmount := m.1, saturated := a.saturated || cut }, cut)

/-- The four keys a fold is made for (R156); the grand accumulator needs none. -/
structure FoldKeys where
  head : Head
  operator : Operator
  dept : Dept
  index : Nat
  deriving DecidableEq, Repr

/-- A fold of `f` into the five accumulators it reaches, in one event (R156); TOTAL_SATURATED is set when it is cut
short in any of them (R157). -/
def foldInto (f : Acc → Acc × Bool) (k : FoldKeys) (s : State) : State :=
  let cut := (f s.tot.grand).2 || (f (s.tot.heads.look k.head)).2 || (f (s.tot.operators.look k.operator)).2
    || (f (s.tot.departments.look k.dept)).2 || (match itemAt k.index s with
      | some i => (f i.acc).2
      | none => false)
  let t := { s.tot with
    grand := (f s.tot.grand).1
    heads := s.tot.heads.change k.head fun a => (f a).1
    operators := s.tot.operators.change k.operator fun a => (f a).1
    departments := s.tot.departments.change k.dept fun a => (f a).1 }
  let s := onItemAt k.index (fun i => { i with acc := (f i.acc).1 }) { s with tot := t }
  if cut then flagSaturated s else s

/-- The keys of a ticket line (R155, R156): those it was captured with. -/
def lineKeys (l : Line) : FoldKeys := ⟨l.head, l.operator, l.dept, l.index⟩

/-- The sale of a ticket line (R154). -/
def foldLineSale (l : Line) : State → State := foldInto (foldSale l.mode l.quantity l.amount) (lineKeys l)

/-- The void of a ticket line (R155). -/
def foldLineVoid (l : Line) : State → State := foldInto (foldVoid l.amount) (lineKeys l)

end Sys2Proof.Machine
end

