-- ==== Sys2Proof/Machine/Labels.lean ====
section
/-! DEFINITION. The Label Controller: tags, label content, job queues, feeding, counting, stops and loss (chapter 7). -/

namespace Sys2Proof.Machine

/-! ### Tags (R131) -/

/-- Whether a tag is in use: carried by a job, reported held, or owed a DROP. -/
def tagInUse (t : Tag) (s : State) : Bool :=
  (queue 0 s).any (·.tag == t) || (queue 1 s).any (·.tag == t)
    || (printer 0 s).heldTag == some t || (printer 1 s).heldTag == some t
    || (printer 0 s).owedDrop == some t || (printer 1 s).owedDrop == some t

/-- The first tag not in use from the candidate upward, with wrap. At most 36 are in use, so one is found. -/
def freshTag (s : State) : Tag :=
  match (List.range 256).find? fun k => !tagInUse (s.lbc.candidate + BitVec.ofNat 8 k) s with
  | some k => s.lbc.candidate + BitVec.ofNat 8 k
  | none => s.lbc.candidate

/-! ### Content (R132 to R134) -/

/-- `n` in five decimal digits with leading zeros. -/
def fiveDigits (n : Nat) : List Nat := [n / 10000 % 10, n / 1000 % 10, n / 100 % 10, n / 10 % 10, n % 10]

/-- Digits in odd places once and in even places three times, summed (R133). -/
def weighted : List Nat → Nat
  | [] => 0
  | [a] => a
  | a :: b :: rest => a + 3 * b + weighted rest

/-- The thirteen digits of a barcode from its format digit, key and amount (R133). -/
def barcodeOf (format key amount : Nat) : List Nat :=
  let ds := [2, format] ++ fiveDigits key ++ fiveDigits amount
  ds ++ [(10 - weighted ds % 10) % 10]

/-- The barcode of an ITEM or PREPACK label, when it has one (R133). -/
def itemBarcode (format : Fin 4) (number amount : Nat) : Option (List Nat) :=
  if 99999 < number ∨ 99999 < amount then none else some (barcodeOf format.val number amount)

/-- The barcode of a SUMMARY label, when it has one (R133); a ticket slot counts from 1. -/
def summaryBarcode (service : Nat) (t : TicketSlot) (total : Nat) : Option (List Nat) :=
  if 99999 < total then none else some (barcodeOf 9 (service * 100 + (t.val + 1)) total)

/-- The next calendar day (R134). -/
def nextDay (d : Date) : Date :=
  if d.day < monthDays d.year d.month then { d with day := d.day + 1 }
  else if d.month < 12 then ⟨d.year, d.month + 1, 1⟩
  else ⟨d.year + 1, 1, 1⟩

/-- A date advanced by `n` days, counted one at a time, and not beyond 2099-12-31 (R134). -/
def advance : Nat → Date → Date
  | 0, d => d
  | n + 1, d => if (nextDay d).year ≤ 2099 then advance n (nextDay d) else ⟨2099, 12, 31⟩

/-- The sell-by date from the business date and the shelf days (R134). -/
def sellByOf (date : Option Date) (shelf : Option Nat) : Option Date :=
  match date, shelf with
  | some d, some n => some (advance n d)
  | _, _ => none

/-- The kind of a content (R129). -/
def kindOf : Content → JobKind
  | .item .. => .item
  | .prepack .. => .prepack
  | .summary .. => .summary
  | .text .. => .text

/-- The parts of a job's content in chunk order (R135). -/
def chunkParts : Content → List ChunkPart
  | .item l => .start .item (some l.format) :: labelParts l
  | .prepack l _ => .start .prepack (some l.format) :: labelParts l
  | .summary l =>
    [.start .summary none, .ticket l.ticket, .service l.service, .lines l.lines, .total l.total]
      ++ (match l.barcode with
          | some b => [.barcode b]
          | none => [])
  | .text ls => .start .text none :: ls.map .text
where
  /-- The chunks of an ITEM or PREPACK label after chunk 0. -/
  labelParts (l : ItemLabel) : List ChunkPart :=
    [.number l.number, .name l.name, .quantity l.mode l.quantity, .price l.price, .amount l.amount, .pack l.pack]
      ++ (match l.sellBy with
          | some d => [.sellBy d]
          | none => [])
      ++ (match l.barcode with
          | some b => [.barcode b]
          | none => [])

/-! ### Queueing (R130, R138, R146) -/

/-- Whether the queue of printer `p` has room for a job (R130, R146). -/
def queueRoom (p : Printer) (s : State) : Bool := decide ((queue p s).length < Config.queuePlaces)

/-- Whether printer `p` is down: OFFLINE or STOPPED (R146). -/
def printerDown (p : Printer) (s : State) : Bool :=
  (printer p s).state == .offline || (printer p s).state == .stopped

/-- An IDLE context with a non-empty queue enters LOADING (R138). -/
def startIfIdle (p : Printer) (s : State) : State :=
  if (printer p s).state == .idle && !(queue p s).isEmpty then
    onPrinter p (fun c => { c with state := .loading, load := some (.chunk 0), printed := 0 }) s
  else s

/-- A new job with the tag the allocator gives it (R129, R131). -/
def newJob (source : Option Head) (copies : Nat) (content : Content) (s : State) : Job :=
  { tag := freshTag s, source := source, copies := copies, remaining := copies, folded := false, content := content }

/-- The queueing of a job: its tag, its place at the tail, and the start of an IDLE printer (R146). The caller has
checked the room. -/
def queueJob (p : Printer) (source : Option Head) (copies : Nat) (content : Content) (s : State) : State :=
  let j := newJob source copies content s
  startIfIdle p <| onQueue p (· ++ [j]) { s with lbc := { s.lbc with candidate := j.tag + 1 } }

/-! ### Leaving a queue (R120, R149, R147) -/

/-- The end of a CLOSING ticket whose summary job has left its queue (R120). -/
def endSummary (t : TicketId) (s : State) : State :=
  let k := ticket t.slot s
  if k.state == .closing && k.serial == t.serial then
    if s.tkp.collection then onTicket t.slot (fun k => { k with state := .closed, job := none }) s
    else onTicket t.slot (fun k => freeTicket k.serial) s
  else s

/-- What the leaving of a job tells other blocks: the Ticket Pool of a SUMMARY job (R120, R141, R149). -/
def jobLeft (c : Content) (s : State) : State :=
  match c with
  | .summary l => endSummary l.ticket s
  | _ => s

/-- Whether any chunk of the present loading has been sent: the load point is above 0 or DONE (R149). -/
def loadBegun : Option LoadPoint → Bool
  | none => false
  | some .done => true
  | some (.chunk k) => k != 0

/-- What the removal of its front job does to a context that has a load point (R149): the load point becomes absent,
a DROP is owed where the printer may hold chunks, and a feeding context becomes IDLE. -/
def unfeed (tag : Tag) (c : PrinterCtx) : PrinterCtx :=
  match c.load with
  | none => c
  | some _ =>
    { c with
      load := none, printed := 0
      owedDrop := if c.state != .offline && loadBegun c.load then some tag else c.owedDrop
      state := match c.state with
        | .loading => .idle
        | .printing => .idle
        | .offline => .offline
        | .idle => .idle
        | .stopped => .stopped }

/-- Whether `tag` is carried by the front job of printer `p`. -/
def isFront (p : Printer) (tag : Tag) (s : State) : Bool :=
  match queue p s with
  | j :: _ => j.tag == tag
  | [] => false

/-- The removal of the job with tag `tag` from the queue of printer `p` (R149), less what it tells other blocks. -/
def removeJob (p : Printer) (tag : Tag) (s : State) : State :=
  let front := isFront p tag s
  let s := onQueue p (·.eraseP (·.tag == tag)) s
  if front then startIfIdle p (onPrinter p (unfeed tag) s) else s

/-- Whether a job is a PREPACK job whose sale has not been folded (R147). -/
def unfoldedPack (j : Job) : Bool := kindOf j.content == .prepack && !j.folded

/-- Whether a job is an unfolded PREPACK job of record index `k` (R147). -/
def unfoldedOf (k : Nat) (j : Job) : Bool :=
  !j.folded && (match j.content with
    | .prepack _ f => f.index == k
    | _ => false)

/-- The removal at a purge of every unfolded PREPACK job of record index `k` (R147, R73). -/
def removePurged (k : Nat) (s : State) : State :=
  let go := fun (p : Printer) (s : State) =>
    ((queue p s).filter (unfoldedOf k)).foldl (fun s j => removeJob p j.tag s) s
  go 1 (go 0 s)

/-- The number of unfolded PREPACK jobs in either queue (R147, R161). -/
def unfoldedPacks (s : State) : Nat := (queue 0 s).countP unfoldedPack + (queue 1 s).countP unfoldedPack

/-! ### Feeding (R139) -/

/-- The load point after chunk `k` of `n` has been sent. -/
def nextLoad (k n : Nat) : LoadPoint := if k + 1 < n then .chunk (k + 1) else .done

/-- The operation of the PRINTER_UPDATE being composed for printer `p`, and the state it leaves (R139). -/
def printerOp (p : Printer) (s : State) : Option PrintOp × State :=
  let c := printer p s
  match c.state, c.owedDrop, queue p s with
  | .offline, _, _ => (none, s)
  | _, some t, _ => (some (.drop t), onPrinter p (fun c => { c with owedDrop := none }) s)
  | .loading, none, j :: _ =>
    match c.load with
    | some (.chunk k) =>
      let parts := chunkParts j.content
      if c.credit = 0 then (none, s)
      else
        match parts[k]? with
        | some part =>
          (some (.chunk j.tag k (k + 1 == parts.length) part),
            onPrinter p (fun c =>
              { c with credit := c.credit - 1, load := some (nextLoad k parts.length),
                       state := if k + 1 < parts.length then .loading else .printing }) s)
        | none => (none, s)
    | _ => (none, s)
  | .printing, none, j :: _ => (some (.order j.tag (c.printed + 1)), s)
  | _, none, _ => (none, s)

/-! ### Reports (R140 to R144) -/

/-- The sale of a PREPACK job at its first counted copy (R142): it is folded once, with the job's own keys. -/
def foldPack (p : Printer) (j : Job) (s : State) : State :=
  match j.content with
  | .prepack l f =>
    if j.folded then s
    else
      foldInto (foldSale l.mode l.quantity l.amount) ⟨f.head, f.operator, f.dept, f.index⟩
        (onQueue p (fun q => match q with
          | [] => []
          | j :: q => { j with folded := true } :: q) s)
  | _ => s

/-- The completion of the front job `j` of printer `p` (R141). -/
def completeJob (p : Printer) (j : Job) (s : State) : State :=
  let s := jobLeft j.content (onQueue p List.tail s)
  let s := onPrinter p (fun c =>
    { c with
      load := none, printed := 0
      state := match c.state with
        | .stopped => .stopped
        | _ => .idle }) s
  startIfIdle p s

/-- Copy counting against a reported number of copies (R141), made when the load point is DONE and the held tag is
that of the front job. -/
def countCopies (p : Printer) (reported : Nat) (s : State) : State :=
  let c := printer p s
  match queue p s with
  | [] => s
  | j :: _ =>
    if c.load == some .done && c.heldTag == some j.tag && decide (c.printed < reported) then
      let left := j.remaining - (reported - c.printed)
      let s := foldPack p j s
      let s := onPrinter p (fun c => { c with printed := reported }) s
      if left = 0 then completeJob p j s
      else
        onQueue p (fun q => match q with
          | [] => []
          | j :: q => { j with remaining := left } :: q) s
    else s

/-- Whether printer `p` reports holding the record of its front job. -/
def holdsFront (p : Printer) (s : State) : Bool :=
  match queue p s with
  | j :: _ => (printer p s).heldTag == some j.tag
  | [] => false

/-- The stop of R143. -/
def stopPrinter (p : Printer) (s : State) : State :=
  flagPrinterStopped p (onPrinter p (fun c => { c with state := .stopped }) s)

/-- The end of a stop (R144): the first case that applies. -/
def recoverPrinter (p : Printer) (s : State) : State :=
  match (printer p s).load with
  | none => startIfIdle p (onPrinter p (fun c => { c with state := .idle }) s)
  | some l =>
    if l == .done && holdsFront p s then onPrinter p (fun c => { c with state := .printing }) s
    else onPrinter p (fun c => { c with state := .loading, load := some (.chunk 0), printed := 0 }) s

/-- The reload of R140 step 3. -/
def reloadPrinter (p : Printer) (s : State) : State :=
  if (printer p s).state == .printing && !holdsFront p s then
    onPrinter p (fun c => { c with state := .loading, load := some (.chunk 0), printed := 0 }) s
  else s

/-- Step 2 of R140: the stop or the recovery. -/
def stopOrRecover (p : Printer) (cond : Condition) (s : State) : State :=
  let stopped := (printer p s).state == .stopped
  match cond with
  | .ready => if stopped then recoverPrinter p s else s
  | _ => if stopped then s else stopPrinter p s

/-- A PRINTER_REPORT taken by a context that is not OFFLINE (R140). -/
def takePrinterReport (p : Printer) (r : PrinterReport) (s : State) : State :=
  if (printer p s).state == .offline then s
  else
    let s := onPrinter p (fun c => { c with credit := r.credit, condition := r.condition, heldTag := r.heldTag }) s
    reloadPrinter p (stopOrRecover p r.condition (countCopies p r.copies s))

/-- The printer's slot becomes ONLINE (R145): the context leaves OFFLINE for IDLE and takes the report; a queue that
waits is started after it. -/
def printerOnline (p : Printer) (r : PrinterReport) (s : State) : State :=
  startIfIdle p (takePrinterReport p r (onPrinter p (fun c => { c with state := .idle }) s))

/-- The loss of a printer's slot, and hub reset (R145). -/
def printerOffline (p : Printer) : State → State := onPrinter p fun _ => offlinePrinter

end Sys2Proof.Machine
end

