-- ==== Sys2Proof/Machine/ItemTable.lean ====
section
/-! DEFINITION. The Item Table's own operations: the directory, versions, references and the purge (chapter 3). -/

namespace Sys2Proof.Machine

/-- A record inserted at its place in the directory (R57). -/
def insertItem (i : Item) : List Item → List Item
  | [] => [i]
  | j :: js => if i.number < j.number then i :: j :: js else j :: insertItem i js

/-- The lowest record index that no record holds (R56). -/
def freeIndex (is : List Item) : Option Nat :=
  (List.range Config.itemPlaces).find? fun k => !is.any (·.index == k)

/-- Change of the record with item number `n`. -/
def onItemNumber (n : Nat) (f : Item → Item) : State → State :=
  onItems fun is => is.map fun i => if i.number == n then f i else i

/-- Whether a record is to be purged: WITHDRAWN, no reference, empty accumulator (R72). -/
def purgeable (i : Item) : Bool := i.state == .withdrawn && i.refs == 0 && i.acc == emptyAcc

/-- The purge of a record (R73): it leaves the directory with its accumulator, and the unfolded PREPACK jobs of its
index are removed. -/
def purge (i : Item) (s : State) : State :=
  removePurged i.index (onItems (fun is => is.filter fun j => j.number != i.number) s)

/-- The purge test of the record at index `k` (R72), with the purge when it passes. -/
def purgeCheck (k : Nat) (s : State) : State :=
  match itemAt k s with
  | some i => if purgeable i then purge i s else s
  | none => s

/-- A reference added to the record at index `k` (R71). -/
def addRef (k : Nat) : State → State := onItemAt k fun i => { i with refs := i.refs + 1 }

/-- A reference released from the record at index `k`, with its purge test (R71). -/
def releaseRef (k : Nat) (s : State) : State := purgeCheck k (onItemAt k (fun i => { i with refs := i.refs - 1 }) s)

/-- Whether the commit changes a record's unit price (R67). -/
def changesPrice (i : Item) : Bool :=
  match i.pending with
  | some p => p != i.price
  | none => false

/-- What the commit makes of a record (R67). -/
def commitItem (i : Item) : Item :=
  match i.pending with
  | some p =>
    if p = i.price then { i with pending := none }
    else { i with price := p, version := i.version + 1, pending := none }
  | none => i

end Sys2Proof.Machine
end

