-- ==== Sys2Proof/Machine/Numbers.lean ====
section
/-! DEFINITION. The Service Number Unit's own operations: the guard, issues, presses and returns (chapter 5). -/

namespace Sys2Proof.Machine

/-- Whether a ticket is open: HELD or PARKED (R91). -/
def openTicket (t : Ticket) : Bool := t.state == .held || t.state == .parked

/-- Whether a service number is in play (R91). -/
def inPlay (n : Nat) (s : State) : Bool :=
  s.snu.waiting.any (·.number == n) || s.hsu.heads.toList.any (fun c => c.nowServing == some n)
    || s.tkp.tickets.toList.any fun t => openTicket t && t.service == some n

/-- Change of the Service Number Unit. -/
def onSnu (f : Snu → Snu) (s : State) : State := { s with snu := f s.snu }

/-- N after the issue of N (R91). -/
def nextNumber (u : Snu) : Nat := if u.next = u.high then u.low else u.next + 1

/-- Whether an issue of N is refused (R91). -/
def issueRefused (s : State) : Bool := inPlay s.snu.next s

/-- N advanced by an issue (R91). -/
def advanceNumber : State → State := onSnu fun u => { u with next := nextNumber u }

/-- A refused press: the FULL marker and DISPENSER_REFUSED (R93). -/
def refusePress (s : State) : State := flagRefused (onSnu (fun u => { u with full := true }) s)

/-- One of the first four presses of a report (R93). -/
def press (s : State) : State :=
  if !dayOpen s || decide (s.snu.capacity ≤ s.snu.waiting.length) || issueRefused s then refusePress s
  else
    onSnu (fun u =>
      { u with waiting := u.waiting ++ [⟨u.next, false⟩], issued := u.issued ++ [u.next], next := nextNumber u }) s

/-- `n` presses taken in turn. -/
def presses : Nat → State → State
  | 0, s => s
  | n + 1, s => presses n (press s)

/-- The presses of one report (R93): at most four are tried and those beyond the fourth refused. -/
def takePresses (delta : Nat) (s : State) : State :=
  let s := presses (min delta Config.pressesPerReport) s
  if Config.pressesPerReport < delta then refusePress s else s

/-- The press counter of an accepted DISPENSER_REPORT (R92). -/
def takeCounter (c : Byte) (s : State) : State :=
  let t := onSnu (fun u => { u with counter := some c }) s
  match s.snu.counter with
  | none => t
  | some old => takePresses (c - old).toNat t

/-- The head's skipped mark. -/
def setSkipped (h : Head) (m : Bool) : State → State := onSnu fun u => { u with skipped := u.skipped.put h m }

/-- The return of a signed-off head's number to the front of the waiting list (R101). -/
def returnNumber (h : Head) (s : State) : State :=
  match (ctx h s).nowServing with
  | none => s
  | some n =>
    onCtx h (fun c => { c with nowServing := none })
      (onSnu (fun u => { u with waiting := ⟨n, u.skipped.look h⟩ :: u.waiting, skipped := u.skipped.put h false }) s)

/-- The dispenser's loss, its JOIN and hub reset (R95). -/
def dispenserGone : State → State := onSnu fun u => { u with counter := none, issued := [], full := false }

/-- What OPEN_DAY clears (R102). -/
def openNumbers : State → State := onSnu fun u => { u with waiting := [], next := u.low, lastCalled := none }

/-- What CLOSE_DAY clears (R102). -/
def closeNumbers (s : State) : State :=
  eachHead (fun h => onCtx h fun c => { c with nowServing := none })
    (onSnu (fun u => { u with waiting := [], lastCalled := none, skipped := Table.const 8 false }) s)

end Sys2Proof.Machine
end

