-- ==== Sys2Proof/Machine/Pool.lean ====
section
/-! DEFINITION. The Ticket Pool's own operations: open, append, void, park, pick, and the line walk that ends a ticket (chapter 6). -/

namespace Sys2Proof.Machine

/-- The ticket slots in ascending order. -/
def allTickets : List TicketSlot := List.finRange 48

/-- The ticket slot a head's context names, when the identity is that of the record there. -/
def heldSlot (h : Head) (s : State) : Option TicketSlot := (ctx h s).held.map (·.slot)

/-- The identity of the ticket now in slot `t`. -/
def ticketId (t : TicketSlot) (s : State) : TicketId := ⟨t, (ticket t s).serial⟩

/-- The FREE record with the lowest slot number (R107). -/
def freeSlot (s : State) : Option TicketSlot := allTickets.find? fun t => (ticket t s).state == .free

/-- The open of the FREE record in slot `t` for head `h` with operator `op` and service number `n` (R107). -/
def openRecord (t : TicketSlot) (h : Head) (op : Operator) (n : Nat) : State → State :=
  onTicket t fun k =>
    { serial := k.serial + 1, state := .held, service := some n, holder := some h, openHead := some h,
      openOperator := some op, idle := 0, lines := [], total := 0, job := none }

/-- The park of a ticket (R110). -/
def parkRecord (t : TicketSlot) : State → State :=
  onTicket t fun k => { k with state := .parked, holder := none, idle := 0 }

/-- The restart of a ticket's idle count (R113). -/
def restartIdle (t : TicketSlot) : State → State := onTicket t fun k => { k with idle := 0 }

/-- The ticket a PICK finds: HELD or PARKED with service number `n` (R115). -/
def findOpen (n : Nat) (s : State) : Option TicketSlot :=
  allTickets.find? fun t => openTicket (ticket t s) && (ticket t s).service == some n

/-- The ticket handed to head `h` by a PICK (R115). -/
def pickRecord (t : TicketSlot) (h : Head) : State → State :=
  onTicket t fun k => { k with state := .held, holder := some h, idle := 0 }

/-- The append of a line (R108): the record and total, the reference, the idle count. -/
def appendLine (t : TicketSlot) (l : Line) (s : State) : State :=
  addRef l.index
    (onTicket t (fun k => { k with lines := k.lines ++ [l], total := k.total + l.amount, idle := 0 }) s)

/-- The void of the newest line of a ticket (R109). -/
def voidNewest (t : TicketSlot) (s : State) : State :=
  match (ticket t s).lines.getLast? with
  | none => s
  | some l =>
    releaseRef l.index
      (onTicket t (fun k => { k with lines := k.lines.dropLast, total := k.total - l.amount }) (foldLineVoid l s))

/-- One line of the walk (R117): its fold, then its reference. -/
def walkLine (fold : Line → State → State) (s : State) (l : Line) : State := releaseRef l.index (fold l s)

/-- The line walk over the lines of a ticket in ascending position (R117). The release of the service number leaves
no trace of its own: the guard of R91 looks at HELD and PARKED tickets only (R100). -/
def walkLines (fold : Line → State → State) (ls : List Line) (s : State) : State := ls.foldl (walkLine fold) s

/-- The record becomes FREE and keeps its use serial (R118 step 3, R104). -/
def freeRecord (t : TicketSlot) : State → State := onTicket t fun k => freeTicket k.serial

/-- The void of a ticket (R118, R122): the holder becomes absent, the lines are walked as voids, the record becomes
FREE. -/
def voidRecord (t : TicketSlot) (s : State) : State :=
  freeRecord t
    (walkLines foldLineVoid (ticket t s).lines (onTicket t (fun k => { k with holder := none }) s))

/-- The content of a ticket's summary label (R119, R132, R133). -/
def summaryOf (t : TicketSlot) (s : State) : SummaryLabel :=
  let k := ticket t s
  let n := k.service.getD 0
  { ticket := ⟨t, k.serial⟩, service := n, lines := k.lines.length, total := k.total,
    barcode := summaryBarcode n t k.total }

/-- The close of a ticket held by head `h` (R119): CLOSING, the lines walked as sales, the summary job queued to
printer `p` and recorded. -/
def closeRecord (t : TicketSlot) (h : Head) (p : Printer) (s : State) : State :=
  let content := Content.summary (summaryOf t s)
  let s' := walkLines foldLineSale (ticket t s).lines
    (onTicket t (fun k => { k with state := .closing, holder := none }) s)
  onTicket t (fun k => { k with job := some ⟨p, freshTag s'⟩ }) (queueJob p (some h) 1 content s')

/-- The sum of the amounts of lines. -/
def lineSum (ls : List Line) : Nat := (ls.map (·.amount)).sum

end Sys2Proof.Machine
end

