-- ==== Sys2Proof/Machine/Copies.lean ====
section
/-! DEFINITION. The Copy Coherence Unit: selection, eviction, pushes, drops, acknowledgements, staleness and the in-step watch (chapter 4). -/

namespace Sys2Proof.Machine

/-! ### The copy list (R74, R84) -/

/-- The entry of a copy list for an item (R84). -/
def entryOf (n : Nat) (c : CopyList) : Option CopyEntry := c.entries.find? fun e => e.number == n

/-- The state of head `h`'s copy entry for item `n`; none is the answer NONE (R84). -/
def copyState (h : Head) (n : Nat) (s : State) : Option CopyState := (entryOf n (copies h s)).map (·.state)

/-- Whether head `h`'s copy entry for item `n` is CURRENT (R44). -/
def copyCurrent (h : Head) (n : Nat) (s : State) : Bool := copyState h n s == some .current

/-- The record a CURRENT entry is read from (R84); none where the entry is not CURRENT. -/
def currentCopy (h : Head) (n : Nat) (s : State) : Option Item :=
  match entryOf n (copies h s) with
  | some e => if e.state == .current then itemAt e.index s else none
  | none => none

/-- Whether a list is in step: no entry SENDING or STALE (R87). -/
def inStep (c : CopyList) : Bool := c.entries.all fun e => e.state == .current

/-! ### The in-step watch (R87) -/

/-- Whether the watch is met: every head whose slot is ONLINE or SILENT is in step. -/
def watchMet (s : State) : Bool := allHeads.all fun h => !onLink (headSlot h) s || inStep (copies h s)

/-- Arming and disarming of the watch. -/
def setWatch (on : Bool) (s : State) : State := { s with ccu := { s.ccu with armed := on } }

/-- The examination of the watch: met while ARMED, it sets IN_STEP and becomes DISARMED. -/
def examineWatch (s : State) : State := if s.ccu.armed && watchMet s then flagInStep (setWatch false s) else s

/-! ### Selection and eviction (R76, R77) -/

/-- The lowest cache slot that no entry of a list names. -/
def freeCacheSlot (es : List CopyEntry) : Option CacheSlot :=
  (List.finRange 16).find? fun i => !es.any fun e => e.slot == i

/-- A new entry, never pushed (R76). -/
def newEntry (slot : CacheSlot) (i : Item) : CopyEntry :=
  { slot := slot, index := i.index, number := i.number, version := i.version, state := .sending, age := none }

/-- A new entry at the front; its slot leaves the owed drops (R76). -/
def enterNew (slot : CacheSlot) (i : Item) (es : List CopyEntry) (c : CopyList) : CopyList :=
  { entries := newEntry slot i :: es, drops := c.drops.filter (· != slot) }

/-- Selection of an item in a copy list (R76): an entry moved to the front, a new entry in the lowest free cache
slot, or a new entry in the slot of the least recent one. -/
def selectIn (i : Item) (c : CopyList) : CopyList :=
  match entryOf i.number c with
  | some e => { c with entries := e :: c.entries.filter fun x => x.number != i.number }
  | none =>
    if c.entries.length < Config.copyPlaces then
      match freeCacheSlot c.entries with
      | some slot => enterNew slot i c.entries c
      | none => c
    else
      match c.entries.getLast? with
      | some last => enterNew last.slot i c.entries.dropLast c
      | none => c

/-- Whether a selection evicts an entry (R77). -/
def evicts (i : Item) (c : CopyList) : Bool :=
  (entryOf i.number c).isNone && decide (Config.copyPlaces ≤ c.entries.length)

/-- The selection of item `i` at head `h` (R76), with the examination an eviction brings (R77, R87). -/
def selectItem (h : Head) (i : Item) (s : State) : State :=
  let t := onCopies h (selectIn i) s
  if evicts i (copies h s) then examineWatch t else t

/-! ### Pushes and drops (R78, R79) -/

/-- Whether an entry is due for a push (R78). -/
def due (e : CopyEntry) : Bool :=
  match e.state with
  | .stale => true
  | .sending => e.age == none || e.age == some Config.pushFrames
  | .current => false

/-- The entry a push is chosen for (R78): that of the pending request's item when due, the most recent STALE entry,
the most recent SENDING entry that is due. -/
def pushChoice (requested : Option Nat) (c : CopyList) : Option CopyEntry :=
  let first := match requested with
    | some n => (entryOf n c).filter due
    | none => none
  first <|> c.entries.find? (fun e => e.state == .stale) <|> c.entries.find? (fun e => e.state == .sending && due e)

/-- The entry that stands after the push of a record (R79). -/
def pushed (i : Item) (e : CopyEntry) : CopyEntry :=
  { e with version := i.version, state := .sending, age := some 0 }

/-- The item of the capture request pending at head `h`. -/
def requestItem (h : Head) (s : State) : Option Nat := (ctx h s).request.map (·.number)

/-- The copy operation of the HEAD_UPDATE being composed for head `h`, and the state its sending leaves (R78,
R79). An entry whose record is gone sends nothing (log 23). -/
def copyOperation (h : Head) (s : State) : Option CopyOp × State :=
  let c := copies h s
  match c.drops with
  | d :: ds => (some (.drop d), onCopies h (fun c => { c with drops := ds }) s)
  | [] =>
    match pushChoice (requestItem h s) c with
    | none => (none, s)
    | some e =>
      match itemAt e.index s with
      | none => (none, s)
      | some i =>
        (some (.push e.slot e.number i.version i.name i.mode i.price i.preset.isSome),
          onCopies h (fun c =>
            { c with entries := c.entries.map fun x => if x.slot == e.slot then pushed i x else x }) s)

/-- The push age of an entry at a frame start (R79). -/
def ageEntry (e : CopyEntry) : CopyEntry :=
  match e.state with
  | .sending => { e with age := e.age.map fun a => min (a + 1) Config.pushFrames }
  | .current => e
  | .stale => e

/-- The frame start of the Copy Coherence Unit (R79, R174). -/
def ageCopies : State → State :=
  eachHead fun h => onCopies h fun c => { c with entries := c.entries.map ageEntry }

/-! ### Acknowledgements (R80) -/

/-- The entry an acknowledgement makes CURRENT: it names the slot, is SENDING with a push age, and has the
version. -/
def acked (a : Ack) (e : CopyEntry) : Bool :=
  e.slot == a.slot && e.state == .sending && e.age.isSome && e.version == a.version

/-- The item whose entry an acknowledgement makes CURRENT (R80). -/
def ackedItem (a : Ack) (c : CopyList) : Option Nat := (c.entries.find? (acked a)).map (·.number)

/-- The list after an acknowledgement (R80). -/
def ackIn (a : Ack) (c : CopyList) : CopyList :=
  { c with entries := c.entries.map fun e => if acked a e then { e with state := .current, age := none } else e }

/-! ### Table changes, withdrawals and losses (R81 to R83) -/

/-- An entry turned STALE (R81). -/
def staleEntry (e : CopyEntry) : CopyEntry := { e with state := .stale, age := none }

/-- A table change of the records whose index satisfies `changed`, in every list (R81). -/
def staleCopies (changed : Nat → Bool) : State → State :=
  eachHead fun h => onCopies h fun c =>
    { c with entries := c.entries.map fun e => if changed e.index then staleEntry e else e }

/-- A set of cache slots with one more, ascending. -/
def addDrop (d : CacheSlot) (ds : List CacheSlot) : List CacheSlot :=
  (List.finRange 16).filter fun i => i == d || ds.contains i

/-- The removal of an item from a list, with the drop it owes (R82). -/
def withdrawIn (n : Nat) (c : CopyList) : CopyList :=
  match entryOf n c with
  | some e => { entries := c.entries.filter fun x => x.number != n, drops := addDrop e.slot c.drops }
  | none => c

/-- The withdrawal of an item at every head (R82), with the examinations it brings. -/
def withdrawCopies (n : Nat) (s : State) : State :=
  let had := allHeads.any fun h => (entryOf n (copies h s)).isSome
  let t := eachHead (fun h => onCopies h (withdrawIn n)) s
  if had then examineWatch t else t

/-- The emptying of a head's list and owed drops (R83). -/
def clearCopies (h : Head) : State → State := onCopies h fun _ => emptyCopies

end Sys2Proof.Machine
end

