-- ==== Sys2Proof/Machine/HeadService.lean ====
section
/-! DEFINITION. The Head Service Unit: messages, the item in hand, displays, sign-offs, capture requests and their outcomes (chapter 2). -/

namespace Sys2Proof.Machine

/-! ### Messages (R53) -/

/-- A message set with a fresh count (R53). -/
def setMessage (h : Head) (code : Code) : State → State :=
  onCtx h fun c => { c with message := some ⟨code, Config.messageFrames⟩ }

/-- The message made absent (R33 step 2). -/
def clearMessage (h : Head) : State → State := onCtx h fun c => { c with message := none }

/-- One frame of a standing message (R53). -/
def countMessage (m : Message) : Option Message := if m.frames ≤ 1 then none else some { m with frames := m.frames - 1 }

/-! ### The item in hand and its offer (R51) -/

/-- The number of the item in hand at head `h` (R51). -/
def itemInHand (h : Head) (s : State) : Option Nat :=
  match (ctx h s).request with
  | some q => some q.number
  | none =>
    match role h s with
    | .prepack => (ctx h s).selected
    | .service => none
    | .disabled => none

/-- The preset tare offered for the item in hand (R51). -/
def offerFor (h : Head) (s : State) : Option Nat := ((itemInHand h s).bind (findItem · s)).bind (·.preset)

/-- The offer of the item in hand made to, or withdrawn from, the channel (R51). -/
def renewOffer (h : Head) (s : State) : State := onChan h (fun c => { c with offer := offerFor h s }) s

/-! ### The display (R52) -/

/-- The ticket summary of a display record (R52). -/
def summaryFor (h : Head) (s : State) : Option TicketSummary :=
  match service h s, (ctx h s).held with
  | .serving, some id =>
    let k := ticket id.slot s
    some ⟨k.service.getD 0, k.lines.length, k.total⟩
  | _, _ => none

/-- The shown weight of the last channel result (R52). -/
def lastShown (h : Head) (s : State) : Option Int := (chan h s).last.bind (·.shown)

/-- The count a display shows: the request's, or the pending count, or 1 (R52). -/
def shownCount (c : HeadCtx) : Nat :=
  match c.request.bind (·.count), c.count with
  | some n, _ => n
  | none, some n => n
  | none, none => 1

/-- The weight value and unit text (R52). Where the record of the item in hand is gone, the shown weight (log 29). -/
def weightField (h : Head) (s : State) : Option Int × Option UnitText :=
  match (((itemInHand h s).bind (findItem · s)).map (·.mode) : Option SaleMode) with
  | some .counted => (some (shownCount (ctx h s)), some .pcs)
  | some .fixed => (none, none)
  | _ =>
    match lastShown h s with
    | some w => (some w, some .kg)
    | none => (none, none)

/-- The amount shown for a CURRENT copy (R52). -/
def amountField (i : Item) (h : Head) (s : State) : Option Nat :=
  let amount := fun q : Nat =>
    match amountOf i.mode i.price q with
    | .ok a => some a
    | .error _ => none
  match i.mode with
  | .weighed =>
    match lastShown h s with
    | some w => if 0 < w then amount w.toNat else none
    | none => none
  | .counted => amount (shownCount (ctx h s))
  | .fixed => amount 1

/-- The message code of a display record (R52). -/
def messageField (h : Head) (s : State) : Option Code :=
  if (chan h s).state == .cellFault then some .cell
  else
    match (ctx h s).message, (ctx h s).request with
    | some m, _ => some m.code
    | none, some q =>
      match currentCopy h q.number s with
      | some i =>
        if i.mode == .weighed then
          match (chan h s).verdict with
          | .notEligible .overCap => some .overCap
          | .notEligible .belowMin => some .belowMin
          | _ => none
        else none
      | none => none
    | none, none => none

/-- The display record of head `h` composed afresh (R52); that of a DISABLED head is blank (R32). -/
def composeDisplay (h : Head) (s : State) : Display :=
  if role h s == .disabled then blankDisplay
  else
    let hand := itemInHand h s
    let copy := hand.bind (currentCopy h · s)
    let last := (chan h s).last
    let flag := fun f : ChanResult → Bool => (last.map f).getD false
    { weight := (weightField h s).1, unitText := (weightField h s).2
      stable := flag (·.stable), netFlag := flag (·.netFlag), zeroFlag := flag (·.zeroFlag)
      overFlag := flag (·.overFlag), underFlag := flag (·.underFlag)
      number := hand, name := (hand.bind (findItem · s)).map (·.name)
      price := copy.map (·.price), amount := copy.bind (amountField · h s)
      ticket := summaryFor h s, nowServing := (ctx h s).nowServing, message := messageField h s
      stale := hand.bind (copyState h · s) == some .stale }

/-- The display record of head `h` as last composed. -/
def display (h : Head) (s : State) : Display := s.hsu.displays.look h

/-- The composing of head `h`'s display record (R52). -/
def recompose (h : Head) (s : State) : State :=
  { s with hsu := { s.hsu with displays := s.hsu.displays.put h (composeDisplay h s) } }

/-- What a display record is composed from (R52), less the standing verdict, whose change alone composes none
(log 13). -/
structure Sources where
  role : Role
  ctx : HeadCtx
  state : ChanState
  last : Option ChanResult
  copy : Option CopyState
  item : Option (List Byte × SaleMode)
  ticket : Option TicketSummary
  deriving DecidableEq, Repr

/-- The sources of head `h`'s display record as they stand. -/
def sourcesOf (h : Head) (s : State) : Sources :=
  let hand := itemInHand h s
  { role := role h s, ctx := ctx h s, state := (chan h s).state, last := (chan h s).last
    copy := hand.bind (copyState h · s)
    item := (hand.bind (findItem · s)).map fun i => (i.name, i.mode)
    ticket := summaryFor h s }

/-- What an event that led from `old` leaves at head `h`: the offer where the item in hand changed (R51), the
display where a source changed (R52). -/
def settleHead (old : State) (h : Head) (s : State) : State :=
  let s := if itemInHand h old = itemInHand h s then s else renewOffer h s
  if sourcesOf h old = sourcesOf h s then s else recompose h s

/-- The end of every event: offers and displays follow what it changed (R51, R52). -/
def settle (old s : State) : State := eachHead (settleHead old) s

/-! ### Capture requests that end without a capture (R46) -/

/-- A request removed; one of origin AUTO sets the auto-capture hold (R46, R50). -/
def withoutRequest (c : HeadCtx) : HeadCtx :=
  { c with
    request := none
    autoHold := c.autoHold || (match c.request with
      | some q => q.origin == .auto
      | none => false) }

/-- The removal of head `h`'s request without a message. -/
def dropRequest (h : Head) : State → State := onCtx h withoutRequest

/-- The refusal of head `h`'s request with a code (R45, R46). -/
def refuseRequest (h : Head) (code : Code) (s : State) : State := setMessage h code (dropRequest h s)

/-- A cancellation with a message, where a request is pending (R46). -/
def cancelRequest (h : Head) (code : Code) (s : State) : State :=
  if (ctx h s).request.isSome then refuseRequest h code s else s

/-- The ticket identity a request is bound to (R42). -/
def boundTo (c : HeadCtx) : Option TicketId := c.request.bind (·.ticket)

/-- A head context that leaves its ticket `id` (R38, R39): a request bound to it is removed. -/
def leaving (id : TicketId) (c : HeadCtx) : HeadCtx :=
  let c := { c with held := none, lastLine := none }
  if boundTo c = some id then withoutRequest c else c

/-- Head `h` leaves the ticket it holds (R38, R39). -/
def leaveTicket (h : Head) (id : TicketId) : State → State := onCtx h (leaving id)

/-- The park of a ticket at its idle limit, and what it does at its holder (R114, R39). -/
def idlePark (t : TicketSlot) (s : State) : State :=
  let id := ticketId t s
  match (ticket t s).holder with
  | some h => setMessage h .parked (leaveTicket h id (parkRecord t s))
  | none => s

/-! ### Sign-off (R36) -/

/-- A sign-off at head `h` (R36): the request, the ticket, the number, the operator, and the rest of the context. An
OFF head has none to perform. The offered preset tare follows the item in hand (R51). -/
def signOff (h : Head) (s : State) : State :=
  match (ctx h s).operator with
  | none => s
  | some op =>
    let s := dropRequest h s
    let s := match (ctx h s).held with
      | some id => parkRecord id.slot (onCtx h (fun c => { c with held := none }) s)
      | none => s
    onCtx h (fun _ => offCtx) (setSignOn op none (returnNumber h s))

/-- What the loss of its slot does to the context of head `h` (R29, R36). -/
def loseContext (h : Head) (s : State) : State := onCtx h (fun _ => offCtx) (signOff h s)

/-- What a role change does to the context of head `h` (R32). -/
def changeRole (h : Head) (s : State) : State :=
  onCtx h (fun c => { c with selected := none, count := none, batch := .left 0, labelMark := false, autoHold := false })
    (signOff h s)

/-! ### Completion (R44 to R48) -/

/-- A capture that has passed R44 and its amount (R45): what a line and a label are made from. -/
structure Capture where
  head : Head
  operator : Operator
  item : Item
  quantity : Nat
  tare : Option Tare
  amount : Nat
  deriving DecidableEq, Repr

/-- The quantity of a capture: shown weight, count, or one piece (R47). -/
def quantityOf (mode : SaleMode) (q : Request) (c : Channel) : Nat :=
  match mode with
  | .weighed => ((c.last.bind (·.shown)).getD 0).toNat
  | .counted => q.count.getD 1
  | .fixed => 1

/-- The tare used by a capture (R47). -/
def tareOf (mode : SaleMode) (c : Channel) : Option Tare :=
  match mode with
  | .weighed => c.last.bind (·.tare)
  | .counted => none
  | .fixed => none

/-- Step 1 of R47 and R48: the lock of a weighed capture (R22). -/
def lockFor (k : Capture) (s : State) : State :=
  match k.item.mode with
  | .weighed => onChan k.head lockChannel s
  | .counted => s
  | .fixed => s

/-- The line a capture appends at a position (R47, R105, R68). -/
def lineOf (k : Capture) (position : Nat) (s : State) : Line :=
  { position := position, number := k.item.number, index := k.item.index, dept := k.item.dept, mode := k.item.mode,
    quantity := k.quantity, tare := k.tare, price := k.item.price, amount := k.amount, version := k.item.version,
    generation := s.itb.generation, head := k.head, operator := k.operator }

/-- The label content of a capture (R132 to R134, R68). -/
def labelOf (k : Capture) (s : State) : ItemLabel :=
  { number := k.item.number, name := k.item.name, mode := k.item.mode, quantity := k.quantity, price := k.item.price,
    amount := k.amount, version := k.item.version, pack := s.lbc.date, sellBy := sellByOf s.lbc.date k.item.shelf,
    barcode := itemBarcode k.item.format k.item.number k.amount, format := k.item.format }

/-- What a PREPACK job carries for its fold (R132). -/
def foldOf (k : Capture) (s : State) : PackFold :=
  { head := k.head, operator := k.operator, dept := k.item.dept, index := k.item.index, generation := s.itb.generation }

/-- A job of one copy queued to head `h`'s printer, with PRINTER_DOWN where it is down (R47, R48, R146). -/
def queueAtHead (h : Head) (content : Content) (s : State) : State :=
  let p := (settings h s).printer
  let t := queueJob p (some h) 1 content s
  if printerDown p s then setMessage h .printerDown t else t

/-- The removal of a completed request (R47 step 5, R48 step 4). -/
def endRequest (h : Head) : State → State := onCtx h fun c => { c with request := none }

/-- The completion of a LINE capture on its ticket (R47). -/
def completeLine (k : Capture) (id : TicketId) (s : State) : State :=
  let h := k.head
  let s := lockFor k s
  let position := (ticket id.slot s).lines.length + 1
  let s := appendLine id.slot (lineOf k position s) s
  let s := onCtx h (fun c => { c with lastLine := some ⟨id, position⟩ }) s
  let s := if (settings h s).lineLabels then queueAtHead h (.item (labelOf k s)) s else s
  endRequest h s

/-- Step 3 of R48: the batch of a PREPACK head. -/
def countBatch (h : Head) (s : State) : State :=
  match (ctx h s).batch with
  | .left (n + 1) =>
    if n = 0 then setMessage h .batchDone (onCtx h (fun c => { c with batch := .done }) s)
    else onCtx h (fun c => { c with batch := .left n }) s
  | .left 0 => s
  | .done => s

/-- The completion of a LABEL or PREPACK capture (R48). -/
def completeLabel (k : Capture) (purpose : Purpose) (s : State) : State :=
  let h := k.head
  let s := lockFor k s
  let s := queueAtHead h (.prepack (labelOf k s) (foldOf k s)) s
  let s := match purpose with
    | .prepack => countBatch h s
    | .label => s
    | .line => s
  endRequest h s

/-- Whether a completed capture needs a label (R45 check 3). -/
def needsLabel (purpose : Purpose) (h : Head) (s : State) : Bool :=
  match purpose with
  | .line => (settings h s).lineLabels
  | .label => true
  | .prepack => true

/-- Whether the ticket of a LINE request can take its line: HELD under that identity with fewer than 24 lines. It
always can in a run (R108); elsewhere the request waits (log 23). -/
def lineRoom (id : TicketId) (s : State) : Bool :=
  (ticket id.slot s).state == .held && (ticket id.slot s).serial == id.serial
    && decide ((ticket id.slot s).lines.length < Config.linePlaces)

/-- Checks 2 and 3 of R45 on a capture with its amount, then its completion. -/
def finish (k : Capture) (q : Request) (s : State) : State :=
  let h := k.head
  match q.purpose, q.ticket with
  | .line, some id =>
    if !lineRoom id s then s
    else if Config.ticketLimit < (ticket id.slot s).total + k.amount then refuseRequest h .ticketLimit s
    else if needsLabel .line h s && !queueRoom (settings h s).printer s then refuseRequest h .printerBusy s
    else completeLine k id s
  | .line, none => s
  | purpose, _ =>
    if needsLabel purpose h s && !queueRoom (settings h s).printer s then refuseRequest h .printerBusy s
    else completeLabel k purpose s

/-- The completion checks of R45 for request `q` of the CURRENT copy `i`. -/
def complete (h : Head) (q : Request) (i : Item) (s : State) : State :=
  match (ctx h s).operator with
  | none => s
  | some op =>
    let quantity := quantityOf i.mode q (chan h s)
    match amountOf i.mode i.price quantity with
    | .error code => refuseRequest h code s
    | .ok amount => finish ⟨h, op, i, quantity, tareOf i.mode (chan h s), amount⟩ q s

/-- Whether the channel lets a capture of a sale mode complete (R44 condition 2). -/
def verdictMet (mode : SaleMode) (c : Channel) : Bool :=
  match mode with
  | .weighed => c.verdict == .eligible
  | .counted => true
  | .fixed => true

/-- The examination of head `h`'s pending request (R44). -/
def examine (h : Head) (s : State) : State :=
  match (ctx h s).request with
  | none => s
  | some q =>
    match currentCopy h q.number s with
    | none => s
    | some i => if verdictMet i.mode (chan h s) then complete h q i s else s

/-! ### The making of a request (R42, R50) -/

/-- Purpose of the request an ITEM key makes (R42). -/
def purposeAt (h : Head) (s : State) : Purpose :=
  match role h s with
  | .prepack => .prepack
  | .service => if (ctx h s).labelMark then .label else .line
  | .disabled => .line

/-- A request with its selection and first examination (R42, R76, R44). -/
def makeRequest (h : Head) (i : Item) (q : Request) (s : State) : State :=
  examine h (selectItem h i (onCtx h (fun c => { c with request := some q }) s))

/-- The request an ITEM or LABEL key makes (R42). -/
def keyRequest (h : Head) (i : Item) (s : State) : Request :=
  let purpose := purposeAt h s
  { number := i.number, index := i.index, purpose := purpose, origin := .key
    count := if i.mode = .counted then (ctx h s).count else none
    ticket := if purpose = .line then (ctx h s).held else none
    waited := 0 }

/-- What ITEM or LABEL changes in the context beside the request (R42, R50). -/
def takenItem (h : Head) (n : Nat) (s : State) : State :=
  match role h s with
  | .prepack => onCtx h (fun c => { c with selected := some n, autoHold := false }) s
  | .service => onCtx h (fun c => { c with count := none, labelMark := false, autoHold := false }) s
  | .disabled => s

/-- Cases 5 and 6 of R42: what a LINE request finds at the ticket. -/
def lineRefusal (h : Head) (s : State) : Option Code :=
  match role h s, (ctx h s).labelMark, (ctx h s).held with
  | .service, false, none => some .notHeld
  | .service, false, some id =>
    if Config.linePlaces ≤ (ticket id.slot s).lines.length then some .ticketFull else none
  | _, _, _ => none

/-- The refusal of ITEM n, in the order of R42; the record where there is none. -/
def judgeItem (h : Head) (n : Nat) (s : State) : Except Code Item :=
  if !dayOpen s then .error .dayClosed
  else if (ctx h s).request.isSome then .error .busy
  else
    match findItem n s with
    | none => .error .noItem
    | some i =>
      if i.state == .withdrawn then .error .withdrawn
      else
        match lineRefusal h s with
        | some code => .error code
        | none => if role h s == .prepack && (ctx h s).batch == .done then .error .batchDone else .ok i

/-- ITEM n, and LABEL at a PREPACK head with its selected item (R42, R43). -/
def askItem (h : Head) (n : Nat) (s : State) : State :=
  match judgeItem h n s with
  | .error code => setMessage h code s
  | .ok i => makeRequest h i (keyRequest h i s) (takenItem h n s)

/-- The automatic request of a PREPACK head (R50). -/
def autoRequest (i : Item) : Request :=
  { number := i.number, index := i.index, purpose := .prepack, origin := .auto, count := none, ticket := none,
    waited := 0 }

/-- The item an automatic request is made for on a channel result, when the conditions of R50 hold. -/
def autoItem (h : Head) (r : ChanResult) (s : State) : Option Item :=
  let c := ctx h s
  if r.verdict == .eligible && role h s == .prepack && service h s == .ready && c.request.isNone && c.batch != .done
      && !c.autoHold && dayOpen s then
    (c.selected.bind (findItem · s)).filter fun i => i.state == .active && i.mode == .weighed
  else none

/-! ### What a channel result does at its head (R46, R50, R44) -/

/-- Whether a channel result clears the auto-capture hold (R50). -/
def clearsHold (cfg : HeadSettings) (r : ChanResult) : Bool :=
  (r.stable && (match r.gross with
    | some g => decide (g ≤ ((10 * divSmall cfg.scale : Nat) : Int))
    | none => false)) || r.state == .settling || r.state == .idle

/-- A channel result taken by the Head Service Unit: the cancellations of R46, the hold of R50, then the examination
of a request that was pending, or the automatic request (log 16). The display is composed again (R52). -/
def handResult (h : Head) (r : ChanResult) (fault newOver : Bool) (s : State) : State :=
  let waiting := (ctx h s).request.isSome
  let s := if fault then cancelRequest h .cell s else s
  let s := if newOver then cancelRequest h .overCap s else s
  let s := if clearsHold (settings h s) r then onCtx h (fun c => { c with autoHold := false }) s else s
  let s :=
    if waiting then examine h s
    else
      match autoItem h r s with
      | some i => makeRequest h i (autoRequest i) s
      | none => s
  recompose h s

/-- One sample processed by head `h`'s channel, with all it sets off (R9 to R22). -/
def takeSample (h : Head) (raw : Int) (s : State) : State :=
  match process (settings h s) (pairSettings h s) (ctx h s).request.isSome (chan h s) raw with
  | none => s
  | some p =>
    let s := onChan h (fun _ => p.chan) s
    let s := if p.zeroLimit then flagZeroLimit h s else s
    let s := if p.cellFault then flagCellFault h s else s
    handResult h p.result p.cellFault p.newOver s

/-- A restart of head `h`'s channel, with the result it hands when it leaves ACTIVE (R7). -/
def restart (h : Head) (s : State) : State :=
  let t := onChan h restartChannel s
  if (chan h s).state == .active then handResult h (blankResult .settling unstable) false false t else t

/-- Head `h`'s channel goes to IDLE, and hands the result (R8). -/
def goIdle (h : Head) (s : State) : State :=
  handResult h (blankResult .idle unstable) false false (onChan h (toIdle (settings h s)) s)

/-! ### The frame start of the Head Service Unit (R46, R50, R53) -/

/-- The end that a frame start brings to head `h`'s request: WITHDRAWN, DAY_CLOSED, or the time limit (R46). -/
def frameRefusal (h : Head) (q : Request) (s : State) : Option Code :=
  if !activeItem q.number s then some .withdrawn
  else if !dayOpen s then some .dayClosed
  else if q.waited + 1 < Config.captureFrames then none
  else if copyCurrent h q.number s then some .unstable
  else some .copyWait

/-- The pending request at a frame start (R46). -/
def frameRequest (h : Head) (s : State) : State :=
  match (ctx h s).request with
  | none => s
  | some q =>
    match frameRefusal h q s with
    | some code => refuseRequest h code s
    | none => onCtx h (fun c => { c with request := some { q with waited := q.waited + 1 } }) s

/-- The selected item at a frame start (R50). -/
def frameSelected (h : Head) (s : State) : State :=
  match (ctx h s).selected with
  | none => s
  | some n =>
    if activeItem n s then s else setMessage h .withdrawn (onCtx h (fun c => { c with selected := none }) s)

/-- The message at a frame start (R53). -/
def frameMessage (h : Head) : State → State := onCtx h fun c => { c with message := c.message.bind countMessage }

/-- The frame start at head `h`, in the order of R174 (log 15). -/
def frameHead (h : Head) (s : State) : State := frameMessage h (frameSelected h (frameRequest h s))

/-! ### Acknowledgements at their head (R80) -/

/-- A copy acknowledgement taken for head `h` (R80): the entry, the notice with its examination, the watch. -/
def takeAck (h : Head) (a : Ack) (s : State) : State :=
  match ackedItem a (copies h s) with
  | none => s
  | some n =>
    let s := onCopies h (ackIn a) s
    let s := if requestItem h s == some n then examine h s else s
    examineWatch s

end Sys2Proof.Machine
end

