-- ==== Sys2Proof/Machine/Link.lean ====
section
/-! DEFINITION. The Link Controller: presence, joins, misses, losses, the hand-over of reports, the frame start, downstream messages and hub reset (chapter 9). -/

namespace Sys2Proof.Machine

/-! ### Counters -/

/-- Slot `i`'s error counter raised by 1, saturating; a DISABLED slot counts nothing (R192). -/
def countError (i : Slot) (s : State) : State :=
  if presence i s == .disabled then s else onSlot i (fun l => { l with errors := min (l.errors + 1) Config.errorLimit }) s

/-- The presence state of slot `i` set, with miss count 0. -/
def setPresence (i : Slot) (p : Presence) : State → State := onSlot i fun l => { l with presence := p, misses := 0 }

/-- The silence threshold that holds for slot `i` (R183). -/
def silenceThreshold (i : Slot) (s : State) : Nat :=
  match slotHead i with
  | some h => (pairSettings h s).silence
  | none => Config.deviceSilence

/-! ### Loss (R184) -/

/-- What the loss of a slot does in the blocks that own its device's state (R184). -/
def ownersLose (i : Slot) (s : State) : State :=
  match slotHead i, slotPrinter i with
  | some h, _ =>
    examineWatch (clearCopies h (goIdle h (loseContext h (flagHeadLost h (onHeadLink h (fun _ => resetHeadLink) s)))))
  | none, some p => printerOffline p (flagPrinterLost p s)
  | none, none => dispenserGone (flagDispenserLost s)

/-- The loss of slot `i`, which leaves it in presence state `p`: ABSENT, or DISABLED when masked (R184). -/
def loseSlot (p : Presence) (i : Slot) (s : State) : State := ownersLose i (setPresence i p s)

/-! ### Join (R182, R185) -/

/-- What a join tells the owners of a slot's state (R182). -/
def ownersJoin (i : Slot) (s : State) : State :=
  match slotHead i, slotPrinter i with
  | some h, _ => clearCopies h (restart h (onHeadLink h (fun _ => resetHeadLink) s))
  | none, some _ => s
  | none, none => dispenserGone s

/-- A join (R182). -/
def joinSlot (i : Slot) (s : State) : State :=
  ownersJoin i (onSlot i (fun l => { l with presence := .joining, joinWait := 0, misses := 0 }) s)

/-- A matching JOIN taken: a loss first where the slot was ONLINE or SILENT (R185). -/
def takeJoin (i : Slot) (s : State) : State := joinSlot i (if onLink i s then loseSlot .absent i s else s)

/-! ### Misses (R183) -/

/-- Whether the next miss of slot `i` brings its miss count to the silence threshold. -/
def lossDue (i : Slot) (s : State) : Bool :=
  onLink i s && decide (silenceThreshold i s ≤ (slotLink i s).misses + 1)

/-- The report of a miss to a head's channel (R9, R183). -/
def channelMiss (i : Slot) (s : State) : State :=
  match slotHead i with
  | some h => onChan h missedSample s
  | none => s

/-- A miss in ONLINE or SILENT (R183); elsewhere a miss changes nothing. -/
def takeMiss (i : Slot) (s : State) : State :=
  if !onLink i s then s
  else if lossDue i s then loseSlot .absent i (channelMiss i s)
  else channelMiss i (onSlot i (fun l => { l with presence := .silent, misses := l.misses + 1 }) s)

/-! ### Good reports (R179, R187 to R189) -/

/-- The key event of a good report: the serial, then the key (R187, R188). -/
def takeKeyEvent (h : Head) (k : WireKey) (s : State) : State :=
  if (headLink h s).serial == some k.serial then s
  else
    let s := onHeadLink h (fun l => { l with serial := some k.serial }) s
    match keyOfCode k.kind with
    | some kind =>
      if k.arg ≤ Config.itemNumberLimit then onInbox h (fun b => { b with keys := b.keys ++ [⟨kind, k.arg⟩] }) s
      else countError (headSlot h) s
    | none => countError (headSlot h) s

/-- The copy acknowledgement of a good report (R188, R189). -/
def takeWireAck (h : Head) (a : WireAck) (s : State) : State :=
  match index? 16 a.slot.toNat with
  | some slot =>
    onInbox h (fun b => { b with acks := b.acks ++ [⟨slot, a.version⟩] })
      (onHeadLink h (fun l => { l with ack := some ⟨slot, a.version⟩ }) s)
  | none => countError (headSlot h) s

/-- The three parts of a good HEAD_REPORT handed on (R179). -/
def handHead (h : Head) (r : HeadReport) (s : State) : State :=
  let s := onInbox h (fun b => { b with samples := b.samples ++ [r.raw] }) s
  let s := match r.key with
    | some k => takeKeyEvent h k s
    | none => s
  match r.ack with
  | some a => takeWireAck h a s
  | none => s

/-- The notice that a head's slot is ONLINE, at its channel (R6). -/
def channelOnline (h : Head) (s : State) : State :=
  if role h s == .disabled then s else onChan h startSettling s

/-- A good regular report handed on from slot `i`; `first` says that it makes the slot ONLINE out of JOINING (R179,
R182). -/
def handOn (i : Slot) (first : Bool) (m : Upstream) (s : State) : State :=
  match m, slotHead i, slotPrinter i with
  | .head r, some h, _ => handHead h r (if first then channelOnline h s else s)
  | .printer r, none, some p => if first then printerOnline p r s else takePrinterReport p r s
  | .dispenser c, none, none => takeCounter c s
  | _, _, _ => s

/-- A good regular report in slot `i` (R181, R182, R183). -/
def takeReport (i : Slot) (m : Upstream) (s : State) : State :=
  match presence i s with
  | .disabled => s
  | .absent => s
  | .joining => handOn i true m (setPresence i .online s)
  | .online => handOn i false m (setPresence i .online s)
  | .silent => handOn i false m (setPresence i .online s)

/-! ### Upstream parts (R176, R181) -/

/-- A rejected upstream part, or a JOIN of another kind: the error counter, and a miss in ONLINE or SILENT. -/
def rejectPart (i : Slot) (s : State) : State := takeMiss i (countError i s)

/-- A good upstream message in slot `i`. -/
def takeGood (i : Slot) (m : Upstream) (s : State) : State :=
  match m with
  | .join k => if k = slotClass i then takeJoin i s else rejectPart i s
  | .head _ => takeReport i m s
  | .printer _ => takeReport i m s
  | .dispenser _ => takeReport i m s

/-- The upstream part of slot `i` judged and taken (R176), with the message that began in it; that of a DISABLED slot is
not (R180). -/
def upstreamPart (i : Slot) (part : Option (List Byte)) (s : State) : State :=
  if presence i s == .disabled then s
  else
    match judgePart i part with
    | .missing => takeMiss i s
    | .badCrc => rejectPart i s
    | .malformed => rejectPart i s
    | .good m => takeGood i m s

/-! ### Frame start (R174) -/

/-- One slot under a new mask (R180). -/
def maskSlot (new : Table Bool 11) (i : Slot) (s : State) : State :=
  match s.lnk.mask.look i, new.look i with
  | true, false => if onLink i s then loseSlot .disabled i s else setPresence i .disabled s
  | false, true => if presence i s == .disabled then setPresence i .absent s else s
  | true, true => s
  | false, false => s

/-- Step 1 of R174: a pending mask takes effect (R180). -/
def applyMask (s : State) : State :=
  match s.lnk.pendingMask with
  | none => s
  | some m =>
    let t := eachSlotDown (maskSlot m) s
    { t with lnk := { t.lnk with mask := m, pendingMask := none } }

/-- One slot under a link restart (R191). -/
def restartSlot (i : Slot) (s : State) : State :=
  match presence i s with
  | .online => loseSlot .absent i s
  | .silent => loseSlot .absent i s
  | .joining => setPresence i .absent s
  | .absent => s
  | .disabled => s

/-- Step 2 of R174: a pending link restart (R191). -/
def applyRestart (s : State) : State :=
  if s.lnk.restart then
    let t := eachSlotDown restartSlot s
    { t with lnk := { t.lnk with restart := false } }
  else s

/-- Step 3 of R174 at one slot: the join wait (R182). -/
def joinWait (i : Slot) : State → State :=
  onSlot i fun l =>
    match l.presence with
    | .joining =>
      { l with
        joinWait := l.joinWait + 1
        presence := if l.joinWait + 1 < Config.joinFrames then .joining else .absent }
    | _ => l

/-- Whether the next frame start ends slot `i`'s join wait (R182). -/
def joinExpiryDue (i : Slot) (s : State) : Bool :=
  presence i s == .joining && decide (Config.joinFrames ≤ (slotLink i s).joinWait + 1)

/-- Step 4 of R174, with the signals to the blocks that count frames. -/
def countFrame (s : State) : State :=
  { s with
    lnk := { s.lnk with frame := s.lnk.frame + 1 }
    hand := { s.hand with hsu := s.hand.hsu + 1, ccu := s.hand.ccu + 1, tkp := s.hand.tkp + 1 }
    down := noDownstream }

/-- The frame start (R174). Where it takes both a mask and a restart, the numbers that the restart returns stand in front
of those that the mask returned, each group in ascending order of head index (DEDUCED, log 21). -/
def frameStart (s : State) : State := countFrame (eachSlot joinWait (applyRestart (applyMask s)))

/-! ### Downstream (R175, R178, R190) -/

/-- The FRAME_NOTICE of slot 11 (R175). -/
def sendNotice (s : State) : State := send 11 (.frameNotice (writeFrameNotice s.lnk.frame s.lbc.date)) s

/-- The texts of a head's WELCOME (R190). -/
def welcomeTexts (i : Slot) (s : State) : Option (List Byte × List Byte) :=
  (slotHead i).map fun h => (divisionText (settings h s).scale, kgText)

/-- Whether slot `i`'s downstream part carries a WELCOME in place of its update: a refresh is owed (R190). -/
def refreshOwed (i : Slot) (s : State) : Bool :=
  match slotHead i with
  | some h => onLink i s && (headLink h s).refresh
  | none => false

/-- A refresh no longer owed (R190). -/
def clearRefresh (i : Slot) (s : State) : State :=
  match slotHead i with
  | some h => onHeadLink h (fun l => { l with refresh := false }) s
  | none => s

/-- The WELCOME of slot `i` (R178, R190). -/
def sendWelcome (i : Slot) (s : State) : State :=
  let m := Downstream.welcome i (welcomeTexts i s)
  if presence i s == .joining then send (downSlot i) m s
  else if refreshOwed i s then send (downSlot i) m (clearRefresh i s)
  else s

/-- The HEAD_UPDATE of head `h` (R178). It carries the display record as last composed before it, so the one that
carries the push of a STALE entry still shows the STALE marker (DEDUCED, log 38). -/
def sendHeadUpdate (h : Head) (s : State) : State :=
  let i := headSlot h
  if onLink i s && !refreshOwed i s then
    let o := copyOperation h s
    send (downSlot i) (.headUpdate (display h s) (headLink h s).serial o.1) o.2
  else s

/-- The PRINTER_UPDATE of printer `p` (R178, R139). -/
def sendPrinterUpdate (p : Printer) (s : State) : State :=
  let i := printerSlot p
  if onLink i s then
    let o := printerOp p s
    send (downSlot i) (.printerUpdate o.1) o.2
  else s

/-- The DISPENSER_UPDATE (R178, R94). -/
def sendDispenserUpdate (s : State) : State :=
  if onLink dispenserSlot s then
    let u := s.snu
    send (downSlot dispenserSlot) (.dispenserUpdate u.issued u.lastCalled u.waiting.length u.full)
      (onSnu (fun u => { u with issued := [], full := false }) s)
  else s

/-! ### Hub reset (R207 and the hub reset column of every chapter) -/

/-- Hub reset at the blocks behind the heads: every head signed off, numbers returned in ascending order of head
index (R36, R101), contexts at the values of R29, the sign-on table empty (R30). -/
def resetHeads (s : State) : State :=
  let t := allHeads.reverse.foldl (fun s h => loseContext h s) s
  { t with hsu := { t.hsu with signOn := Table.const 32 none } }

/-- Hub reset at the channels (R5, R8). -/
def resetChannels (s : State) : State :=
  { s with wge := { s.wge with chans := Table.gen fun h => idleChannel (s.wge.settings.look h).z0 } }

/-- Hub reset at the Link Controller (R193). A masked-off slot stays DISABLED; that its join wait and miss count become
0 with those of the enabled slots is the model's reading (DEDUCED, log 47). -/
def resetLink (u : Lnk) : Lnk :=
  { u with
    frame := 0, restart := false
    slots := Table.gen fun i => resetSlot (u.mask.look i)
    heads := Table.const 8 resetHeadLink }

/-- Hub reset at the Host Port (R195, R207). -/
def resetPort (p : Port) : Port := { p with inProcess := none, buffer := none, latched := noFlags }

/-- A hub reset (R207). -/
def hubResetEffects (s : State) : State :=
  let s := resetChannels (resetHeads s)
  let s := printerOffline 0 (printerOffline 1 (dispenserGone s))
  { s with
    ccu := powerOnCcu
    tot := { s.tot with hold := none }
    lnk := resetLink s.lnk
    port := resetPort s.port
    hand := emptyHand
    down := noDownstream }

end Sys2Proof.Machine
end

