-- ==== Sys2Proof/Machine/Reply.lean ====
section
/-! DEFINITION. The bytes of a response: status codes, the payload of every command's answer by the kinds of R208, and the response frame (10.6). Points the manual leaves to the reader are in log 19. -/

namespace Sys2Proof.Machine

/-! ### Kinds (R208) -/

/-- A one-byte number. -/
def byteOf (n : Nat) : Byte := BitVec.ofNat 8 n

/-- An on/off or set/clear field. -/
def flagByte (b : Bool) : Byte := if b then 1 else 0

/-- An optional field with the writer of the field. -/
def putOption {α : Type} (w : α → List Byte) : Option α → List Byte
  | none => [0]
  | some a => 1 :: w a

/-- A list of at most 255 elements with the writer of an element. -/
def putList {α : Type} (w : α → List Byte) (xs : List α) : List Byte := byteOf xs.length :: xs.flatMap w

/-- A flag as a field. -/
def putFlag (b : Bool) : List Byte := [flagByte b]

/-- An optional unsigned integer of `n` bytes. -/
def putOptNat (n : Nat) : Option Nat → List Byte := putOption (beNat n)

/-! ### Enumerations, numbered in the order their rule lists them -/

/-- Role (R2). -/
def roleByte : Role → Byte
  | .disabled => 0 | .service => 1 | .prepack => 2
/-- Zero tracking mode (R1). -/
def trackByte : TrackMode → Byte
  | .off => 0 | .oneStep => 1 | .proportional => 2
/-- Channel state (R5). -/
def chanStateByte : ChanState → Byte
  | .idle => 0 | .settling => 1 | .active => 2 | .cellFault => 3
/-- Tare source (R17, R20). -/
def tareSourceByte : TareSource → Byte
  | .manual => 0 | .preset => 1
/-- Capture lock (R5). -/
def lockByte : Lock → Byte
  | .armed => 0 | .locked => 1
/-- Reason of a verdict (R21). -/
def reasonByte : Reason → Byte
  | .cell => 0 | .unstable => 1 | .overCap => 2 | .belowMin => 3 | .locked => 4
/-- Service state (R29). -/
def serviceByte : Service → Byte
  | .off => 0 | .ready => 1 | .serving => 2
/-- Message code, in the order of the table of R53. -/
def codeByte : Code → Byte
  | .noItem => 0 | .withdrawn => 1 | .noPrice => 2 | .unstable => 3 | .copyWait => 4 | .belowMin => 5 | .overCap => 6
  | .amountOver => 7 | .ticketFull => 8 | .ticketLimit => 9 | .inUse => 10 | .notHeld => 11 | .notFound => 12
  | .printerBusy => 13 | .printerDown => 14 | .zeroRange => 15 | .tareRange => 16 | .tareActive => 17
  | .dayClosed => 18 | .noOperator => 19 | .queueEmpty => 20 | .queueBlocked => 21 | .poolFull => 22
  | .emptyTicket => 23 | .batchDone => 24 | .busy => 25 | .parked => 26 | .cell => 27
/-- Purpose of a request (R42). -/
def purposeByte : Purpose → Byte
  | .line => 0 | .label => 1 | .prepack => 2
/-- Origin of a request (R42, R50). -/
def originByte : Origin → Byte
  | .key => 0 | .auto => 1
/-- Sale mode (R55). -/
def saleModeByte : SaleMode → Byte
  | .weighed => 0 | .counted => 1 | .fixed => 2
/-- State of an item record (R55). -/
def itemStateByte : ItemState → Byte
  | .active => 0 | .withdrawn => 1
/-- State of a copy entry (R74). -/
def copyStateByte : CopyState → Byte
  | .sending => 0 | .current => 1 | .stale => 2
/-- Ticket state (R104). -/
def ticketStateByte : TicketState → Byte
  | .free => 0 | .held => 1 | .parked => 2 | .closing => 3 | .closed => 4
/-- Job kind (R129). -/
def jobKindByte : JobKind → Byte
  | .item => 0 | .prepack => 1 | .summary => 2 | .text => 3
/-- Printer state (R137). -/
def printerStateByte : PrinterState → Byte
  | .offline => 0 | .idle => 1 | .loading => 2 | .printing => 3 | .stopped => 4
/-- Accumulator group (R153). -/
def groupByte : Group → Byte
  | .grand => 0 | .head => 1 | .operator => 2 | .department => 3 | .item => 4
/-- Day state (R158). -/
def dayByte : DayState → Byte
  | .closed => 0 | .opened => 1 | .closing => 2
/-- Presence state (R181). -/
def presenceByte : Presence → Byte
  | .disabled => 0 | .absent => 1 | .joining => 2 | .online => 3 | .silent => 4
/-- Status code (R201). -/
def statusByte : Status → Byte
  | .done => 0 | .badCommand => 1 | .badValue => 2 | .notFound => 3 | .existsAlready => 4 | .full => 5
  | .wrongState => 6 | .inUse => 7

/-! ### Records -/

/-- An operator number, counted from 1. -/
def putOperator (n : Operator) : List Byte := [byteOf (n.val + 1)]
/-- A head index. -/
def putHead (h : Head) : List Byte := [byteOf h.val]
/-- A ticket identity: slot, counted from 1, and use serial (R104). -/
def putTicketId (t : TicketId) : List Byte := [byteOf (t.slot.val + 1), t.serial]
/-- A mask of eleven settings in two bytes (log 19). -/
def putMask (m : Table Bool 11) : List Byte :=
  beNat 2 ((allSlots.map fun i => if m.look i then 2 ^ i.val else 0).sum)

/-- A scale type: capacities in tg, divisions in grams (R2, R208). -/
def putScaleType : ScaleType → List Byte
  | .single max d => 0 :: (beNat 3 max ++ beNat 1 (d / 10))
  | .dual max1 d1 max2 d2 => 1 :: (beNat 3 max1 ++ beNat 1 (d1 / 10) ++ beNat 3 max2 ++ beNat 1 (d2 / 10))

/-- Head settings (R2). -/
def putSettings (c : HeadSettings) : List Byte :=
  roleByte c.role :: (beInt 3 c.z0 ++ beNat 3 c.span ++ beNat 3 c.zr ++ putScaleType c.scale ++ [byteOf c.printer.val]
    ++ putFlag c.lineLabels ++ beNat 2 c.idleLimit)

/-- Pair settings (R1). -/
def putPair (p : PairSettings) : List Byte :=
  [byteOf p.depth, byteOf p.window, byteOf p.silence, trackByte p.mode, byteOf p.gain]

/-- A tare with its source (R20, R105). -/
def putTare (t : Tare) : List Byte := beNat 3 t.value ++ [tareSourceByte t.source]

/-- A verdict (R21). -/
def putVerdict : Verdict → List Byte
  | .eligible => [0]
  | .notEligible r => [1, reasonByte r]

/-- A channel result (R20). -/
def putResult (r : ChanResult) : List Byte :=
  chanStateByte r.state :: (putOption (beInt 4) r.gross ++ putOption putTare r.tare ++ putOption (beInt 4) r.net
    ++ putOptNat 2 r.division ++ putOption (beInt 3) r.shown ++ putFlag r.stable ++ putFlag r.zeroFlag
    ++ putFlag r.netFlag ++ putFlag r.overFlag ++ putFlag r.underFlag ++ putVerdict r.verdict)

/-- A capture request (R42). -/
def putRequest (q : Request) : List Byte :=
  beNat 3 q.number ++ beNat 2 q.index ++ [purposeByte q.purpose, originByte q.origin] ++ putOptNat 2 q.count
    ++ putOption putTicketId q.ticket ++ beNat 2 q.waited

/-- Batch remaining (R29). -/
def putBatch : Batch → List Byte
  | .left 0 => [0]
  | .left n => 1 :: beNat 2 n
  | .done => [2]

/-- A unit text (R52). -/
def putUnit : UnitText → List Byte
  | .kg => putText kgText
  | .pcs => putText (chars [112, 99, 115])

/-- A display record (R52). -/
def putDisplay (d : Display) : List Byte :=
  putOption (beInt 3) d.weight ++ putOption putUnit d.unitText ++ putFlag d.stable ++ putFlag d.netFlag
    ++ putFlag d.zeroFlag ++ putFlag d.overFlag ++ putFlag d.underFlag ++ putOptNat 3 d.number
    ++ putOption putText d.name ++ putOptNat 3 d.price ++ putOptNat 3 d.amount
    ++ putOption (fun t : TicketSummary => beNat 2 t.service ++ beNat 1 t.lines ++ beNat 4 t.total) d.ticket
    ++ putOptNat 2 d.nowServing ++ putOption (fun c => [codeByte c]) d.message ++ putFlag d.stale

/-- A head context without its display record (R29). The fields of a pending request, which R54 lists after those of
R29 and R29 lists among its own, are sent once, at R29's place (DESIGN CHOICE, log 19). -/
def putCtx (service : Service) (c : HeadCtx) : List Byte :=
  serviceByte service :: (putOption putOperator c.operator ++ putOptNat 2 c.nowServing ++ putOption putTicketId c.held
    ++ putOptNat 2 c.count ++ putFlag c.labelMark ++ putOptNat 3 c.selected ++ putBatch c.batch
    ++ putOption putRequest c.request ++ putFlag c.autoHold
    ++ putOption (fun m : Message => [codeByte m.code, byteOf m.frames]) c.message
    ++ putOption (fun l : LineRef => putTicketId l.ticket ++ beNat 1 l.position) c.lastLine)

/-- The answer of READ_HEAD (R54, R28). The two rules put the parts beside each other without an order: the head context
part comes first here, the channel part second (DESIGN CHOICE, log 19). -/
def putHeadReply (r : HeadReply) : List Byte :=
  putCtx r.service r.ctx ++ putDisplay r.display ++ putSettings r.settings ++ putPair r.pair
    ++ [chanStateByte r.state] ++ beInt 4 r.zero ++ putOptNat 3 r.manual ++ putOptNat 2 r.offer ++ [lockByte r.lock]
    ++ beNat 1 r.windowLength ++ beNat 1 r.historyLength ++ putOption putResult r.last

/-- The answer of READ_LINK (R194). -/
def putLinkReply (r : LinkReply) : List Byte :=
  putMask r.mask ++ putOption putMask r.pendingMask ++ putFlag r.restart ++ [r.frame]
    ++ allSlots.flatMap fun i =>
      let l := r.slots.look i
      presenceByte l.presence :: (beNat 1 l.joinWait ++ beNat 1 l.misses ++ beNat 2 l.errors
        ++ (match slotHead i with
            | some h =>
              let k := r.heads.look h
              putOption (fun s : BitVec 4 => [byteOf s.toNat]) k.serial
                ++ putOption (fun a : Ack => [byteOf a.slot.val, a.version]) k.ack ++ putFlag k.refresh
            | none => []))

/-- An item record (R55) with its index (R63). -/
def putItem (i : Item) : List Byte :=
  beNat 3 i.number ++ putText i.name ++ [saleModeByte i.mode] ++ beNat 3 i.price ++ putOptNat 3 i.pending
    ++ putOptNat 2 i.preset ++ putOptNat 2 i.shelf ++ [byteOf i.dept.val, byteOf i.format.val, itemStateByte i.state,
      i.version] ++ beNat 2 i.refs ++ beNat 2 i.index

/-- A copy list entry (R74). -/
def putCopyEntry (e : CopyEntry) : List Byte :=
  byteOf e.slot.val :: (beNat 2 e.index ++ beNat 3 e.number ++ [e.version, copyStateByte e.state] ++ putOptNat 1 e.age)

/-- The answer of READ_COPIES (R88). -/
def putCopiesReply (r : CopiesReply) : List Byte :=
  putList putCopyEntry r.entries ++ putList (fun d : CacheSlot => [byteOf d.val]) r.drops ++ putFlag r.inStep
    ++ [if r.armed then 0 else 1]

/-- The answer of READ_QUEUE (R103). -/
def putQueueReply (r : QueueReply) : List Byte :=
  beNat 2 r.low ++ beNat 2 r.high ++ beNat 1 r.capacity ++ beNat 2 r.next
    ++ putList (fun e : WaitEntry => beNat 2 e.number ++ putFlag e.skipped) r.waiting
    ++ allHeads.flatMap (fun h => putOptNat 2 (r.serving.look h) ++ putFlag (r.skipped.look h))
    ++ putOptNat 2 r.lastCalled ++ putOption (fun c : Byte => [c]) r.counter

/-- An entry of LIST_TICKETS (R125). -/
def putTicketEntry (e : TicketEntry) : List Byte :=
  [byteOf (e.slot.val + 1), e.serial, ticketStateByte e.state] ++ putOptNat 2 e.service ++ putOption putHead e.holder
    ++ beNat 1 e.lines ++ beNat 4 e.total

/-- The five counts of LIST_TICKETS (R125). -/
def putCounts (c : TicketCounts) : List Byte :=
  [byteOf c.free, byteOf c.held, byteOf c.parked, byteOf c.closing, byteOf c.closed]

/-- A ticket line (R105). -/
def putLine (l : Line) : List Byte :=
  beNat 1 l.position ++ beNat 3 l.number ++ beNat 2 l.index ++ [byteOf l.dept.val, saleModeByte l.mode]
    ++ beNat 3 l.quantity ++ putOption putTare l.tare ++ beNat 3 l.price ++ beNat 3 l.amount ++ [l.version]
    ++ beNat 2 l.generation.toNat ++ putHead l.head ++ putOperator l.operator

/-- A ticket record without its slot (R126). -/
def putTicket (t : Ticket) : List Byte :=
  [t.serial, ticketStateByte t.state] ++ putOptNat 2 t.service ++ putOption putHead t.holder
    ++ putOption putHead t.openHead ++ putOption putOperator t.openOperator ++ beNat 2 t.idle ++ putList putLine t.lines
    ++ beNat 4 t.total ++ putOption (fun j : JobRef => [byteOf j.printer.val, j.tag]) t.job

/-- A barcode: one byte a digit (log 19). -/
def putBarcode : Option (List Nat) → List Byte := putOption fun ds => ds.map byteOf

/-- The content of an ITEM or PREPACK label (R132). -/
def putItemLabel (l : ItemLabel) : List Byte :=
  beNat 3 l.number ++ putText l.name ++ [saleModeByte l.mode] ++ beNat 3 l.quantity ++ beNat 3 l.price
    ++ beNat 3 l.amount ++ [l.version] ++ dateBytes l.pack ++ putOption (fun d => dateBytes (some d)) l.sellBy
    ++ putBarcode l.barcode ++ [byteOf l.format.val]

/-- The content of a job (R132), as a field with alternatives behind a byte of its own, although the kind of the job
stands before it (DESIGN CHOICE, log 19). -/
def putContent : Content → List Byte
  | .item l => 0 :: putItemLabel l
  | .prepack l f =>
    1 :: (putItemLabel l ++ putHead f.head ++ putOperator f.operator ++ [byteOf f.dept.val] ++ beNat 2 f.index
      ++ beNat 2 f.generation.toNat)
  | .summary l =>
    2 :: (putTicketId l.ticket ++ beNat 2 l.service ++ beNat 1 l.lines ++ beNat 4 l.total ++ putBarcode l.barcode)
  | .text ls => 3 :: putList putText ls

/-- A job (R129, R151). -/
def putJob (j : Job) : List Byte :=
  [j.tag, jobKindByte (kindOf j.content)] ++ putOption putHead j.source ++ beNat 1 j.copies ++ beNat 1 j.remaining
    ++ putFlag j.folded ++ putContent j.content

/-- A load point (R137). -/
def putLoad : LoadPoint → List Byte
  | .chunk k => [0, byteOf k]
  | .done => [1]

/-- A printer context (R137). -/
def putPrinterCtx (c : PrinterCtx) : List Byte :=
  [printerStateByte c.state, byteOf c.credit, conditionByte c.condition] ++ putOption (fun t : Tag => [t]) c.heldTag
    ++ putOption putLoad c.load ++ [byteOf c.printed] ++ putOption (fun t : Tag => [t]) c.owedDrop

/-- The answer of READ_PRINTER (R151). -/
def putPrinterReply (r : PrinterReply) : List Byte :=
  putPrinterCtx r.ctx ++ putList putJob r.queue ++ [r.candidate] ++ putOption (fun d => dateBytes (some d)) r.date

/-- An accumulator (R152). -/
def putAcc (a : Acc) : List Byte :=
  beNat 4 a.lines ++ beNat 6 a.weight ++ beNat 4 a.pieces ++ beNat 6 a.amount ++ beNat 4 a.voidLines
    ++ beNat 6 a.voidAmount ++ putFlag a.saturated

/-- The group of an accumulator (R153). -/
def groupOfKey : AccKey → Group
  | .grand => .grand
  | .head _ => .head
  | .operator _ => .operator
  | .department _ => .department
  | .item _ => .item

/-- The key of an accumulator (R153). GRAND has no key, and sends no byte for it (DESIGN CHOICE, log 19). -/
def putKey : AccKey → List Byte
  | .grand => []
  | .head h => putHead h
  | .operator n => putOperator n
  | .department d => [byteOf d.val]
  | .item n => beNat 3 n

/-- Record index and state beside an ITEM key. -/
def putItemTag (t : ItemTag) : List Byte := beNat 2 t.index ++ [itemStateByte t.state]

/-- A field that stands in ITEM entries only. -/
def putWhere {α : Type} (w : α → List Byte) : Option α → List Byte
  | none => []
  | some a => w a

/-- An entry of a snapshot (R164). -/
def putHoldEntry (e : HoldEntry) : List Byte := putKey e.key ++ putWhere putItemTag e.item ++ putAcc e.acc

/-- A drained entry (R168). An item's number is sent once, as its key; its index and state and whether it was purged
stand after the saturated flag, in ITEM entries only and without a presence byte (DESIGN CHOICE, log 19). -/
def putDrainEntry (e : DrainEntry) : List Byte :=
  groupByte (groupOfKey e.key) :: (putKey e.key ++ putAcc e.acc ++ putWhere putItemTag e.item
    ++ putWhere putFlag e.purged ++ beNat 2 e.sequence)

/-- The page count of a number of entries (R164). -/
def pageCount (n : Nat) : Nat := max 1 ((n + Config.pageEntries - 1) / Config.pageEntries)

/-- A standing latched flag with sources, behind its number in the table of R202. R202 keeps the sources as a set; that
they are sent in ascending order of index is the model's (DESIGN CHOICE, log 19). -/
def putSourced {n : Nat} (k : Nat) (t : Table Bool n) : List (List Byte) :=
  if anySource t then [byteOf k :: putList (fun i : Fin n => [byteOf i.val]) (sources t)] else []

/-- A standing latched flag without sources. -/
def putPlain (k : Nat) (b : Bool) : List (List Byte) := if b then [[byteOf k]] else []

/-- The answer of READ_STATUS (R206): the standing latched flags as a list in the order of R202, then the level
flags (DESIGN CHOICE, log 19). -/
def putStatus (l : Latched) (collect full : Bool) : List Byte :=
  putList id (putSourced 0 l.headLost ++ putSourced 1 l.printerLost ++ putPlain 2 l.dispenserLost
      ++ putSourced 3 l.printerStopped ++ putSourced 4 l.cellFault ++ putSourced 5 l.zeroLimit
      ++ putPlain 6 l.totalSaturated ++ putPlain 7 l.inStep ++ putPlain 8 l.dispenserRefused
      ++ putPlain 9 l.portOverrun)
    ++ putFlag collect ++ putFlag full

/-- The payload of a response. That of a READ_CLOSING taken opens with a byte for its alternative: 0 before an entry, 1
before the drain count of END (DESIGN CHOICE, log 19). -/
def replyPayload : Reply → List Byte
  | .empty => []
  | .link r => putLinkReply r
  | .head r => putHeadReply r
  | .added k => beNat 2 k
  | .updated v => [v]
  | .item i n g => putItem i ++ beNat 2 n ++ beNat 2 g.toNat
  | .unstaged b => putFlag b
  | .committed c n g => beNat 2 c ++ beNat 2 n ++ beNat 2 g.toNat
  | .withdrawn purged kept =>
    putFlag purged ++ putWhere (fun k : Nat × Bool => beNat 2 k.1 ++ putFlag k.2) kept
  | .copies r => putCopiesReply r
  | .capacity n => beNat 1 n
  | .queue r => putQueueReply r
  | .tickets es c => putList putTicketEntry es ++ putCounts c
  | .ticket t => putTicket t
  | .voided n sum => beNat 1 n ++ beNat 4 sum
  | .queued tag down => tag :: putFlag down
  | .cancelled k n fed => jobKindByte k :: (beNat 1 n ++ putFlag fed)
  | .moved m l => beNat 1 m ++ beNat 1 l
  | .printer r => putPrinterReply r
  | .day d => [dayByte d]
  | .closeRefused d held parked closing unfolded =>
    dayByte d :: (beNat 1 held ++ beNat 1 parked ++ beNat 1 closing ++ beNat 1 unfolded)
  | .totals h page =>
    [h.serial, groupByte h.group, dayByte h.day] ++ beNat 2 h.entries.length ++ beNat 1 (pageCount h.entries.length)
      ++ putList putHoldEntry page
  | .page serial g pages es => [serial, groupByte g] ++ beNat 1 pages ++ putList putHoldEntry es
  | .drained e => 0 :: putDrainEntry e
  | .drainEnd n => 1 :: beNat 2 n
  | .status l c f => putStatus l c f

/-- A response frame after its port byte (10.6). -/
def responseBytes (status : Status) (serial code : Byte) (payload : List Byte) : List Byte :=
  [statusByte status, serial, code] ++ beNat 2 payload.length ++ payload

end Sys2Proof.Machine
end

