-- ==== Sys2Proof/Machine/Port.lean ====
section
/-! DEFINITION. The Host Port: how a command reaches its owner and its answer the buffer, and the two kinds of transaction (chapter 10). -/

namespace Sys2Proof.Machine

/-- The end of an event that led from `old`: where the port shows something else, what it showed before is kept for a
transaction whose SEL fell then (R196, log 7). -/
def noted (old s : State) : State :=
  if portView s = portView old then s else { s with shown := portView old :: s.shown }

/-- An event taken by its block, with what every event leaves at the heads (R51, R52). While the RESET pin is held
low no event is taken (R207). -/
def takes (f : State → State) (s : State) : Out := .next (if s.resetLow then s else noted s (settle s (f s)))

/-- A transaction judged at the rise of SEL; one during which the RESET pin is low at that rise is ignored (R196). -/
def transacts (f : State → State) (s : State) : Out := .next (if s.resetLow then s else f s)

/-- An owner's answer to a command: status, payload, and the state it leaves. -/
structure Answer where
  status : Status
  reply : Reply
  state : State

/-- A command taken, with its payload. -/
def done (r : Reply) (s : State) : Answer := ⟨.done, r, s⟩

/-- A command refused, which changes nothing (R201). -/
def refuse (status : Status) (s : State) : Answer := ⟨status, .empty, s⟩

/-- An answer placed in the buffer, with the command ended and RDY high (R199). -/
def place (p : InProcess) (a : Answer) : State :=
  { a.state with
    port := { a.state.port with
      inProcess := none, buffer := some ⟨a.status, p.serial, commandCode p.cmd, a.reply⟩ } }

/-- The taking by its owner of the command in process (R199). `pick` gives the owner's work on the command of the
row; where the command in process is another, or there is none, nothing is taken (log 8). -/
def owner (pick : HostCmd → Option (State → Answer)) (s : State) : State :=
  match s.port.inProcess with
  | none => s
  | some p =>
    match pick p.cmd with
    | some f => place p (f s)
    | none => s

/-- The command that the bytes of a transaction spell, by the checks of R198 in their order: the code, the length
bytes, their limit, the number of payload bytes, the fields. -/
def commandOf : List Byte → Option HostCmd
  | code :: hi :: lo :: payload =>
    let n := ofBe [hi, lo]
    if n ≤ Config.payloadLimit ∧ payload.length = n then readCommand code payload else none
  | _ => none

/-- The acceptance of a command transaction (R197, R198): buffer emptied, serial raised, and the command in process
or its BAD_COMMAND response. -/
def accept (code : Byte) (bytes : List Byte) (s : State) : State :=
  let serial := s.port.serial + 1
  let port := match commandOf bytes with
    | some c => { s.port with buffer := none, serial := serial, inProcess := some ⟨serial, c⟩ }
    | none => { s.port with buffer := some ⟨.badCommand, serial, code, .empty⟩, serial := serial, inProcess := none }
  { s with port := port }

/-- The response frame after the port byte, by the port's state (R200). -/
def responseFrame (s : State) : List Byte :=
  match s.port.inProcess, s.port.buffer with
  | some p, _ => responseBytes .inUse p.serial (commandCode p.cmd) []
  | none, none => responseBytes .notFound s.port.serial 0 []
  | none, some r => responseBytes r.status r.serial r.code (replyPayload r.reply)

/-- `n` bytes of a frame, with 0x00 beyond its end (R200). -/
def clocked (n : Nat) (frame : List Byte) : List Byte := frame.take n ++ List.replicate (n - frame.length) 0

/-- The end of a transaction in which the hub sent `bytes`: the next one begins after it, so what the port showed
before is no longer of use (R196, log 7). -/
def endTransaction (bytes : List Byte) (s : State) : State := { s with sdo := bytes, shown := [] }

/-- A response transaction of `n` bytes (R200); one without a first byte is ignored (R196). -/
def readResponse (n : Nat) (s : State) : State :=
  if n = 0 then s else endTransaction (clocked n (portByte (portView s) :: responseFrame s)) s

/-- What the port showed at the fall of SEL of a transaction that ends now (R196): its view `ago` changes back, and not
beyond the end of the transaction before. -/
def fallView (ago : Nat) (s : State) : PortView :=
  let views := portView s :: s.shown
  (views.take (ago + 1)).getLastD (portView s)

/-- A command transaction judged at the rise of SEL (R196, R197), with the port byte and RDY of its fall. `bytes` are
its whole bytes: clocks beyond the last whole byte count for nothing (DESIGN CHOICE, log 40). One that straddles the
RESET pin and ends after its rise is judged by its fall like any other (DESIGN CHOICE, log 41). -/
def judgeCommand (ago : Nat) (bytes : List Byte) (s : State) : State :=
  match bytes with
  | [] => s
  | code :: rest =>
    if code = 0 then readResponse bytes.length s
    else
      let fall := fallView ago s
      let s := endTransaction (portByte fall :: List.replicate rest.length 0) s
      if fall.rdy && s.port.inProcess.isNone then accept code bytes s else flagOverrun s

/-- COMMAND_TRANSACTION (R197, R196). -/
def execCommandTransaction (ago : Nat) (bytes : List Byte) : State → Out := transacts (judgeCommand ago bytes)

/-- RESPONSE_TRANSACTION (R200). -/
def execResponseTransaction (n : Nat) : State → Out := transacts (readResponse n)

/-- The work of READ_STATUS (R206). -/
def readStatus (s : State) : Answer :=
  done (.status s.port.latched (ticketsToCollect s) (poolFullFlag s)) (latch (fun _ => noFlags) s)

/-- READ_STATUS (R206). -/
def execReadStatus : State → Out :=
  takes <| owner fun
    | .readStatus => some readStatus
    | _ => none

/-- HUB_RESET (R207): the reset, then its own DONE response. -/
def execHubReset : State → Out :=
  takes <| owner fun
    | .hubReset => some fun s => done .empty (hubResetEffects s)
    | _ => none

/-- POWER_ON_RESET (R195 and the reset column of every chapter). The level of the RESET pin and the queue are not the
hub's (log 10). -/
def execPowerOnReset (s : State) : Out :=
  .next { State.reset with resetLow := s.resetLow, pending := s.pending }

/-- RESET_PIN_FALL (R207): the hub reset, held while the pin is low. -/
def execResetPinFall (s : State) : Out := .next (noted s { settle s (hubResetEffects s) with resetLow := true })

/-- RESET_PIN_RISE (R207): the reset is complete, and the frame that opens has counter 0 (R193). -/
def execResetPinRise (s : State) : Out := .next (noted s { s with resetLow := false })

end Sys2Proof.Machine
end

