-- ==== Sys2Proof/Machine/DayCommands.lean ====
section
/-! DEFINITION. The commands of the Totals Unit: the day, the snapshots and the closing drain (R160 to R169). -/

namespace Sys2Proof.Machine

/-- A refusal that carries the day state (R160, R168). -/
def refuseDay (s : State) : Answer := ⟨.wrongState, .day s.tot.day, s⟩

/-- The day state set. -/
def setDay (d : DayState) (s : State) : State := { s with tot := { s.tot with day := d } }

/-- The business date set (R134). -/
def setDate (d : Option Date) (s : State) : State := { s with lbc := { s.lbc with date := d } }

/-- The work of OPEN_DAY (R160, R102, R134); BAD_VALUE is answered before WRONG_STATE (DEDUCED, log 45). -/
def openDay (y m d : Nat) (s : State) : Answer :=
  match dateOf y m d with
  | none => refuse .badValue s
  | some date =>
    if s.tot.day != .closed then refuseDay s
    else done .empty (openNumbers (setDate (some date) (setDay .opened s)))

/-- OPEN_DAY (R160). -/
def execOpenDay : State → Out :=
  takes <| owner fun
    | .openDay y m d => some (openDay y m d)
    | _ => none

/-- Steps 1 and 2 of R162. -/
def startDrain (s : State) : State :=
  { s with tot := { s.tot with day := .closing, cursor := some .start, drained := 0, lastEntry := none } }

/-- The work of CLOSE_DAY (R161, R162, R102). -/
def closeDay (s : State) : Answer :=
  let held := countTickets .held s
  let parked := countTickets .parked s
  let closing := countTickets .closing s
  let packs := unfoldedPacks s
  if s.tot.day != .opened then ⟨.wrongState, .closeRefused s.tot.day 0 0 0 0, s⟩
  else if held != 0 || parked != 0 || closing != 0 || packs != 0 then
    ⟨.wrongState, .closeRefused s.tot.day held parked closing packs, s⟩
  else done .empty (eachHead (fun h => cancelRequest h .dayClosed) (closeNumbers (startDrain s)))

/-- CLOSE_DAY (R161). -/
def execCloseDay : State → Out :=
  takes <| owner fun
    | .closeDay => some closeDay
    | _ => none

/-! ### Snapshots (R164, R165) -/

/-- The accumulators of a group in key order (R153, R164). -/
def groupEntries (g : Group) (s : State) : List HoldEntry :=
  match g with
  | .grand => [⟨.grand, s.tot.grand, none⟩]
  | .head => allHeads.map fun h => ⟨.head h, s.tot.heads.look h, none⟩
  | .operator => (List.finRange 32).map fun n => ⟨.operator n, s.tot.operators.look n, none⟩
  | .department => (List.finRange 16).map fun d => ⟨.department d, s.tot.departments.look d, none⟩
  | .item => s.itb.items.map fun i => ⟨.item i.number, i.acc, some ⟨i.index, i.state⟩⟩

/-- Page `k` of a list of entries (R164). -/
def pageOf (k : Nat) (es : List HoldEntry) : List HoldEntry := (es.drop (k * Config.pageEntries)).take Config.pageEntries

/-- The snapshot of a group under a new hold serial (R164). -/
def snapshot (g : Group) (s : State) : Hold :=
  { serial := s.tot.holdSerial + 1, group := g, day := s.tot.day, entries := groupEntries g s }

/-- The work of READ_TOTALS (R164). -/
def readTotals (n : Nat) (s : State) : Answer :=
  match groupOf n with
  | none => refuse .badValue s
  | some g =>
    let hold := snapshot g s
    done (.totals hold (pageOf 0 hold.entries))
      { s with tot := { s.tot with holdSerial := hold.serial, hold := some hold } }

/-- READ_TOTALS (R164). -/
def execReadTotals : State → Out :=
  takes <| owner fun
    | .readTotals g => some (readTotals g)
    | _ => none

/-- The work of READ_HOLD (R165). -/
def readHold (k : Nat) (s : State) : Answer :=
  match s.tot.hold with
  | none => refuse .notFound s
  | some hold =>
    let pages := pageCount hold.entries.length
    if k < pages then done (.page hold.serial hold.group pages (pageOf k hold.entries)) s else refuse .badValue s

/-- READ_HOLD (R165). -/
def execReadHold : State → Out :=
  takes <| owner fun
    | .readHold k => some (readHold k)
    | _ => none

/-! ### The closing drain (R167 to R169) -/

/-- The place of an accumulator in the drain order (R167). -/
def drainRank : AccKey → Nat
  | .grand => 1
  | .head h => 2 + h.val
  | .operator n => 10 + n.val
  | .department d => 42 + d.val
  | .item n => 58 + n

/-- The place of the closing cursor: START stands before every accumulator. -/
def cursorRank : Option Cursor → Nat
  | some (.after k) => drainRank k
  | some .start => 0
  | none => 0

/-- Every accumulator in the drain order (R167). -/
def drainKeys (s : State) : List AccKey :=
  .grand :: (allHeads.map .head ++ (List.finRange 32).map .operator ++ (List.finRange 16).map .department
    ++ s.itb.items.map fun i => .item i.number)

/-- The accumulator of a key. -/
def accAt (k : AccKey) (s : State) : Acc :=
  match k with
  | .grand => s.tot.grand
  | .head h => s.tot.heads.look h
  | .operator n => s.tot.operators.look n
  | .department d => s.tot.departments.look d
  | .item n => ((findItem n s).map (·.acc)).getD emptyAcc

/-- The accumulator of a key cleared (R168 step 2). -/
def clearAt (k : AccKey) (s : State) : State :=
  match k with
  | .grand => { s with tot := { s.tot with grand := emptyAcc } }
  | .head h => { s with tot := { s.tot with heads := s.tot.heads.put h emptyAcc } }
  | .operator n => { s with tot := { s.tot with operators := s.tot.operators.put n emptyAcc } }
  | .department d => { s with tot := { s.tot with departments := s.tot.departments.put d emptyAcc } }
  | .item n => onItemNumber n (fun i => { i with acc := emptyAcc }) s

/-- The next accumulator of the drain: the first non-empty one after the cursor (R167). -/
def nextDrain (s : State) : Option AccKey :=
  (drainKeys s).find? fun k => decide (cursorRank s.tot.cursor < drainRank k) && accAt k s != emptyAcc

/-- The item of an ITEM key. -/
def itemOfKey (k : AccKey) (s : State) : Option Item :=
  match k with
  | .item n => findItem n s
  | .grand => none
  | .head _ => none
  | .operator _ => none
  | .department _ => none

/-- The purge check that follows the drain of an ITEM accumulator (R168 step 3). -/
def drainPurge (i : Option Item) (s : State) : State :=
  match i with
  | some i => purgeCheck i.index s
  | none => s

/-- The drain of one accumulator (R168): its entry, and the state it leaves. -/
def drainOne (k : AccKey) (s : State) : DrainEntry × State :=
  let item := itemOfKey k s
  let t := drainPurge item (clearAt k s)
  let n := s.tot.drained + 1
  let entry : DrainEntry :=
    { key := k, acc := accAt k s, item := item.map fun i => ⟨i.index, i.state⟩
      purged := item.map fun i => (findItem i.number t).isNone, sequence := n }
  (entry, { t with tot := { t.tot with drained := n, cursor := some (.after k), lastEntry := some entry } })

/-- The end of the drain (R169). -/
def endDrain (s : State) : State :=
  setDate none { s with tot := { s.tot with day := .closed, cursor := none, lastEntry := none, drained := 0 } }

/-- READ_CLOSING with NEXT in DAY_CLOSING (R168, R169). -/
def drainNext (s : State) : Answer :=
  match nextDrain s with
  | some k => done (.drained (drainOne k s).1) (drainOne k s).2
  | none => done (.drainEnd s.tot.drained) (endDrain s)

/-- READ_CLOSING with REPEAT in DAY_CLOSING (R168). -/
def drainRepeat (s : State) : Answer :=
  match s.tot.lastEntry with
  | some e => done (.drained e) s
  | none => refuse .notFound s

/-- The work of READ_CLOSING (R168): request 0 is NEXT, 1 is REPEAT; BAD_VALUE is answered before WRONG_STATE (DEDUCED,
log 45). -/
def readClosing (request : Nat) (s : State) : Answer :=
  if 1 < request then refuse .badValue s
  else if s.tot.day != .closing then refuseDay s
  else if request = 0 then drainNext s
  else drainRepeat s

/-- READ_CLOSING (R168). -/
def execReadClosing : State → Out :=
  takes <| owner fun
    | .readClosing r => some (readClosing r)
    | _ => none

end Sys2Proof.Machine
end

