-- ==== Sys2Proof/Machine/Frames.lean ====
section
/-! DEFINITION. The rows of the counter link: frame starts and what each block makes of them, downstream parts, upstream parts (chapter 9). A row that names a part of a larger step performs that part when it is due and leaves the rest of the step to its own row (log 5). -/

namespace Sys2Proof.Machine

/-! ### Frame starts (R174) -/

/-- FRAME_START (R174). -/
def execFrameStart : State → Out := takes frameStart

/-- SLOT_MASK_TAKES_EFFECT (R180): step 1 of the coming frame start. -/
def execSlotMaskTakesEffect : State → Out := takes applyMask

/-- LINK_RESTART_TAKES_EFFECT (R191): step 2 of the coming frame start. -/
def execLinkRestartTakesEffect : State → Out := takes applyRestart

/-- JOIN_WAIT_EXPIRY (R182): step 3 of the coming frame start at a slot whose wait ends with it. -/
def execJoinWaitExpiry (i : Slot) : State → Out := takes fun s => if joinExpiryDue i s then joinWait i s else s

/-- HEAD_SERVICE_FRAME_START (R46, R50, R53): the frame-start signal taken by the Head Service Unit. -/
def execHeadServiceFrameStart : State → Out :=
  takes fun s =>
    if s.hand.hsu = 0 then s else eachHead frameHead { s with hand := { s.hand with hsu := s.hand.hsu - 1 } }

/-- Whether the next frame start ends head `h`'s request by its time limit (R46). -/
def timeoutDue (h : Head) (s : State) : Bool :=
  match (ctx h s).request with
  | none => false
  | some q =>
    s.hand.hsu != 0 && activeItem q.number s && dayOpen s && decide (Config.captureFrames ≤ q.waited + 1)

/-- CAPTURE_TIMEOUT (R46): the part of a waiting frame-start signal that times a request out. -/
def execCaptureTimeout (h : Head) : State → Out := takes fun s => if timeoutDue h s then frameRequest h s else s

/-- Whether the next frame start ends head `h`'s message (R53). -/
def expiryDue (h : Head) (s : State) : Bool :=
  match (ctx h s).message with
  | none => false
  | some m => s.hand.hsu != 0 && decide (m.frames ≤ 1)

/-- MESSAGE_EXPIRY (R53): the part of a waiting frame-start signal that ends a message. -/
def execMessageExpiry (h : Head) : State → Out := takes fun s => if expiryDue h s then frameMessage h s else s

/-- COPY_FRAME_START (R79): the frame-start signal taken by the Copy Coherence Unit. -/
def execCopyFrameStart : State → Out :=
  takes fun s => if s.hand.ccu = 0 then s else ageCopies { s with hand := { s.hand with ccu := s.hand.ccu - 1 } }

/-- The idle limit of a HELD ticket's holder; 0 where none counts (R113). -/
def idleLimitOf (t : TicketSlot) (s : State) : Nat :=
  match (ticket t s).state, (ticket t s).holder with
  | .held, some h => (settings h s).idleLimit
  | _, _ => 0

/-- One ticket at a frame start (R113, R114). -/
def frameTicket (t : TicketSlot) (s : State) : State :=
  let limit := idleLimitOf t s
  if limit = 0 then s
  else if limit ≤ (ticket t s).idle + 1 then idlePark t s
  else onTicket t (fun k => { k with idle := k.idle + 1 }) s

/-- TICKET_FRAME_START (R113, R114): the frame-start signal taken by the Ticket Pool. -/
def execTicketFrameStart : State → Out :=
  takes fun s =>
    if s.hand.tkp = 0 then s
    else allTickets.foldl (fun s t => frameTicket t s) { s with hand := { s.hand with tkp := s.hand.tkp - 1 } }

/-- Whether the next frame start brings ticket `t` to its idle limit (R114). -/
def idleDue (t : TicketSlot) (s : State) : Bool :=
  s.hand.tkp != 0 && idleLimitOf t s != 0 && decide (idleLimitOf t s ≤ (ticket t s).idle + 1)

/-- TICKET_IDLE_PARK (R114): the part of a waiting frame-start signal that parks a ticket. -/
def execTicketIdlePark (t : TicketSlot) : State → Out := takes fun s => if idleDue t s then idlePark t s else s

/-! ### Downstream parts (R175, R178) -/

/-- FRAME_NOTICE (R175). -/
def execFrameNotice : State → Out := takes sendNotice

/-- WELCOME (R190). -/
def execWelcome (i : Slot) : State → Out := takes (sendWelcome i)

/-- HEAD_UPDATE (R178, R78). -/
def execHeadUpdate (h : Head) : State → Out := takes (sendHeadUpdate h)

/-- PRINTER_UPDATE (R139). -/
def execPrinterUpdate (p : Printer) : State → Out := takes (sendPrinterUpdate p)

/-- DISPENSER_UPDATE (R94). -/
def execDispenserUpdate : State → Out := takes sendDispenserUpdate

/-! ### Upstream parts (R176, R179): the bytes decide, whatever the row's name (log 6) -/

/-- HEAD_REPORT (R179). -/
def execHeadReport (h : Head) (part : List Byte) : State → Out := takes (upstreamPart (headSlot h) (some part))

/-- PRINTER_REPORT (R140). -/
def execPrinterReport (p : Printer) (part : List Byte) : State → Out := takes (upstreamPart (printerSlot p) (some part))

/-- DISPENSER_REPORT (R92). -/
def execDispenserReport (part : List Byte) : State → Out := takes (upstreamPart dispenserSlot (some part))

/-- JOIN (R182). -/
def execJoin (i : Slot) (part : List Byte) : State → Out := takes (upstreamPart i (some part))

/-- UPSTREAM_REJECTED (R176). A message that began without one whole byte is the part `[]` (log 39). -/
def execUpstreamRejected (i : Slot) (part : List Byte) : State → Out := takes (upstreamPart i (some part))

/-- UPSTREAM_MISS (R183): an upstream part in which no message began. -/
def execUpstreamMiss (i : Slot) : State → Out := takes (upstreamPart i none)

/-- SILENCE_LOSS (R183): the missing part that brings the miss count to the silence threshold. -/
def execSilenceLoss (i : Slot) : State → Out := takes fun s => if lossDue i s then upstreamPart i none s else s

/-! ### Handed parts of head reports (R179) -/

/-- The oldest handed sample taken by head `h`'s channel, when it satisfies `p`. -/
def takeHanded (h : Head) (p : Int → Bool) (s : State) : State :=
  match (inbox h s).samples with
  | [] => s
  | raw :: rest => if p raw then takeSample h raw (onInbox h (fun b => { b with samples := rest }) s) else s

/-- CHANNEL_SAMPLE (R9 to R22). -/
def execChannelSample (h : Head) : State → Out := takes fun s => takeHanded h (fun _ => true) s

/-- Whether a sample is the eighth consecutive rail sample (R10). -/
def entersFault (c : Channel) (raw : Int) : Bool :=
  (c.state == .settling || c.state == .active) && isRail raw && decide (Config.railSamples ≤ c.railRun + 1)

/-- CELL_FAULT_ENTRY (R10): the handed sample taken when it is the eighth rail sample in a row. -/
def execCellFaultEntry (h : Head) : State → Out := takes fun s => takeHanded h (entersFault (chan h s)) s

/-- Whether a sample is the eighth consecutive non-rail sample in CELL_FAULT (R11). -/
def leavesFault (c : Channel) (raw : Int) : Bool :=
  c.state == .cellFault && !isRail raw && decide (Config.railSamples ≤ c.clearRun + 1)

/-- CELL_FAULT_RECOVERY (R11): the handed sample taken when it is the eighth non-rail sample in a row. -/
def execCellFaultRecovery (h : Head) : State → Out := takes fun s => takeHanded h (leavesFault (chan h s)) s

/-- COPY_ACK (R80): the oldest handed acknowledgement taken. -/
def execCopyAck (h : Head) : State → Out :=
  takes fun s =>
    match (inbox h s).acks with
    | [] => s
    | a :: rest => takeAck h a (onInbox h (fun b => { b with acks := rest }) s)

/-- Whether the request pending at head `h` is one for a line. -/
def lineRequest (h : Head) (s : State) : Bool :=
  match (ctx h s).request with
  | some q => q.purpose == .line
  | none => false

/-- CAPTURE_LINE_COMPLETE (R44 to R47): the examination of a waiting LINE request. -/
def execCaptureLineComplete (h : Head) : State → Out := takes fun s => if lineRequest h s then examine h s else s

/-- CAPTURE_LABEL_COMPLETE (R44, R45, R48): the examination of a waiting LABEL or PREPACK request. -/
def execCaptureLabelComplete (h : Head) : State → Out := takes fun s => if lineRequest h s then s else examine h s

end Sys2Proof.Machine
end

