-- ==== Sys2Proof/Machine/ItemCommands.lean ====
section
/-! DEFINITION. The item commands and the read of the copies (R60 to R70, R88). -/

namespace Sys2Proof.Machine

/-- The checks of R60 for a command that names an existing record; `ok` says that its other fields are in range. -/
def named (n : Nat) (ok : Bool) (f : Item → State → Answer) (s : State) : Answer :=
  if !numberGood n || !ok then refuse .badValue s
  else
    match findItem n s with
    | none => refuse .notFound s
    | some i => f i s

/-- The record ADD_ITEM makes (R61). -/
def newItem (f : ItemFields) (price index : Nat) : Item :=
  { number := f.number, index := index, name := f.name, mode := f.mode, price := price, pending := none,
    preset := f.preset, shelf := f.shelf, dept := f.dept, format := f.format, state := .active, version := 0,
    refs := 0, acc := emptyAcc }

/-- The work of ADD_ITEM (R60, R61). -/
def addItem (f : RawItem) (price : Nat) (s : State) : Answer :=
  match itemFieldsOf f with
  | none => refuse .badValue s
  | some g =>
    if Config.priceLimit < price then refuse .badValue s
    else if (findItem g.number s).isSome then refuse .existsAlready s
    else
      match freeIndex s.itb.items with
      | none => refuse .full s
      | some k => done (.added k) (onItems (insertItem (newItem g price k)) s)

/-- ADD_ITEM (R61). -/
def execAddItem : State → Out :=
  takes <| owner fun
    | .addItem f p => some (addItem f p)
    | _ => none

/-- The record UPDATE_ITEM leaves (R62). -/
def updated (f : ItemFields) (i : Item) : Item :=
  { i with
    name := f.name, mode := f.mode, preset := f.preset, shelf := f.shelf, dept := f.dept, format := f.format
    version := i.version + 1 }

/-- The offers renewed where item `n` is in hand (R51). -/
def renewOffers (n : Nat) : State → State :=
  eachHead fun h s => if itemInHand h s == some n then renewOffer h s else s

/-- The work of UPDATE_ITEM (R60, R62, R81, R51). -/
def updateItem (f : RawItem) (s : State) : Answer :=
  match itemFieldsOf f with
  | none => refuse .badValue s
  | some g =>
    match findItem g.number s with
    | none => refuse .notFound s
    | some i =>
      let s := staleCopies (· == i.index) (onItemNumber g.number (updated g) s)
      done (.updated (i.version + 1)) (if i.preset = g.preset then s else renewOffers g.number s)

/-- UPDATE_ITEM (R62). -/
def execUpdateItem : State → Out :=
  takes <| owner fun
    | .updateItem f => some (updateItem f)
    | _ => none

/-- The answer of FIND_ITEM and NEXT_ITEM (R63, R64). -/
def itemReply (i : Item) (s : State) : Reply := .item i s.itb.items.length s.itb.generation

/-- The work of FIND_ITEM (R63). -/
def findItemCommand (n : Nat) : State → Answer := named n true fun i s => done (itemReply i s) s

/-- FIND_ITEM (R63). -/
def execFindItem : State → Out :=
  takes <| owner fun
    | .findItem n => some (findItemCommand n)
    | _ => none

/-- The record with the smallest item number greater than `n` (R64). -/
def nextItem (n : Nat) (s : State) : Option Item := s.itb.items.find? fun i => decide (n < i.number)

/-- The work of NEXT_ITEM (R60, R64). -/
def nextItemCommand (n : Nat) (s : State) : Answer :=
  if Config.itemNumberLimit < n then refuse .badValue s
  else
    match nextItem n s with
    | none => refuse .notFound s
    | some i => done (itemReply i s) s

/-- NEXT_ITEM (R64). -/
def execNextItem : State → Out :=
  takes <| owner fun
    | .nextItem n => some (nextItemCommand n)
    | _ => none

/-- The work of STAGE_PRICE (R60, R65). -/
def stagePrice (n price : Nat) : State → Answer :=
  named n (decide (price ≤ Config.priceLimit)) fun i s =>
    if i.state == .withdrawn then refuse .wrongState s
    else done .empty (onItemNumber n (fun i => { i with pending := some price }) s)

/-- STAGE_PRICE (R65). -/
def execStagePrice : State → Out :=
  takes <| owner fun
    | .stagePrice n p => some (stagePrice n p)
    | _ => none

/-- The work of UNSTAGE_PRICE (R60, R66). -/
def unstagePrice (n : Nat) : State → Answer :=
  named n true fun i s =>
    done (.unstaged i.pending.isSome) (onItemNumber n (fun i => { i with pending := none }) s)

/-- UNSTAGE_PRICE (R66). -/
def execUnstagePrice : State → Out :=
  takes <| owner fun
    | .unstagePrice n => some (unstagePrice n)
    | _ => none

/-- Whether the commit changes the record at an index. -/
def changedAt (is : List Item) (k : Nat) : Bool := is.any fun i => i.index == k && changesPrice i

/-- The table after a commit (R67, R59). -/
def commitTable (u : Itb) : Itb :=
  { items := u.items.map commitItem
    generation := if u.items.any changesPrice then u.generation + 1 else u.generation }

/-- The work of COMMIT_PRICES (R67, R81, R87). -/
def commitPrices (s : State) : Answer :=
  let is := s.itb.items
  let t := staleCopies (changedAt is) { s with itb := commitTable s.itb }
  done (.committed (is.countP changesPrice) (is.countP (·.pending.isSome)) t.itb.generation)
    (examineWatch (setWatch true t))

/-- COMMIT_PRICES (R67). -/
def execCommitPrices : State → Out :=
  takes <| owner fun
    | .commitPrices => some commitPrices
    | _ => none

/-- A record withdrawn: steps 1 to 3 of R69. -/
def withdrawn (i : Item) : Item := { i with state := .withdrawn, pending := none, version := i.version + 1 }

/-- What the answer of WITHDRAW_ITEM carries of a record that was kept (R69). -/
def keptReply (n : Nat) (s : State) : Option (Nat × Bool) :=
  (findItem n s).map fun i => (i.refs, i.acc == emptyAcc)

/-- The work of WITHDRAW_ITEM (R60, R69, R82, R72). -/
def withdrawItem (n : Nat) : State → Answer :=
  named n true fun i s =>
    if i.state == .withdrawn then refuse .wrongState s
    else
      let t := purgeCheck i.index (withdrawCopies n (onItemNumber n withdrawn s))
      done (.withdrawn (findItem n t).isNone (keptReply n t)) t

/-- WITHDRAW_ITEM (R69). -/
def execWithdrawItem : State → Out :=
  takes <| owner fun
    | .withdrawItem n => some (withdrawItem n)
    | _ => none

/-- The work of REINSTATE_ITEM (R60, R70, R81). -/
def reinstateItem (n : Nat) : State → Answer :=
  named n true fun i s =>
    if i.state == .active then refuse .wrongState s
    else
      done .empty (staleCopies (· == i.index)
        (onItemNumber n (fun i => { i with state := .active, version := i.version + 1 }) s))

/-- REINSTATE_ITEM (R70). -/
def execReinstateItem : State → Out :=
  takes <| owner fun
    | .reinstateItem n => some (reinstateItem n)
    | _ => none

/-- The work of READ_COPIES (R88). -/
def readCopies (n : Nat) (s : State) : Answer :=
  match index? 8 n with
  | none => refuse .badValue s
  | some h =>
    let c := copies h s
    done (.copies { entries := c.entries, drops := c.drops, inStep := inStep c, armed := s.ccu.armed }) s

/-- READ_COPIES (R88). -/
def execReadCopies : State → Out :=
  takes <| owner fun
    | .readCopies n => some (readCopies n)
    | _ => none

end Sys2Proof.Machine
end

