-- ==== Sys2Proof/Machine/Keys.lean ====
section
/-! DEFINITION. The eighteen keys: the steps every key passes, and each key's own rule (R33 to R49). -/

namespace Sys2Proof.Machine

/-! ### The steps of R33 -/

/-- Whether an OFF head takes a key (R33 step 4). -/
def takenOff : KeyKind → Bool
  | .signOn | .zero | .tare | .clearTare | .clear => true
  | _ => false

/-- Whether a key belongs to a role (R33 step 5). -/
def belongs (k : KeyKind) (r : Role) : Bool :=
  match k with
  | .next | .skip | .openKey | .park | .pick | .voidLast | .voidTicket | .total => r == .service
  | .batch => r == .prepack
  | _ => true

/-- Step 3 of R33: the idle count of a held ticket restarts. -/
def keyAtTicket (h : Head) (s : State) : State :=
  match (ctx h s).held with
  | some id => restartIdle id.slot s
  | none => s

/-- The steps of R33 around a key's own rule `act`. -/
def gate (k : KeyKind) (h : Head) (act : State → State) (s : State) : State :=
  if role h s == .disabled then s
  else
    let s := keyAtTicket h (clearMessage h s)
    if service h s == .off && !takenOff k then setMessage h .noOperator s
    else if belongs k (role h s) then act s
    else s

/-- The oldest handed key event of head `h`, taken when it is of kind `k` (R179, R33). -/
def takeKey (k : KeyKind) (h : Head) (act : Nat → State → State) (s : State) : State :=
  match (inbox h s).keys with
  | [] => s
  | e :: rest =>
    if e.kind = k then gate k h (act e.arg) (onInbox h (fun b => { b with keys := rest }) s) else s

/-! ### Operators (R35, R36) -/

/-- Operator `n` signed on at head `h`, which is OFF (R35). -/
def signOn (h : Head) (n : Operator) (s : State) : State :=
  onCtx h (fun c => { c with operator := some n }) (setSignOn n (some h) s)

/-- The message at a head that loses its operator to another head (R35). -/
def movedMessage (h : Head) (parked : Bool) (s : State) : State := if parked then setMessage h .parked s else s

/-- SIGN_ON n (R35), its cases in the order given: where n stands at another head h′, the sign-off there comes before
the one at this head, so where both heads return a number, this head's stands in front of that of h′, whatever their
indices (DEDUCED, log 21). -/
def signOnKey (h : Head) (n : Nat) (s : State) : State :=
  match (if n = 0 then none else index? 32 (n - 1)) with
  | none => setMessage h .noOperator s
  | some op =>
    match signedOnAt op s with
    | none => signOn h op (signOff h s)
    | some h' =>
      if h' = h then s
      else signOn h op (movedMessage h' (ctx h' s).held.isSome (signOff h (signOff h' s)))

/-- SIGN_ON (R35). -/
def execKeySignOn (h : Head) : State → Out := takes (takeKey .signOn h (signOnKey h))

/-- SIGN_OFF (R36). -/
def execKeySignOff (h : Head) : State → Out := takes (takeKey .signOff h fun _ => signOff h)

/-! ### Items, counts and the message (R41, R42, R43, R49) -/

/-- ITEM (R42). -/
def execKeyItem (h : Head) : State → Out := takes (takeKey .item h (askItem h))

/-- Whether the request pending at head `h` is for a COUNTED item, by its record (log 29). -/
def countedRequest (h : Head) (s : State) : Bool :=
  match (requestItem h s).bind (findItem · s) with
  | some i => i.mode == .counted
  | none => false

/-- COUNT n (R41). -/
def countKey (h : Head) (n : Nat) (s : State) : State :=
  if 999 < n then setMessage h .overCap s
  else if n = 0 then onCtx h (fun c => { c with count := none }) s
  else if countedRequest h s then
    onCtx h (fun c => { c with request := c.request.map fun q => { q with count := some n } }) s
  else onCtx h (fun c => { c with count := some n }) s

/-- COUNT (R41). -/
def execKeyCount (h : Head) : State → Out := takes (takeKey .count h (countKey h))

/-- LABEL at a SERVICE head (R43, R34, R50). -/
def labelService (h : Head) (s : State) : State :=
  if (ctx h s).request.isSome || service h s == .serving then setMessage h .busy s
  else onCtx h (fun c => { c with labelMark := true, autoHold := false }) s

/-- LABEL at a PREPACK head (R43): BUSY with a request pending, whatever else holds (log 22); NO_ITEM with no selected
item; else as ITEM. -/
def labelPrepack (h : Head) (s : State) : State :=
  if (ctx h s).request.isSome then setMessage h .busy s
  else
    match (ctx h s).selected with
    | some n => askItem h n s
    | none => setMessage h .noItem s

/-- LABEL (R43). -/
def labelKey (h : Head) (s : State) : State := if role h s == .prepack then labelPrepack h s else labelService h s

/-- LABEL (R43). -/
def execKeyLabel (h : Head) : State → Out := takes (takeKey .label h fun _ => labelKey h)

/-- BATCH n (R49). -/
def batchKey (h : Head) (n : Nat) (s : State) : State :=
  if 999 < n then setMessage h .overCap s
  else onCtx h (fun c => { c with batch := .left n, autoHold := false }) s

/-- BATCH (R49). -/
def execKeyBatch (h : Head) : State → Out := takes (takeKey .batch h (batchKey h))

/-- CLEAR (R41). -/
def clearKey (h : Head) (s : State) : State :=
  onCtx h (fun c => { c with labelMark := false, count := none }) (dropRequest h s)

/-- CLEAR (R41). -/
def execKeyClear (h : Head) : State → Out := takes (takeKey .clear h fun _ => clearKey h)

/-! ### Weighing keys (R40, R24 to R26) -/

/-- What the channel answers to a weighing key (R40). -/
def weighingKey (h : Head) (r : Except Code Channel) (s : State) : State :=
  match r with
  | .ok c => onChan h (fun _ => c) s
  | .error code => setMessage h code s

/-- ZERO (R24). -/
def execKeyZero (h : Head) : State → Out :=
  takes (takeKey .zero h fun _ s => weighingKey h (zeroKey (settings h s) (pairSettings h s) (chan h s)) s)

/-- TARE (R25). -/
def execKeyTare (h : Head) : State → Out :=
  takes (takeKey .tare h fun _ s => weighingKey h (tareKey (settings h s) (chan h s)) s)

/-- CLEAR_TARE (R26). -/
def execKeyClearTare (h : Head) : State → Out := takes (takeKey .clearTare h fun _ => onChan h clearTareKey)

/-! ### Numbers (R37, R97 to R99) -/

/-- The front entry of the waiting list called to head `h` (R97). -/
def callNext (h : Head) (s : State) : State :=
  match s.snu.waiting with
  | [] => setMessage h .queueEmpty s
  | e :: rest =>
    onCtx h (fun c => { c with nowServing := some e.number })
      (onSnu (fun u =>
        { u with waiting := rest, lastCalled := some e.number, skipped := u.skipped.put h e.skipped }) s)

/-- NEXT (R37, R34, R97). -/
def nextKey (h : Head) (s : State) : State :=
  if service h s == .serving || (ctx h s).nowServing.isSome then setMessage h .busy s
  else if !dayOpen s then setMessage h .dayClosed s
  else callNext h s

/-- NEXT (R97). -/
def execKeyNext (h : Head) : State → Out := takes (takeKey .next h fun _ => nextKey h)

/-- A number sent back by its head (R98). -/
def sendBack (h : Head) (n : Nat) (s : State) : State :=
  onCtx h (fun c => { c with nowServing := none })
    (onSnu (fun u =>
      { u with
        waiting := if u.skipped.look h then u.waiting else u.waiting ++ [⟨n, true⟩]
        skipped := u.skipped.put h false }) s)

/-- SKIP (R37, R34, R98). -/
def skipKey (h : Head) (s : State) : State :=
  if service h s == .serving then setMessage h .busy s
  else
    match (ctx h s).nowServing with
    | none => setMessage h .notFound s
    | some n => sendBack h n s

/-- SKIP (R98). -/
def execKeySkip (h : Head) : State → Out := takes (takeKey .skip h fun _ => skipKey h)

/-- The open of a ticket at head `h` with number `n` (R37, R99, R107): the lowest FREE record, or POOL_FULL. -/
def openWith (h : Head) (op : Operator) (n : Nat) (s : State) : State :=
  match freeSlot s with
  | none => setMessage h .poolFull s
  | some t =>
    let s := setSkipped h false (openRecord t h op n s)
    onCtx h (fun c => { c with nowServing := none, held := some (ticketId t s), labelMark := false }) s

/-- OPEN (R37, R34, R99). -/
def openKey (h : Head) (s : State) : State :=
  match (ctx h s).operator with
  | none => s
  | some op =>
    if service h s == .serving then setMessage h .busy s
    else if !dayOpen s then setMessage h .dayClosed s
    else
      match (ctx h s).nowServing with
      | some n => openWith h op n s
      | none =>
        if issueRefused s then setMessage h .queueBlocked s else openWith h op s.snu.next (advanceNumber s)

/-- OPEN (R37). -/
def execKeyOpen (h : Head) : State → Out := takes (takeKey .openKey h fun _ => openKey h)

/-! ### Tickets (R38, R39) -/

/-- A key that needs a held ticket: NOT_HELD at a READY head (R34). -/
def withTicket (h : Head) (f : TicketId → State → State) (s : State) : State :=
  match (ctx h s).held with
  | none => setMessage h .notHeld s
  | some id => f id s

/-- PARK (R38, R110). -/
def execKeyPark (h : Head) : State → Out :=
  takes (takeKey .park h fun _ => withTicket h fun id s => leaveTicket h id (parkRecord id.slot s))

/-- PICK n (R38, R34, R115). -/
def pickKey (h : Head) (n : Nat) (s : State) : State :=
  if service h s == .serving || (ctx h s).nowServing.isSome then setMessage h .busy s
  else
    match findOpen n s with
    | none => setMessage h .notFound s
    | some t =>
      if (ticket t s).state == .parked then
        onCtx h (fun c => { c with held := some (ticketId t s), labelMark := false }) (pickRecord t h s)
      else setMessage h .inUse s

/-- PICK (R115). -/
def execKeyPick (h : Head) : State → Out := takes (takeKey .pick h (pickKey h))

/-- VOID_LAST (R39, R109). -/
def voidLast (h : Head) (id : TicketId) (s : State) : State :=
  match (ticket id.slot s).lines.getLast? with
  | none => setMessage h .emptyTicket s
  | some l =>
    if (ctx h s).lastLine = some ⟨id, l.position⟩ then
      onCtx h (fun c => { c with lastLine := none }) (voidNewest id.slot s)
    else setMessage h .notFound s

/-- VOID_LAST (R39). -/
def execKeyVoidLast (h : Head) : State → Out := takes (takeKey .voidLast h fun _ => withTicket h (voidLast h))

/-- VOID_TICKET from a head (R38, R118). -/
def execKeyVoidTicket (h : Head) : State → Out :=
  takes (takeKey .voidTicket h fun _ => withTicket h fun id s => leaveTicket h id (voidRecord id.slot s))

/-- TOTAL (R38, R119). -/
def totalTicket (h : Head) (id : TicketId) (s : State) : State :=
  let p := (settings h s).printer
  if (ticket id.slot s).lines.isEmpty then setMessage h .emptyTicket s
  else if !queueRoom p s then setMessage h .printerBusy s
  else
    let t := leaveTicket h id (closeRecord id.slot h p s)
    if printerDown p s then setMessage h .printerDown t else t

/-- TOTAL (R119). -/
def execKeyTotal (h : Head) : State → Out := takes (takeKey .total h fun _ => withTicket h (totalTicket h))

end Sys2Proof.Machine
end

