-- ==== Sys2Proof/Machine/PrinterCommands.lean ====
section
/-! DEFINITION. The commands of the Label Controller (R148 to R151). -/

namespace Sys2Proof.Machine

/-- Whether the text of a PRINT_TEXT is in range (R148). -/
def textGood (ls : List (List Byte)) : Bool :=
  decide (1 ≤ ls.length) && decide (ls.length ≤ 4) && ls.all fun l => decide (l.length ≤ 24) && charsGood l

/-- The work of PRINT_TEXT (R148); BAD_VALUE is answered before FULL (DEDUCED, log 45). -/
def printText (p copies : Nat) (text : List (List Byte)) (s : State) : Answer :=
  match index? 2 p with
  | none => refuse .badValue s
  | some p =>
    if copies < 1 ∨ 16 < copies ∨ !textGood text then refuse .badValue s
    else if !queueRoom p s then refuse .full s
    else done (.queued (freshTag s) (printerDown p s)) (queueJob p none copies (.text text) s)

/-- PRINT_TEXT (R148). -/
def execPrintText : State → Out :=
  takes <| owner fun
    | .printText p k ls => some (printText p k ls)
    | _ => none

/-- The printer whose queue carries a tag, with the job. -/
def findJob (tag : Tag) (s : State) : Option (Printer × Job) :=
  match (queue 0 s).find? (·.tag == tag) with
  | some j => some (0, j)
  | none => ((queue 1 s).find? (·.tag == tag)).map fun j => (1, j)

/-- The work of CANCEL_JOB (R149). -/
def cancelJob (n : Nat) (s : State) : Answer :=
  if 255 < n then refuse .badValue s
  else
    match findJob (BitVec.ofNat 8 n) s with
    | none => refuse .notFound s
    | some (p, j) =>
      let fed := isFront p j.tag s && (printer p s).load.isSome
      done (.cancelled (kindOf j.content) j.remaining fed) (jobLeft j.content (removeJob p j.tag s))

/-- CANCEL_JOB (R149). -/
def execCancelJob : State → Out :=
  takes <| owner fun
    | .cancelJob n => some (cancelJob n)
    | _ => none

/-- The jobs of a queue that a redirect leaves out and those it may move (R150). -/
def movable (p : Printer) (s : State) : List Job × List Job :=
  match (printer p s).state with
  | .offline => ([], queue p s)
  | .stopped => ([], queue p s)
  | .idle => (queue p s, [])
  | .loading => ((queue p s).take 1, (queue p s).drop 1)
  | .printing => ((queue p s).take 1, (queue p s).drop 1)

/-- A moved SUMMARY job: the ticket's summary job names its new printer (R150, R120). -/
def followSummary (q : Printer) (s : State) (j : Job) : State :=
  match j.content with
  | .summary l =>
    if (ticket l.ticket.slot s).state == .closing && (ticket l.ticket.slot s).serial == l.ticket.serial then
      onTicket l.ticket.slot (fun k => { k with job := some ⟨q, j.tag⟩ }) s
    else s
  | _ => s

/-- The moving of jobs from printer `p` to printer `q` (R150), with the numbers moved and left. -/
def moveJobs (p q : Printer) (s : State) : Nat × Nat × State :=
  let m := movable p s
  let n := min m.2.length (Config.queuePlaces - (queue q s).length)
  let go := m.2.take n
  let t := onQueue q (· ++ go) (onQueue p (fun _ => m.1 ++ m.2.drop n) s)
  let t := match m.1, go with
    | [], j :: _ => onPrinter p (unfeed j.tag) t
    | _, _ => t
  (n, m.2.length - n, startIfIdle q (go.foldl (followSummary q) t))

/-- The work of REDIRECT_JOBS (R150). -/
def redirectJobs (p q : Nat) (s : State) : Answer :=
  match index? 2 p, index? 2 q with
  | some p, some q =>
    if p = q then refuse .badValue s
    else
      let r := moveJobs p q s
      done (.moved r.1 r.2.1) r.2.2
  | _, _ => refuse .badValue s

/-- REDIRECT_JOBS (R150). -/
def execRedirectJobs : State → Out :=
  takes <| owner fun
    | .redirectJobs p q => some (redirectJobs p q)
    | _ => none

/-- The work of READ_PRINTER (R151). -/
def readPrinter (n : Nat) (s : State) : Answer :=
  match index? 2 n with
  | none => refuse .badValue s
  | some p =>
    done (.printer { ctx := printer p s, queue := queue p s, candidate := s.lbc.candidate, date := s.lbc.date }) s

/-- READ_PRINTER (R151). -/
def execReadPrinter : State → Out :=
  takes <| owner fun
    | .readPrinter n => some (readPrinter n)
    | _ => none

end Sys2Proof.Machine
end

