-- ==== Sys2Proof/Machine/Settings.lean ====
section
/-! DEFINITION. The commands of the Weighing Engine and of the Link Controller: settings of heads and pairs, the slot mask, the link restart, and their reads. -/

namespace Sys2Proof.Machine

/-- Which kinds of head setting a CONFIGURE_HEAD changes (R4). -/
def calibrationChanged (old new : HeadSettings) : Bool :=
  old.z0 != new.z0 || old.span != new.span || old.zr != new.zr

/-- The settings of head `h` stored (R4). -/
def storeSettings (h : Head) (new : HeadSettings) (s : State) : State :=
  { s with wge := { s.wge with settings := s.wge.settings.put h new } }

/-- The effects of a CONFIGURE_HEAD on the channel, its settings already stored (R4). A restart that leaves ACTIVE hands
its result, which clears the auto-capture hold and brings a pending request to its examination (R7, R44, R50), also where
no role changes and R32 leaves the context unchanged (DEDUCED, log 46). -/
def channelEffects (h : Head) (old new : HeadSettings) (s : State) : State :=
  let calibration := calibrationChanged old new
  let scale := old.scale != new.scale
  if old.role != .disabled && new.role == .disabled then goIdle h s
  else
    let s := if calibration then onChan h (fun c => { c with manual := none, zero := new.z0 }) s else s
    let s := if scale then onChan h (fun c => { c with manual := none }) s else s
    let enabled := old.role == .disabled && new.role != .disabled
    let s := if calibration || scale || enabled then restart h s else s
    if enabled && onLink (headSlot h) s then onChan h startSettling s else s

/-- The work of CONFIGURE_HEAD (R4, R32, R190). -/
def configureHead (f : RawHead) (s : State) : Answer :=
  match headSettingsOf f with
  | none => refuse .badValue s
  | some (h, new) =>
    if service h s == .serving then refuse .wrongState s
    else
      let old := settings h s
      let s := storeSettings h new s
      let s := if old.role != new.role then changeRole h s else s
      let s := channelEffects h old new s
      done .empty (if old.scale != new.scale then onHeadLink h (fun l => { l with refresh := true }) s else s)

/-- CONFIGURE_HEAD (R4). -/
def execConfigureHead : State → Out :=
  takes <| owner fun
    | .configureHead f => some (configureHead f)
    | _ => none

/-- The lower head of a pair (R1). -/
def pairFirst (p : PairIndex) : Head := ⟨2 * p.val, by omega⟩

/-- The upper head of a pair (R1). -/
def pairSecond (p : PairIndex) : Head := ⟨2 * p.val + 1, by omega⟩

/-- The settings of pair `p` stored (R3). -/
def storePair (p : PairIndex) (new : PairSettings) (s : State) : State :=
  { s with wge := { s.wge with pairs := s.wge.pairs.put p new } }

/-- The work of CONFIGURE_PAIR (R3): of the two heads the lower is restarted first (DESIGN CHOICE, log 44). -/
def configurePair (f : RawPair) (s : State) : Answer :=
  match pairSettingsOf f with
  | none => refuse .badValue s
  | some (p, new) =>
    let t := storePair p new s
    done .empty (if s.wge.pairs.look p = new then t else restart (pairSecond p) (restart (pairFirst p) t))

/-- CONFIGURE_PAIR (R3). -/
def execConfigurePair : State → Out :=
  takes <| owner fun
    | .configurePair f => some (configurePair f)
    | _ => none

/-- The work of READ_HEAD (R28, R54). -/
def readHead (n : Nat) (s : State) : Answer :=
  match index? 8 n with
  | none => refuse .badValue s
  | some h =>
    let c := chan h s
    done (.head { service := service h s, ctx := ctx h s, display := display h s, settings := settings h s,
                  pair := pairSettings h s, state := c.state, zero := c.zero, manual := c.manual, offer := c.offer,
                  lock := c.lock, windowLength := c.window.length, historyLength := c.history.length,
                  last := c.last }) s

/-- READ_HEAD (R28, R54). -/
def execReadHead : State → Out :=
  takes <| owner fun
    | .readHead n => some (readHead n)
    | _ => none

/-- The work of SET_SLOTS (R180). -/
def setSlots (m : Nat) (s : State) : Answer :=
  match maskOf m with
  | none => refuse .badValue s
  | some mask => done .empty { s with lnk := { s.lnk with pendingMask := some mask } }

/-- SET_SLOTS (R180). -/
def execSetSlots : State → Out :=
  takes <| owner fun
    | .setSlots m => some (setSlots m)
    | _ => none

/-- The work of LINK_RESTART (R191). -/
def linkRestart (s : State) : Answer := done .empty { s with lnk := { s.lnk with restart := true } }

/-- LINK_RESTART (R191). -/
def execLinkRestart : State → Out :=
  takes <| owner fun
    | .linkRestart => some linkRestart
    | _ => none

/-- The eleven error counters set to 0 (R194). -/
def clearErrors : State → State := eachSlot fun i => onSlot i fun l => { l with errors := 0 }

/-- The work of READ_LINK (R194). -/
def readLink (clear : Nat) (s : State) : Answer :=
  match switchOf clear with
  | none => refuse .badValue s
  | some b =>
    let u := s.lnk
    done (.link { mask := u.mask, pendingMask := u.pendingMask, restart := u.restart, frame := u.frame,
                  slots := u.slots, heads := u.heads }) (if b then clearErrors s else s)

/-- READ_LINK (R194). -/
def execReadLink : State → Out :=
  takes <| owner fun
    | .readLink c => some (readLink c)
    | _ => none

end Sys2Proof.Machine
end

