-- ==== Sys2Proof/Machine/TicketCommands.lean ====
section
/-! DEFINITION. The commands of the Service Number Unit and of the Ticket Pool (R90, R103, R121 to R126). -/

namespace Sys2Proof.Machine

/-- The capacity of the waiting list for a range (R90). -/
def capacityOf (low high : Nat) : Nat := min Config.waitingLimit (high - low + 1)

/-- The work of SET_NUMBER_RANGE (R90); BAD_VALUE is answered before WRONG_STATE (DEDUCED, log 45). -/
def setNumberRange (low high : Nat) (s : State) : Answer :=
  if low < 1 ∨ 999 < high ∨ high ≤ low then refuse .badValue s
  else if s.tot.day != .closed then refuse .wrongState s
  else
    done (.capacity (capacityOf low high))
      (onSnu (fun u => { u with low := low, high := high, capacity := capacityOf low high, next := low }) s)

/-- SET_NUMBER_RANGE (R90). -/
def execSetNumberRange : State → Out :=
  takes <| owner fun
    | .setNumberRange l c => some (setNumberRange l c)
    | _ => none

/-- The work of READ_QUEUE (R103). -/
def readQueue (s : State) : Answer :=
  let u := s.snu
  done (.queue { low := u.low, high := u.high, capacity := u.capacity, next := u.next, waiting := u.waiting,
                 serving := Table.gen fun h => (ctx h s).nowServing, skipped := u.skipped,
                 lastCalled := u.lastCalled, counter := u.counter }) s

/-- READ_QUEUE (R103). -/
def execReadQueue : State → Out :=
  takes <| owner fun
    | .readQueue => some readQueue
    | _ => none

/-- The states a selection of LIST_TICKETS takes in (R125); none is BAD_VALUE. -/
def selectionOf : Nat → Option (TicketState → Bool)
  | 0 => some (· == .free)
  | 1 => some (· == .held)
  | 2 => some (· == .parked)
  | 3 => some (· == .closing)
  | 4 => some (· == .closed)
  | 5 => some fun _ => true
  | _ => none

/-- The entry of LIST_TICKETS for a slot (R125). -/
def ticketEntry (s : State) (t : TicketSlot) : TicketEntry :=
  let k := ticket t s
  { slot := t, serial := k.serial, state := k.state, service := k.service, holder := k.holder,
    lines := k.lines.length, total := k.total }

/-- The count of records in each state (R125). -/
def ticketCounts (s : State) : TicketCounts :=
  { free := countTickets .free s, held := countTickets .held s, parked := countTickets .parked s,
    closing := countTickets .closing s, closed := countTickets .closed s }

/-- The work of LIST_TICKETS (R125). -/
def listTickets (selection : Nat) (s : State) : Answer :=
  match selectionOf selection with
  | none => refuse .badValue s
  | some p =>
    done (.tickets ((allTickets.filter fun t => p (ticket t s).state).map (ticketEntry s)) (ticketCounts s)) s

/-- LIST_TICKETS (R125). -/
def execListTickets : State → Out :=
  takes <| owner fun
    | .listTickets k => some (listTickets k)
    | _ => none

/-- The slot of a ticket number 1 to 48. -/
def ticketSlotOf (n : Nat) : Option TicketSlot := if n = 0 then none else index? 48 (n - 1)

/-- The name checks of R121, then the command's own work on the ticket. -/
def onNamed (slot serial : Nat) (f : TicketSlot → State → Answer) (s : State) : Answer :=
  match ticketSlotOf slot with
  | none => refuse .badValue s
  | some t =>
    if 255 < serial then refuse .badValue s
    else if (ticket t s).state == .free || (ticket t s).serial.toNat != serial then refuse .notFound s
    else f t s

/-- The work of READ_TICKET (R121, R126). -/
def readTicket (slot serial : Nat) : State → Answer :=
  onNamed slot serial fun t s => done (.ticket (ticket t s)) s

/-- READ_TICKET (R126). -/
def execReadTicket : State → Out :=
  takes <| owner fun
    | .readTicket t u => some (readTicket t u)
    | _ => none

/-- The former holder of a ticket that the host voids (R122 step 1, R39). -/
def releaseHolder (t : TicketSlot) (s : State) : State :=
  match (ticket t s).holder with
  | some h => leaveTicket h (ticketId t s) s
  | none => s

/-- The work of VOID_TICKET from the host (R121, R122). -/
def voidTicketCommand (slot serial : Nat) : State → Answer :=
  onNamed slot serial fun t s =>
    let k := ticket t s
    if openTicket k then done (.voided k.lines.length (lineSum k.lines)) (voidRecord t (releaseHolder t s))
    else refuse .wrongState s

/-- VOID_TICKET (R122). -/
def execVoidTicket : State → Out :=
  takes <| owner fun
    | .voidTicket t u => some (voidTicketCommand t u)
    | _ => none

/-- The work of COLLECT_TICKET (R121, R123). -/
def collectTicket (slot serial : Nat) : State → Answer :=
  onNamed slot serial fun t s =>
    if (ticket t s).state == .closed then done .empty (freeRecord t s) else refuse .wrongState s

/-- COLLECT_TICKET (R123). -/
def execCollectTicket : State → Out :=
  takes <| owner fun
    | .collectTicket t u => some (collectTicket t u)
    | _ => none

/-- The work of SET_COLLECTION (R124). -/
def setCollection (n : Nat) (s : State) : Answer :=
  match switchOf n with
  | none => refuse .badValue s
  | some b => done .empty { s with tkp := { s.tkp with collection := b } }

/-- SET_COLLECTION (R124). -/
def execSetCollection : State → Out :=
  takes <| owner fun
    | .setCollection n => some (setCollection n)
    | _ => none

end Sys2Proof.Machine
end

