-- ==== Sys2Proof/Machine/Dispatch.lean ====
section
/-! DEFINITION. One arm for each command: its meaning. -/

namespace Sys2Proof.Machine

def exec (i : Instr) (s : State) : Host.Outcome State Fault Refusal :=
  match i with
  | .powerOnReset => Sys2Proof.Machine.execPowerOnReset s
  | .resetPinFall => Sys2Proof.Machine.execResetPinFall s
  | .resetPinRise => Sys2Proof.Machine.execResetPinRise s
  | .commandTransaction ago bytes => Sys2Proof.Machine.execCommandTransaction ago bytes s
  | .responseTransaction clocked => Sys2Proof.Machine.execResponseTransaction clocked s
  | .configureHead => Sys2Proof.Machine.execConfigureHead s
  | .configurePair => Sys2Proof.Machine.execConfigurePair s
  | .setSlots => Sys2Proof.Machine.execSetSlots s
  | .linkRestart => Sys2Proof.Machine.execLinkRestart s
  | .readLink => Sys2Proof.Machine.execReadLink s
  | .readHead => Sys2Proof.Machine.execReadHead s
  | .addItem => Sys2Proof.Machine.execAddItem s
  | .updateItem => Sys2Proof.Machine.execUpdateItem s
  | .findItem => Sys2Proof.Machine.execFindItem s
  | .nextItem => Sys2Proof.Machine.execNextItem s
  | .stagePrice => Sys2Proof.Machine.execStagePrice s
  | .unstagePrice => Sys2Proof.Machine.execUnstagePrice s
  | .commitPrices => Sys2Proof.Machine.execCommitPrices s
  | .withdrawItem => Sys2Proof.Machine.execWithdrawItem s
  | .reinstateItem => Sys2Proof.Machine.execReinstateItem s
  | .readCopies => Sys2Proof.Machine.execReadCopies s
  | .setNumberRange => Sys2Proof.Machine.execSetNumberRange s
  | .readQueue => Sys2Proof.Machine.execReadQueue s
  | .listTickets => Sys2Proof.Machine.execListTickets s
  | .readTicket => Sys2Proof.Machine.execReadTicket s
  | .voidTicket => Sys2Proof.Machine.execVoidTicket s
  | .collectTicket => Sys2Proof.Machine.execCollectTicket s
  | .setCollection => Sys2Proof.Machine.execSetCollection s
  | .printText => Sys2Proof.Machine.execPrintText s
  | .cancelJob => Sys2Proof.Machine.execCancelJob s
  | .redirectJobs => Sys2Proof.Machine.execRedirectJobs s
  | .readPrinter => Sys2Proof.Machine.execReadPrinter s
  | .openDay => Sys2Proof.Machine.execOpenDay s
  | .closeDay => Sys2Proof.Machine.execCloseDay s
  | .readTotals => Sys2Proof.Machine.execReadTotals s
  | .readHold => Sys2Proof.Machine.execReadHold s
  | .readClosing => Sys2Proof.Machine.execReadClosing s
  | .readStatus => Sys2Proof.Machine.execReadStatus s
  | .hubReset => Sys2Proof.Machine.execHubReset s
  | .frameStart => Sys2Proof.Machine.execFrameStart s
  | .slotMaskTakesEffect => Sys2Proof.Machine.execSlotMaskTakesEffect s
  | .linkRestartTakesEffect => Sys2Proof.Machine.execLinkRestartTakesEffect s
  | .joinWaitExpiry slot => Sys2Proof.Machine.execJoinWaitExpiry slot s
  | .headServiceFrameStart => Sys2Proof.Machine.execHeadServiceFrameStart s
  | .captureTimeout head => Sys2Proof.Machine.execCaptureTimeout head s
  | .messageExpiry head => Sys2Proof.Machine.execMessageExpiry head s
  | .copyFrameStart => Sys2Proof.Machine.execCopyFrameStart s
  | .ticketFrameStart => Sys2Proof.Machine.execTicketFrameStart s
  | .ticketIdlePark ticket => Sys2Proof.Machine.execTicketIdlePark ticket s
  | .frameNotice => Sys2Proof.Machine.execFrameNotice s
  | .welcome slot => Sys2Proof.Machine.execWelcome slot s
  | .headUpdate head => Sys2Proof.Machine.execHeadUpdate head s
  | .printerUpdate printer => Sys2Proof.Machine.execPrinterUpdate printer s
  | .dispenserUpdate => Sys2Proof.Machine.execDispenserUpdate s
  | .headReport head part => Sys2Proof.Machine.execHeadReport head part s
  | .printerReport printer part => Sys2Proof.Machine.execPrinterReport printer part s
  | .dispenserReport part => Sys2Proof.Machine.execDispenserReport part s
  | .join slot part => Sys2Proof.Machine.execJoin slot part s
  | .upstreamRejected slot part => Sys2Proof.Machine.execUpstreamRejected slot part s
  | .upstreamMiss slot => Sys2Proof.Machine.execUpstreamMiss slot s
  | .silenceLoss slot => Sys2Proof.Machine.execSilenceLoss slot s
  | .channelSample head => Sys2Proof.Machine.execChannelSample head s
  | .cellFaultEntry head => Sys2Proof.Machine.execCellFaultEntry head s
  | .cellFaultRecovery head => Sys2Proof.Machine.execCellFaultRecovery head s
  | .copyAck head => Sys2Proof.Machine.execCopyAck head s
  | .captureLineComplete head => Sys2Proof.Machine.execCaptureLineComplete head s
  | .captureLabelComplete head => Sys2Proof.Machine.execCaptureLabelComplete head s
  | .keySignOn head => Sys2Proof.Machine.execKeySignOn head s
  | .keySignOff head => Sys2Proof.Machine.execKeySignOff head s
  | .keyItem head => Sys2Proof.Machine.execKeyItem head s
  | .keyCount head => Sys2Proof.Machine.execKeyCount head s
  | .keyZero head => Sys2Proof.Machine.execKeyZero head s
  | .keyTare head => Sys2Proof.Machine.execKeyTare head s
  | .keyClearTare head => Sys2Proof.Machine.execKeyClearTare head s
  | .keyNext head => Sys2Proof.Machine.execKeyNext head s
  | .keySkip head => Sys2Proof.Machine.execKeySkip head s
  | .keyOpen head => Sys2Proof.Machine.execKeyOpen head s
  | .keyPark head => Sys2Proof.Machine.execKeyPark head s
  | .keyPick head => Sys2Proof.Machine.execKeyPick head s
  | .keyVoidLast head => Sys2Proof.Machine.execKeyVoidLast head s
  | .keyVoidTicket head => Sys2Proof.Machine.execKeyVoidTicket head s
  | .keyTotal head => Sys2Proof.Machine.execKeyTotal head s
  | .keyLabel head => Sys2Proof.Machine.execKeyLabel head s
  | .keyBatch head => Sys2Proof.Machine.execKeyBatch head s
  | .keyClear head => Sys2Proof.Machine.execKeyClear head s

end Sys2Proof.Machine
end

