-- ==== Sys2Proof/Safety.lean ====
section
/-! DEFINITION. The laws of the device, as conditions on a state: what every run keeps. -/

namespace Sys2Proof.Machine

/-! ### What stands behind the displays -/

/-- The state with its display records, its offers of preset tare and the views its port has shown taken away. Every
event leaves the first two as R51 and R52 compose them, and the third as the standing view changes (log 7); what else
an event does shows in the rest. -/
def behind (s : State) : State :=
  { s with
    shown := []
    hsu := { s.hsu with displays := Table.const 8 blankDisplay }
    wge := { s.wge with chans := Table.gen fun h => { chan h s with offer := none } } }

/-- Two states that differ in display records, offers of preset tare and past views of the port only. -/
def SameBehind (t u : State) : Prop := behind t = behind u

/-! ### What a row finds -/

/-- The command in process is `c` with serial `n`, and the RESET pin is high: the row of its owner takes it. -/
def Taking (n : Byte) (c : HostCmd) (s : State) : Prop := s.resetLow = false ∧ s.port.inProcess = some ⟨n, c⟩

/-- `u` with the answer to command `c` of serial `n` placed and the command ended (R199): RDY goes high, so the view of the
port in which it was low is a past one. -/
def answered (n : Byte) (c : HostCmd) (status : Status) (reply : Reply) (u : State) : State :=
  { u with
    shown := portView u :: u.shown
    port := { u.port with inProcess := none, buffer := some ⟨status, n, commandCode c, reply⟩ } }

/-- Key event `e` is the oldest handed on for head `h`, with `rest` behind it, and the RESET pin is high. -/
def Keyed (h : Head) (e : KeyEvent) (rest : List KeyEvent) (s : State) : Prop :=
  s.resetLow = false ∧ (inbox h s).keys = e :: rest

/-- The row that takes a key of a kind at a head. -/
def keyRow (k : KeyKind) (h : Head) : Instr :=
  match k with
  | .signOn => .keySignOn h
  | .signOff => .keySignOff h
  | .item => .keyItem h
  | .count => .keyCount h
  | .zero => .keyZero h
  | .tare => .keyTare h
  | .clearTare => .keyClearTare h
  | .next => .keyNext h
  | .skip => .keySkip h
  | .openKey => .keyOpen h
  | .park => .keyPark h
  | .pick => .keyPick h
  | .voidLast => .keyVoidLast h
  | .voidTicket => .keyVoidTicket h
  | .total => .keyTotal h
  | .label => .keyLabel h
  | .batch => .keyBatch h
  | .clear => .keyClear h

/-- Head `h` after steps 1 to 5 of R33 for a key that passes them: the event taken from those that wait, the message
absent, the idle count of a held ticket restarted. -/
def keyTaken (h : Head) (rest : List KeyEvent) (s : State) : State :=
  let u := onCtx h (fun c => { c with message := none }) (onInbox h (fun b => { b with keys := rest }) s)
  match (ctx h s).held with
  | some id => onTicket id.slot (fun k => { k with idle := 0 }) u
  | none => u

/-- Sample `raw` is the oldest handed on for head `h`, with `rest` behind it, and the RESET pin is high. -/
def Sampled (h : Head) (raw : Int) (rest : List Int) (s : State) : Prop :=
  s.resetLow = false ∧ (inbox h s).samples = raw :: rest

/-- `s` with the oldest sample of head `h` taken and its channel set to `c`. -/
def sampled (h : Head) (rest : List Int) (c : Channel) (s : State) : State :=
  onChan h (fun _ => c) (onInbox h (fun b => { b with samples := rest }) s)

/-- The row that examines the request pending at head `h` (R44, log 36). -/
def examinationRow (h : Head) (s : State) : Instr :=
  if (ctx h s).request.any (·.purpose == .line) then .captureLineComplete h else .captureLabelComplete h

/-- `t` is what the examination of the request pending at head `h` makes of `v`, behind the displays; where no request
is pending, `t` is `v`. What an examination does is stated of the two rows of captures. -/
def Examined (h : Head) (v t : State) : Prop := ∃ w, exec (examinationRow h v) v = .next w ∧ SameBehind t w

/-! ### Numbers returned (R101) -/

/-- The numbers that one event returns from those heads in `lost` that have an operator, in ascending order of head
index, each with its head's mark (R101). -/
def returnedNumbers (lost : Head → Bool) (s : State) : List WaitEntry :=
  allHeads.filterMap fun h =>
    match lost h, (ctx h s).operator, (ctx h s).nowServing with
    | true, some _, some n => some ⟨n, s.snu.skipped.look h⟩
    | _, _, _ => none

/-- Whether head `h` has a number to return when it is signed off (R101). -/
def returnsNumber (h : Head) (s : State) : Bool := (ctx h s).operator.isSome && (ctx h s).nowServing.isSome

/-- Whether an event that signs off the heads of `off` parks ticket `t`: one of them has an operator and holds it (R36,
R111, R112). -/
def parkedBy (off : Head → Bool) (t : TicketSlot) (s : State) : Bool :=
  allHeads.any fun h => off h && (ctx h s).operator.isSome && (ctx h s).held.any (·.slot == t)

/-! ### Hub reset (R207) -/


/-- What a hub reset of `s` leaves in `t`, block by block (R207 and the hub reset column of every chapter), but for
the response buffer. The join wait and miss count 0 of a masked-off slot are the model's reading (DEDUCED, log 47). -/
structure HubResetValues (s t : State) : Prop where
  contexts : ∀ h, ctx h t = offCtx
  signOn : ∀ n, signedOnAt n t = none
  channels : ∀ h, chan h t = idleChannel (settings h s).z0
  weighing : t.wge.pairs = s.wge.pairs ∧ t.wge.settings = s.wge.settings
  items : t.itb = s.itb
  copies : t.ccu = powerOnCcu
  waiting : t.snu.waiting = returnedNumbers (fun _ => true) s ++ s.snu.waiting
  skipped : ∀ h, t.snu.skipped.look h = (s.snu.skipped.look h && !returnsNumber h s)
  numbers : t.snu.low = s.snu.low ∧ t.snu.high = s.snu.high ∧ t.snu.capacity = s.snu.capacity
    ∧ t.snu.next = s.snu.next ∧ t.snu.lastCalled = s.snu.lastCalled
  dispenser : t.snu.counter = none ∧ t.snu.issued = [] ∧ t.snu.full = false
  tickets : ∀ k, ticket k t =
    if parkedBy (fun _ => true) k s then { ticket k s with state := .parked, holder := none, idle := 0 } else ticket k s
  collection : t.tkp.collection = s.tkp.collection
  labels : (∀ p, printer p t = offlinePrinter) ∧ t.lbc.queues = s.lbc.queues ∧ t.lbc.candidate = s.lbc.candidate
    ∧ t.lbc.date = s.lbc.date
  totals : t.tot = { s.tot with hold := none }
  slots : ∀ i, slotLink i t = resetSlot (s.lnk.mask.look i)
  links : (∀ h, headLink h t = resetHeadLink) ∧ t.lnk.frame = 0 ∧ t.lnk.restart = false ∧ t.lnk.mask = s.lnk.mask
    ∧ t.lnk.pendingMask = s.lnk.pendingMask
  port : t.port.inProcess = none ∧ t.port.latched = noFlags ∧ t.port.serial = s.port.serial
  link : t.down = noDownstream ∧ t.hand = emptyHand ∧ t.sdo = s.sdo

/-! ### Loss (R184) -/

/-- What an event that loses slot `i` of `s` leaves in `t` of the device that was there, and the latched flag it sets
(R184 and the loss column of every chapter): at a head the sign-off too, with its operator's entry emptied, its held
ticket parked and its number returned with its mark (R36, R101, R111). -/
structure LostDevice (i : Slot) (s t : State) : Prop where
  head : ∀ h, i = headSlot h → ctx h t = offCtx ∧ chan h t = idleChannel (settings h t).z0
    ∧ copies h t = emptyCopies ∧ headLink h t = resetHeadLink ∧ t.port.latched.headLost.look h = true
  operator : ∀ h op, i = headSlot h → (ctx h s).operator = some op → signedOnAt op t = none
  ticket : ∀ h id, i = headSlot h → (ctx h s).operator.isSome → (ctx h s).held = some id →
    Machine.ticket id.slot t = { Machine.ticket id.slot s with state := .parked, holder := none, idle := 0 }
  number : ∀ h n, i = headSlot h → (ctx h s).operator.isSome → (ctx h s).nowServing = some n →
    ⟨n, s.snu.skipped.look h⟩ ∈ t.snu.waiting ∧ t.snu.skipped.look h = false
  printer : ∀ p, i = printerSlot p → Machine.printer p t = offlinePrinter ∧ queue p t = queue p s
    ∧ t.port.latched.printerLost.look p = true
  dispenser : i = dispenserSlot → t.snu.counter = none ∧ t.snu.issued = [] ∧ t.snu.full = false
    ∧ t.port.latched.dispenserLost = true

/-- What an event of the link that loses the slots of `lost` and no other leaves in `t`, but for the slots themselves,
the waiting list and the frame: each lost device (R184), the in-step watch examined where any head was lost (R87), the
latched flags, and everything else as it was. -/
structure LossesTaken (lost : Slot → Bool) (s t : State) : Prop where
  devices : ∀ i, lost i = true → LostDevice i s t
  heads : ∀ h, lost (headSlot h) = false → ctx h t = ctx h s ∧ chan h t = chan h s ∧ copies h t = copies h s
    ∧ headLink h t = headLink h s
  weighing : t.wge.pairs = s.wge.pairs ∧ t.wge.settings = s.wge.settings
  signOn : ∀ n, signedOnAt n t =
    if allHeads.any fun h => lost (headSlot h) && (ctx h s).operator == some n then none else signedOnAt n s
  tickets : ∀ k, ticket k t =
    if parkedBy (fun h => lost (headSlot h)) k s then { ticket k s with state := .parked, holder := none, idle := 0 }
    else ticket k s
  collection : t.tkp.collection = s.tkp.collection
  skipped : ∀ h, t.snu.skipped.look h = (s.snu.skipped.look h && !(lost (headSlot h) && returnsNumber h s))
  numbers : t.snu = { s.snu with
    waiting := t.snu.waiting, skipped := t.snu.skipped
    counter := if lost dispenserSlot then none else s.snu.counter
    issued := if lost dispenserSlot then [] else s.snu.issued
    full := s.snu.full && !lost dispenserSlot }
  printers : ∀ p, printer p t = if lost (printerSlot p) then offlinePrinter else printer p s
  labels : t.lbc = { s.lbc with printers := t.lbc.printers }
  watch : t.ccu.armed = true ↔ s.ccu.armed = true ∧ ((∀ h, lost (headSlot h) = false)
    ∨ ∃ g, onLink (headSlot g) t = true ∧ ∃ e ∈ (copies g t).entries, e.state ≠ .current)
  flags : t.port = { s.port with latched := { s.port.latched with
    headLost := t.port.latched.headLost, printerLost := t.port.latched.printerLost
    dispenserLost := s.port.latched.dispenserLost || lost dispenserSlot
    inStep := s.port.latched.inStep || (s.ccu.armed && !t.ccu.armed) } }
  headFlags : ∀ h, t.port.latched.headLost.look h = (s.port.latched.headLost.look h || lost (headSlot h))
  printerFlags : ∀ p, t.port.latched.printerLost.look p = (s.port.latched.printerLost.look p || lost (printerSlot p))
  rest : t.itb = s.itb ∧ t.tot = s.tot ∧ t.sdo = s.sdo

/-- What an event that loses slot `i` of `s` and no other leaves in `t`, but for the slot itself: its number returned at
the very front (R101), and every other slot as it was. -/
structure LostAlone (i : Slot) (s t : State) : Prop extends LossesTaken (fun j => j == i) s t where
  waiting : t.snu.waiting = returnedNumbers (fun h => decide (headSlot h = i)) s ++ s.snu.waiting
  slots : ∀ j, j ≠ i → slotLink j t = slotLink j s
  link : t.lnk = { s.lnk with slots := t.lnk.slots, heads := t.lnk.heads } ∧ t.hand = s.hand ∧ t.down = s.down

/-! ### Weighing (R16, R22) -/

/-- A LOCKED channel does not stand ELIGIBLE (R21, R22). -/
def LockLaw (s : State) : Prop := ∀ h : Head, (chan h s).lock = .locked → (chan h s).verdict ≠ .eligible

/-- Why the lock of head `h` may have been armed on the way to `t` (R22): the sample that gave its last result was
ACTIVE, stable and within 10 d1, or the channel was emptied and has taken at most one sample since. -/
def Rearmed (h : Head) (t : State) : Prop :=
  (∃ r g, (chan h t).last = some r ∧ r.state = .active ∧ r.stable = true ∧ r.gross = some g
      ∧ g ≤ 10 * divSmall (settings h t).scale)
    ∨ (chan h t).window.length ≤ 1 ∧ (chan h t).history.length ≤ 1

/-- Every channel's zero count within its Z0 ± ZR (R16). -/
def ZeroLaw (s : State) : Prop :=
  ∀ h : Head, zeroLow (settings h s) ≤ (chan h s).zero ∧ (chan h s).zero ≤ zeroHigh (settings h s)

/-! ### Operators (R30) -/

/-- The sign-on table and the operator fields agree (R30). -/
def SignOnLaw (s : State) : Prop :=
  ∀ (n : Operator) (h : Head), signedOnAt n s = some h ↔ (ctx h s).operator = some n

/-! ### Item table (R57, R72) -/

/-- The directory in ascending order of item number, with no number twice (R57). -/
def Directory (s : State) : Prop := s.itb.items.Pairwise fun i j => i.number < j.number

/-- No record index twice, and each one of the 1,024 places (R56). -/
def Places (s : State) : Prop :=
  (s.itb.items.map (·.index)).Nodup ∧ ∀ i ∈ s.itb.items, i.index < Config.itemPlaces

/-- A pending price on an ACTIVE record only (R72). -/
def PendingLaw (s : State) : Prop := ∀ i ∈ s.itb.items, i.pending.isSome → i.state = .active

/-- No WITHDRAWN record without references and with an empty accumulator (R72). -/
def PurgeLaw (s : State) : Prop := ∀ i ∈ s.itb.items, i.state = .withdrawn → i.refs ≠ 0 ∨ i.acc ≠ emptyAcc

/-! ### Copies (R74, R84) -/

/-- What one copy list keeps: at most 16 entries, no slot twice, no item twice (R74). -/
def CopyListLaw (c : CopyList) : Prop :=
  c.entries.length ≤ Config.copyPlaces ∧ (c.entries.map (·.slot)).Nodup ∧ (c.entries.map (·.number)).Nodup

/-- Every head's copy list keeps its law (R74). -/
def CopyLaw (s : State) : Prop := ∀ h : Head, CopyListLaw (copies h s)

/-- Every copy entry names an ACTIVE record by its index and number, none being WITHDRAWN (R74); one that is not STALE
carries the record's version (R74, R84); a push age of at most 10 stands in SENDING entries only (R74). -/
def EntryLaw (s : State) : Prop :=
  ∀ (h : Head), ∀ e ∈ (copies h s).entries,
    (∃ i, itemAt e.index s = some i ∧ i.number = e.number ∧ i.state = .active
      ∧ (e.state ≠ .stale → e.version = i.version))
    ∧ ∀ a, e.age = some a → e.state = .sending ∧ a ≤ Config.pushFrames

/-! ### Tickets (R104 to R108) -/

/-- What one ticket record keeps: at most 24 lines in unbroken positions from 1, and the total their sum within
99,999,999 mu (R105, R108). -/
def TicketLaw (t : Ticket) : Prop :=
  t.lines.length ≤ Config.linePlaces ∧ t.lines.map (·.position) = List.range' 1 t.lines.length
    ∧ t.total = lineSum t.lines ∧ t.total ≤ Config.ticketLimit

/-- Every ticket record keeps its law (R108). -/
def TotalLaw (s : State) : Prop := ∀ t : TicketSlot, TicketLaw (ticket t s)

/-- A record in FREE holds no service number, no lines and a total of 0 (R104), and an idle count of 0 (DESIGN CHOICE,
log 43). -/
def FreeLaw (s : State) : Prop :=
  ∀ t : TicketSlot, (ticket t s).state = .free → ticket t s = freeTicket (ticket t s).serial

/-- Heads and tickets agree (R104, R106, R31): head `h` holds exactly the tickets whose holder it is, exactly the HELD
tickets have a holder, and a head that holds a ticket names its present use and has an operator. -/
def HolderLaw (s : State) : Prop :=
  (∀ (t : TicketSlot) (h : Head), (ticket t s).holder = some h ↔ (ctx h s).held = some (ticketId t s))
    ∧ (∀ t : TicketSlot, (ticket t s).state = .held ↔ (ticket t s).holder.isSome)
    ∧ ∀ (h : Head) (id : TicketId), (ctx h s).held = some id →
        id.serial = (ticket id.slot s).serial ∧ (ctx h s).operator.isSome

/-- The lines of HELD and PARKED tickets that name record index `k` (R71). -/
def openLines (k : Nat) (s : State) : Nat :=
  ((List.finRange 48).map fun t =>
    if openTicket (ticket t s) then (ticket t s).lines.countP (·.index == k) else 0).sum

/-- Every record's reference count is the number of lines naming it in HELD and PARKED tickets, and no such line
names an index without a record (R71). -/
def RefsLaw (s : State) : Prop := ∀ k : Nat, ((itemAt k s).map (·.refs)).getD 0 = openLines k s

/-! ### Service numbers (R91) -/

/-- The service numbers in play, place by place (R91). -/
def numbersInPlay (s : State) : List Nat :=
  s.snu.waiting.map (·.number) ++ allHeads.filterMap (fun h => (ctx h s).nowServing)
    ++ (List.finRange 48).filterMap fun t => if openTicket (ticket t s) then (ticket t s).service else none

/-- A service number stands at most once across the waiting list, the heads and the open tickets, every one lies within
the range, and so does N; outside DAY_OPEN none is in play (R90, R91). -/
def NumberLaw (s : State) : Prop :=
  (numbersInPlay s).Nodup ∧ (∀ n ∈ numbersInPlay s, s.snu.low ≤ n ∧ n ≤ s.snu.high)
    ∧ s.snu.low ≤ s.snu.next ∧ s.snu.next ≤ s.snu.high ∧ (s.tot.day ≠ .opened → numbersInPlay s = [])

/-! ### The day (R156, R161, R167) -/

/-- Outside DAY_OPEN there is nothing left to fold: no HELD or PARKED ticket, no unfolded PREPACK job, no capture
request (R156, R161, R162). -/
def QuietLaw (s : State) : Prop :=
  s.tot.day ≠ .opened → (∀ t : TicketSlot, openTicket (ticket t s) = false) ∧ unfoldedPacks s = 0
    ∧ ∀ h : Head, (ctx h s).request = none

/-- The sum of a field over the accumulators of a group. -/
def sumOver {n : Nat} (f : Acc → Nat) (t : Table Acc n) : Nat := ((List.finRange n).map fun i => f (t.look i)).sum

/-- The six fields of an accumulator (R152). -/
def accFields : List (Acc → Nat) := [Acc.lines, Acc.weight, Acc.pieces, Acc.amount, Acc.voidLines, Acc.voidAmount]

/-- No accumulator of the first four groups has its saturated flag set. -/
def Unsaturated (s : State) : Prop :=
  s.tot.grand.saturated = false ∧ (∀ h, (s.tot.heads.look h).saturated = false)
    ∧ (∀ n, (s.tot.operators.look n).saturated = false) ∧ ∀ d, (s.tot.departments.look d).saturated = false

/-- Each field of the grand accumulator is the sum of that field over the heads, over the operators and over the
departments (R156). -/
def GroupsBalanced (s : State) : Prop :=
  ∀ f ∈ accFields, f s.tot.grand = sumOver f s.tot.heads ∧ f s.tot.grand = sumOver f s.tot.operators
    ∧ f s.tot.grand = sumOver f s.tot.departments

/-- Outside DAY_CLOSING, and while no accumulator is saturated, the groups balance; in DAY_CLOSING the drain has left
every accumulator of the first four groups up to its cursor empty (R156, R168). -/
def BalanceLaw (s : State) : Prop :=
  if s.tot.day = .closing then
    ∀ k : AccKey, groupOfKey k ≠ .item → drainRank k ≤ cursorRank s.tot.cursor → accAt k s = emptyAcc
  else Unsaturated s → GroupsBalanced s

/-- Every PREPACK job that is not folded names a record index that a record holds (R147, R156). -/
def PacksLaw (s : State) : Prop :=
  ∀ (p : Printer) (j : Job), j ∈ queue p s → ∀ l f, j.content = .prepack l f → j.folded = false →
    (itemAt f.index s).isSome

/-- The same for the item accumulators: each field of the grand accumulator is the sum of that field over the records
of the table; in DAY_CLOSING the drain has left every item accumulator up to its cursor empty (R156,
R168). -/
def ItemBalanceLaw (s : State) : Prop :=
  if s.tot.day = .closing then
    ∀ i ∈ s.itb.items, drainRank (.item i.number) ≤ cursorRank s.tot.cursor → i.acc = emptyAcc
  else s.tot.grand.saturated = false → (∀ i ∈ s.itb.items, i.acc.saturated = false) →
    ∀ f ∈ accFields, f s.tot.grand = (s.itb.items.map fun i => f i.acc).sum

/-! ### Printer queues (R130) -/

/-- The tags carried by the jobs of both queues. -/
def queuedTags (s : State) : List Tag := (queue 0 s ++ queue 1 s).map (·.tag)

/-- At most 16 jobs in a queue, copies remaining 1 to 16, no tag twice across both queues (R130). -/
def QueueLaw (s : State) : Prop :=
  (∀ p : Printer, (queue p s).length ≤ Config.queuePlaces ∧ ∀ j ∈ queue p s, 1 ≤ j.remaining ∧ j.remaining ≤ 16)
    ∧ (queuedTags s).Nodup

/-- An IDLE printer has no job (R138, R150). -/
def FeedLaw (s : State) : Prop := ∀ p : Printer, (printer p s).state = .idle → queue p s = []

/-! ### Link (R181, R180) -/

/-- The presence state DISABLED exactly where the slot mask is off (R180, R181). -/
def MaskLaw (s : State) : Prop := ∀ i : Slot, presence i s = .disabled ↔ s.lnk.mask.look i = false

/-! ### Port (R195, R201) -/

/-- With a command in process the response buffer is empty (R197, R199), and RDY has been low since the transaction that
brought it, so one that begins meanwhile is an overrun (R197). -/
def PortLaw (s : State) : Prop :=
  s.port.inProcess.isSome → s.port.buffer = none ∧ ∀ v ∈ s.shown, v.rdy = false

end Sys2Proof.Machine
end

