-- ==== Sys2Proof/WellFormed.lean ====
section
/-! DEFINITION. Which commands the outside world can send: operands that their fields can carry, and transactions and parts that their rows can stand for. -/

namespace Sys2Proof

/-- Whether a number fits in `n` bytes (R208). -/
def fits (n v : Nat) : Bool := decide (v < 256 ^ n)

/-- Whether a number fits in `n` bytes in two's complement (R208). -/
def fitsInt (n : Nat) (v : Int) : Bool :=
  decide (-((256 ^ n : Nat) : Int) ≤ 2 * v) && decide (2 * v < ((256 ^ n : Nat) : Int))

/-- Whether a text can stand behind its one count byte (R208). -/
def textFits (t : List Byte) : Bool := fits 1 t.length

/-- Whether an optional number fits in `n` bytes (R208). -/
def optFits (n : Nat) (v : Option Nat) : Bool := v.all (fits n)

/-- Whether a scale type can be sent: its numbers fit, or its alternative byte names neither scale type (R208). -/
def RawScale.wellFormed : RawScale → Bool
  | .single max d => fits 3 max && fits 1 d
  | .dual max1 d1 max2 d2 => fits 3 max1 && fits 1 d1 && fits 3 max2 && fits 1 d2
  | .other tag _ => decide (1 < tag.toNat)

/-- Whether the operands of CONFIGURE_HEAD can be sent. -/
def RawHead.wellFormed (f : RawHead) : Bool :=
  fits 1 f.head && fits 1 f.role && fitsInt 3 f.z0 && fits 3 f.span && fits 3 f.zr && f.scale.wellFormed
    && fits 1 f.printer && fits 1 f.lineLabels && fits 2 f.idle

/-- Whether the operands of CONFIGURE_PAIR can be sent. -/
def RawPair.wellFormed (f : RawPair) : Bool :=
  fits 1 f.pair && fits 1 f.depth && fits 1 f.window && fits 1 f.silence && fits 1 f.mode && fits 1 f.gain

/-- Whether the descriptive fields of an item can be sent. -/
def RawItem.wellFormed (f : RawItem) : Bool :=
  fits 3 f.number && textFits f.name && fits 1 f.mode && optFits 2 f.preset && optFits 2 f.shelf && fits 1 f.dept
    && fits 1 f.format

/-- Whether a command's operands fit the fields that its payload has for them (R208). -/
def HostCmd.wellFormed : HostCmd → Bool
  | .configureHead f => f.wellFormed
  | .configurePair f => f.wellFormed
  | .setSlots m => fits 2 m
  | .linkRestart => true
  | .readLink c => fits 1 c
  | .readHead h => fits 1 h
  | .addItem f p => f.wellFormed && fits 3 p
  | .updateItem f => f.wellFormed
  | .findItem n => fits 3 n
  | .nextItem n => fits 3 n
  | .stagePrice n p => fits 3 n && fits 3 p
  | .unstagePrice n => fits 3 n
  | .commitPrices => true
  | .withdrawItem n => fits 3 n
  | .reinstateItem n => fits 3 n
  | .readCopies h => fits 1 h
  | .setNumberRange l c => fits 2 l && fits 2 c
  | .readQueue => true
  | .listTickets k => fits 1 k
  | .readTicket t u => fits 1 t && fits 1 u
  | .voidTicket t u => fits 1 t && fits 1 u
  | .collectTicket t u => fits 1 t && fits 1 u
  | .setCollection c => fits 1 c
  | .printText p k ls => fits 1 p && fits 1 k && fits 1 ls.length && ls.all textFits
  | .cancelJob t => fits 1 t
  | .redirectJobs p q => fits 1 p && fits 1 q
  | .readPrinter p => fits 1 p
  | .openDay y m d => decide (2000 ≤ y) && fits 1 (y - 2000) && fits 1 m && fits 1 d
  | .closeDay => true
  | .readTotals g => fits 1 g
  | .readHold k => fits 1 k
  | .readClosing r => fits 1 r
  | .readStatus => true
  | .hubReset => true

/-- Whether a row can stand for what happens outside the hub. A command transaction does not open with the byte of a
response transaction (R196); a row of an upstream message carries one (R176), which may be cut short before its first
byte in UPSTREAM_REJECTED alone. -/
def Instr.wellFormed : Instr → Bool
  | .commandTransaction _ bytes => bytes.head? != some 0#8
  | .headReport _ part => !part.isEmpty
  | .printerReport _ part => !part.isEmpty
  | .dispenserReport part => !part.isEmpty
  | .join _ part => !part.isEmpty
  | _ => true

end Sys2Proof
end

