-- ==== Sys2Proof/Certificates/Slice0/Obligations.lean ====
section
/-! DEFINITION. Statements for the provers, chapter by chapter. `t` is the state a command leaves; `SameBehind t u` says that `t` is `u` but for the display records and the offers of preset tare, which DisplaysAndOffersFollow covers for every command, and the past views of the port, which EveryCommandAnswers covers. -/

open Sys2Proof Sys2Proof.Machine

/-! ### Every command -/

/-- `step` runs the command at the front of the queue on the state with the queue's rest; on an empty queue the hub
idles (the model's queue, log 1). -/
def Obligations.StepRunsFrontOfQueue : Prop :=
  (∀ (c : Instr) (rest : List Instr) (s : State),
      step { s with pending := c :: rest } = exec c { s with pending := rest })
    ∧ ∀ s : State, s.pending = [] → step s = .next s

/-- Every command answers a next state, leaves the queue alone, and leaves the RESET pin at its level unless it is the
fall or the rise of the pin. While the pin is held low nothing is taken (R196, R207): every command but power-on and
the pin's own events leaves the state as it is. The past views of the port are the model's own (log 7): every command
but power-on and the transactions adds the view it changes. -/
def Obligations.EveryCommandAnswers : Prop :=
  (∀ (c : Instr) (s : State), ∃ t, exec c s = .next t ∧ t.pending = s.pending
    ∧ (c ≠ .resetPinFall → c ≠ .resetPinRise → t.resetLow = s.resetLow))
    ∧ (∀ (c : Instr) (s : State), s.resetLow = true → c ≠ .powerOnReset → c ≠ .resetPinFall → c ≠ .resetPinRise →
    exec c s = .next s)
    ∧ ∀ (c : Instr) (s t : State), exec c s = .next t → c ≠ .powerOnReset →
    (∀ ago bytes, c ≠ .commandTransaction ago bytes) → (∀ n, c ≠ .responseTransaction n) →
    t.shown = if portView t = portView s then s.shown else portView s :: s.shown

/-- Whenever a source of a head's display record changes, the record is composed afresh (R52); whenever the item in
hand changes, the channel is offered the preset tare of the new item, or none (R51). A record composed holds what the
table of R52 gives each field, and that of a DISABLED head nothing (R32). The model's own: that a change of the standing
verdict alone composes no record (DEDUCED, log 13), and what a record shows of an item whose table record is gone
(DEDUCED, log 29). -/
def Obligations.DisplaysAndOffersFollow : Prop :=
  (∀ (c : Instr) (s t : State) (h : Head), exec c s = .next t →
    (sourcesOf h s ≠ sourcesOf h t → display h t = composeDisplay h t)
      ∧ (itemInHand h s ≠ itemInHand h t → (chan h t).offer = offerFor h t))
    ∧ ∀ (h : Head) (s : State) (hand : Option Nat) (item copy : Option Item) (entry : Option CopyEntry)
    (last : Option ChanResult) (count : Nat) (d : Display),
    hand = (match (ctx h s).request with
      | some q => some q.number
      | none => if role h s = .prepack then (ctx h s).selected else none) →
    item = hand.bind (findItem · s) →
    entry = hand.bind (fun n => (copies h s).entries.find? (·.number == n)) →
    copy = (entry.filter (·.state == .current)).bind (fun e => itemAt e.index s) →
    last = (chan h s).last →
    count = (match (ctx h s).request.bind (·.count), (ctx h s).count with
      | some n, _ => n
      | none, some n => n
      | none, none => 1) →
    d = composeDisplay h s →
    itemInHand h s = hand ∧ offerFor h s = item.bind (·.preset)
      ∧ (role h s = .disabled → d = ⟨none, none, false, false, false, false, false, none, none, none, none, none, none,
        none, false⟩)
      ∧ (role h s ≠ .disabled →
        (d.weight, d.unitText) = (match item.map (·.mode), last.bind (·.shown) with
          | some .counted, _ => (some (count : Int), some .pcs)
          | some .fixed, _ => (none, none)
          | _, some w => (some w, some .kg)
          | _, none => (none, none))
        ∧ d.stable = last.any (·.stable) ∧ d.netFlag = last.any (·.netFlag) ∧ d.zeroFlag = last.any (·.zeroFlag)
        ∧ d.overFlag = last.any (·.overFlag) ∧ d.underFlag = last.any (·.underFlag)
        ∧ d.number = hand ∧ d.name = item.map (·.name) ∧ d.price = copy.map (·.price)
        ∧ (∀ a : Nat, d.amount = some a ↔ ∃ (i : Item) (q : Nat), copy = some i ∧ amountOf i.mode i.price q = .ok a
          ∧ (match i.mode with
            | .weighed => ∃ w : Int, last.bind (·.shown) = some w ∧ 0 < w ∧ q = w.toNat
            | .counted => q = count
            | .fixed => q = 1))
        ∧ (∀ id, (ctx h s).operator.isSome → (ctx h s).held = some id → d.ticket
          = some ⟨(ticket id.slot s).service.getD 0, (ticket id.slot s).lines.length, (ticket id.slot s).total⟩)
        ∧ ((ctx h s).operator = none ∨ (ctx h s).held = none → d.ticket = none)
        ∧ d.nowServing = (ctx h s).nowServing
        ∧ d.message = (if (chan h s).state = .cellFault then some .cell
          else match (ctx h s).message with
            | some m => some m.code
            | none =>
              if (ctx h s).request.isSome ∧ copy.any (·.mode == .weighed) then
                match (chan h s).verdict with
                | .notEligible .overCap => some .overCap
                | .notEligible .belowMin => some .belowMin
                | _ => none
              else none)
        ∧ (d.stale = true ↔ ∃ e, entry = some e ∧ e.state = .stale))

/-- A setting never clears a latched flag (R203): every command but READ_STATUS, HUB_RESET, power-on and the fall of
the RESET pin keeps every latched flag that stands, and every source. -/
def Obligations.LatchedFlagsOnlyGrow : Prop :=
  ∀ (c : Instr) (s t : State), exec c s = .next t →
    c ≠ .readStatus → c ≠ .hubReset → c ≠ .powerOnReset → c ≠ .resetPinFall →
    (∀ h, s.port.latched.headLost.look h = true → t.port.latched.headLost.look h = true)
      ∧ (∀ p, s.port.latched.printerLost.look p = true → t.port.latched.printerLost.look p = true)
      ∧ (s.port.latched.dispenserLost = true → t.port.latched.dispenserLost = true)
      ∧ (∀ p, s.port.latched.printerStopped.look p = true → t.port.latched.printerStopped.look p = true)
      ∧ (∀ h, s.port.latched.cellFault.look h = true → t.port.latched.cellFault.look h = true)
      ∧ (∀ h, s.port.latched.zeroLimit.look h = true → t.port.latched.zeroLimit.look h = true)
      ∧ (s.port.latched.totalSaturated = true → t.port.latched.totalSaturated = true)
      ∧ (s.port.latched.inStep = true → t.port.latched.inStep = true)
      ∧ (s.port.latched.dispenserRefused = true → t.port.latched.dispenserRefused = true)
      ∧ (s.port.latched.portOverrun = true → t.port.latched.portOverrun = true)

/-! ### Resets -/

/-- Power-on reset brings every block's state to its reset value (R1, R2, R5, R29, R30, R57, R59, R74, R87, R89, R104,
R130, R131, R134, R137, R153, R158, R180, R193, R195); the RESET pin and the queue are not the hub's (log 10), and the
port has shown nothing before (log 7). -/
def Obligations.PowerOnValues : Prop :=
  ∀ s : State, ∃ t, exec .powerOnReset s = .next t ∧ t.resetLow = s.resetLow ∧ t.pending = s.pending
    ∧ (∀ p, t.wge.pairs.look p = ⟨8, 6, 20, .oneStep, 4⟩)
    ∧ (∀ h, settings h t = ⟨.disabled, 0, 65536, 0, .single 150000 50, 0, false, 0⟩)
    ∧ (∀ h, (chan h t).state = .idle ∧ (chan h t).window = [] ∧ (chan h t).history = [] ∧ (chan h t).railRun = 0
        ∧ (chan h t).clearRun = 0 ∧ (chan h t).zero = 0 ∧ (chan h t).manual = none ∧ (chan h t).offer = none
        ∧ (chan h t).lock = .armed ∧ (chan h t).last = none)
    ∧ (∀ h, ctx h t = ⟨none, none, none, none, false, none, .left 0, none, false, none, none⟩)
    ∧ (∀ n, signedOnAt n t = none)
    ∧ t.itb.items = [] ∧ t.itb.generation = 0
    ∧ (∀ h, copies h t = ⟨[], []⟩) ∧ t.ccu.armed = false
    ∧ t.snu = ⟨1, 99, 64, 1, [], t.snu.skipped, none, none, [], false⟩ ∧ (∀ h, t.snu.skipped.look h = false)
    ∧ (∀ k, ticket k t = ⟨0, .free, none, none, none, none, 0, [], 0, none⟩) ∧ t.tkp.collection = false
    ∧ (∀ p, queue p t = [] ∧ printer p t = ⟨.offline, 0, .ready, none, none, 0, none⟩)
    ∧ t.lbc.candidate = 0 ∧ t.lbc.date = none
    ∧ t.tot.grand = emptyAcc ∧ (∀ h, t.tot.heads.look h = emptyAcc) ∧ (∀ n, t.tot.operators.look n = emptyAcc)
    ∧ (∀ d, t.tot.departments.look d = emptyAcc)
    ∧ t.tot.day = .closed ∧ t.tot.cursor = none ∧ t.tot.drained = 0 ∧ t.tot.lastEntry = none ∧ t.tot.hold = none
    ∧ t.tot.holdSerial = 0
    ∧ t.lnk.frame = 0 ∧ (∀ i, t.lnk.mask.look i = true) ∧ t.lnk.pendingMask = none ∧ t.lnk.restart = false
    ∧ (∀ i, slotLink i t = ⟨.absent, 0, 0, 0⟩) ∧ (∀ h, headLink h t = ⟨none, none, false⟩)
    ∧ t.port.inProcess = none ∧ t.port.buffer = none ∧ t.port.serial = 0 ∧ anyLatched t.port.latched = false
    ∧ t.shown = []

/-- A hub reset by pin and by command (R207): every block takes its hub reset values, the heads' skipped marks among
them as R101 leaves them (R89); the pin's fall empties the response buffer and holds the hub, the command leaves its own
DONE response. That the pin's rise changes nothing more, with a pending mask left waiting and no frame-start signal
sent, is the model's choice (DEDUCED, log 11: R174, R193 and R207 start a frame at the rise), as are the parts handed on
(log 3), the bytes sent (logs 7, 12), the past views of the port (log 7) and the join wait and miss count 0 of a
masked-off slot (DEDUCED, log 47). -/
def Obligations.HubResetTakesEveryBlock : Prop :=
  (∀ s : State, ∃ t, exec .resetPinFall s = .next t ∧ HubResetValues s t ∧ t.port.buffer = none ∧ t.resetLow = true)
    ∧ (∀ (n : Byte) (s : State), Taking n .hubReset s →
        ∃ t, exec .hubReset s = .next t ∧ HubResetValues s t ∧ t.port.buffer = some ⟨.done, n, 0x51, .empty⟩)
    ∧ ∀ s : State, exec .resetPinRise s = .next
        { s with
          resetLow := false
          shown := if s.resetLow = true ∧ s.port.inProcess = none then portView s :: s.shown else s.shown }

/-! ### Host port -/

/-- A command transaction accepted (R196, R197): with RDY high at the fall of SEL and the bytes those of a well-formed
command, the port byte of the fall is sent, the buffer is emptied, the serial raised by 1 and the command is in process;
nothing else changes outside the port. That the fall of SEL is named by how many changes of the port's view lie between
it and the rise is the model's form (DESIGN CHOICE, log 7): `fallView 0` is what the port shows at the rise, and a
higher number a view that the port showed before. Among those views are some from before the RESET pin fell: that a
transaction which the pin touched, and which ends after its rise, is accepted by RDY at its fall, where R196 and R207
ignore transactions while the pin is low, is the model's choice (DESIGN CHOICE, unsafe, log 41). Which bytes are a
well-formed command's rests on the layouts that R208 leaves open, those of logs 19 and 20 (DESIGN CHOICE). The bits of
the port byte are those of section 10.6. -/
def Obligations.CommandTransactionAccepted : Prop :=
  (∀ (c : HostCmd) (ago : Nat) (s : State), s.resetLow = false → s.port.inProcess = none →
    (fallView ago s).rdy = true → c.wellFormed = true → (commandPayload c).length ≤ 1024 →
    exec (.commandTransaction ago (commandFrame c)) s = .next
      { s with
        sdo := portByte (fallView ago s) :: List.replicate ((commandPayload c).length + 2) 0
        shown := []
        port := { s.port with
          buffer := none, serial := s.port.serial + 1, inProcess := some ⟨s.port.serial + 1, c⟩ } })
    ∧ (∀ (s : State) (ago : Nat) (v : PortView),
      fallView 0 s = ⟨s.port.inProcess.isNone && !s.resetLow, s.port.buffer.isSome, attn s⟩
      ∧ (s.shown[ago]? = some v → fallView (ago + 1) s = v))
    ∧ ∀ (v : PortView) (k : Nat), (portByte v).getLsbD k =
      (match k with
        | 0 => v.rdy
        | 1 => v.held
        | 2 => v.attn
        | _ => false)

/-- Command transactions that start no command (R197, R198): a code outside the command set, length bytes missing, a
length above 1,024, a count of payload bytes other than the length gives, or payload bytes that are the fields of no
command of that code, places BAD_COMMAND with the command's serial, the code received and an empty payload, with RDY
high; one that begins while RDY is low sets PORT_OVERRUN and changes nothing else but the bytes sent meanwhile. The
bytes are the whole bytes of the transaction (DESIGN CHOICE, log 40), the fall of SEL is named as log 7 says (DESIGN
CHOICE), and the layouts that R208 leaves open are those of logs 19 and 20 (DESIGN CHOICE). That a transaction which the
RESET pin touched, and which ends after its rise, is judged by RDY at its fall, so refused BAD_COMMAND where the pin fell
within it and an overrun where RDY was low because of the pin, is the model's choice too (DESIGN CHOICE, unsafe, log 41:
R196 and R207 ignore transactions while the pin is low). -/
def Obligations.RefusedTransactionsAtThePort : Prop :=
  (∀ (code : Byte) (rest : List Byte) (ago : Nat) (s : State),
    s.resetLow = false → s.port.inProcess = none → (fallView ago s).rdy = true → code ≠ 0 →
    ((∀ c : HostCmd, commandCode c ≠ code) ∨ rest.length < 2
      ∨ 1024 < 256 * (rest.getD 0 0).toNat + (rest.getD 1 0).toNat
      ∨ rest.length ≠ 2 + (256 * (rest.getD 0 0).toNat + (rest.getD 1 0).toNat)
      ∨ ∀ c : HostCmd, c.wellFormed = true → commandCode c = code → commandPayload c ≠ rest.drop 2) →
    exec (.commandTransaction ago (code :: rest)) s = .next
      { s with
        sdo := portByte (fallView ago s) :: List.replicate rest.length 0
        shown := []
        port := { s.port with
          buffer := some ⟨.badCommand, s.port.serial + 1, code, .empty⟩, serial := s.port.serial + 1 } })
    ∧ (∀ (code : Byte) (rest : List Byte) (ago : Nat) (s : State),
    s.resetLow = false → code ≠ 0 → (fallView ago s).rdy = false →
    exec (.commandTransaction ago (code :: rest)) s = .next
      { s with
        sdo := portByte (fallView ago s) :: List.replicate rest.length 0
        shown := []
        port := { s.port with latched := { s.port.latched with portOverrun := true } } })

/-- A response transaction (R200): IN_USE with the serial and code in process while RDY is low, NOT_FOUND with code
0x00 on an empty buffer, the held response otherwise, 0x00 beyond the end, and nothing in the port changes. That the row
stands at the fall of SEL, where R200 judges the port's state, is the model's choice (DESIGN CHOICE, log 7), and the
payload bytes are those of log 19. -/
def Obligations.ResponseTransactionReadsBuffer : Prop :=
  ∀ (n : Nat) (s : State), s.resetLow = false → 0 < n →
    ∃ frame : List Byte,
      exec (.responseTransaction n) s = .next
        { s with sdo := frame.take n ++ List.replicate (n - frame.length) 0, shown := [] }
      ∧ (∀ p, s.port.inProcess = some p →
          frame = portByte (portView s) :: [0x07, p.serial, commandCode p.cmd, 0, 0])
      ∧ (s.port.inProcess = none → s.port.buffer = none →
          frame = portByte (portView s) :: [0x03, s.port.serial, 0, 0, 0])
      ∧ ∀ r, s.port.inProcess = none → s.port.buffer = some r →
          frame = portByte (portView s) :: ([statusByte r.status, r.serial, r.code]
            ++ beNat 2 (replyPayload r.reply).length ++ replyPayload r.reply)

/-- READ_STATUS (R206) answers the latched flags standing with the level flags and clears every latched flag and every
source; ATTN then follows the level flags alone (R205). -/
def Obligations.StatusReadClearsLatched : Prop :=
  ∀ (n : Byte) (s : State), Taking n .readStatus s →
    ∃ t, exec .readStatus s = .next t
      ∧ t = { s with shown := portView s :: s.shown, port := { s.port with
          inProcess := none, latched := noFlags
          buffer := some ⟨.done, n, 0x50, .status s.port.latched (ticketsToCollect s) (poolFullFlag s)⟩ } }
      ∧ attn t = (ticketsToCollect s || poolFullFlag s)

/-- Every command of the host is read back from its code and payload: decode of encode, for every operand its fields
can carry (R198, R208). The layout of the slot mask (log 19) and the form of a scale byte that names no scale type
(log 20) are the model's choices. -/
def Obligations.CommandPayloadRoundTrip : Prop :=
  ∀ c : HostCmd, c.wellFormed = true → readCommand (commandCode c) (commandPayload c) = some c

/-- Every reading command answers DONE with its record and changes nothing else (R28, R63, R88, R103, R126, R151,
R165, R168, R194), or is refused: BAD_VALUE for an index, number, name, page or option outside its range, NOT_FOUND for
a number without a record, a ticket record in FREE or under another serial, or an absent hold buffer (R54, R60, R121). -/
def Obligations.ReadingCommandsChangeNothing : Prop :=
  ∀ (n : Byte) (s : State),
    (∀ h : Head, Taking n (.readHead h.val) s → exec .readHead s = .next (answered n (.readHead h.val) .done
        (.head ⟨service h s, ctx h s, display h s, settings h s, pairSettings h s, (chan h s).state, (chan h s).zero,
          (chan h s).manual, (chan h s).offer, (chan h s).lock, (chan h s).window.length, (chan h s).history.length,
          (chan h s).last⟩) s))
    ∧ (Taking n (.readLink 0) s → exec .readLink s = .next (answered n (.readLink 0) .done
        (.link ⟨s.lnk.mask, s.lnk.pendingMask, s.lnk.restart, s.lnk.frame, s.lnk.slots, s.lnk.heads⟩) s))
    ∧ (∀ (k : Nat) (i : Item), Taking n (.findItem k) s → 1 ≤ k → k ≤ 999999 → findItem k s = some i →
        exec .findItem s = .next (answered n (.findItem k) .done (.item i s.itb.items.length s.itb.generation) s))
    ∧ (∀ h : Head, Taking n (.readCopies h.val) s → exec .readCopies s = .next (answered n (.readCopies h.val) .done
        (.copies ⟨(copies h s).entries, (copies h s).drops,
          (copies h s).entries.all (fun e => e.state == .current), s.ccu.armed⟩) s))
    ∧ (Taking n .readQueue s → ∃ serving, (∀ h : Head, serving.look h = (ctx h s).nowServing) ∧
        exec .readQueue s = .next (answered n .readQueue .done (.queue ⟨s.snu.low, s.snu.high, s.snu.capacity,
          s.snu.next, s.snu.waiting, serving, s.snu.skipped, s.snu.lastCalled, s.snu.counter⟩) s))
    ∧ (∀ (k : TicketSlot) (u : Byte), Taking n (.readTicket (k.val + 1) u.toNat) s → (ticket k s).state ≠ .free →
        (ticket k s).serial = u → exec .readTicket s = .next
          (answered n (.readTicket (k.val + 1) u.toNat) .done (.ticket (ticket k s)) s))
    ∧ (∀ p : Printer, Taking n (.readPrinter p.val) s → exec .readPrinter s = .next (answered n (.readPrinter p.val)
        .done (.printer ⟨printer p s, queue p s, s.lbc.candidate, s.lbc.date⟩) s))
    ∧ (∀ (k : Nat) (hold : Hold), Taking n (.readHold k) s → s.tot.hold = some hold →
        k < max 1 ((hold.entries.length + 15) / 16) →
        exec .readHold s = .next (answered n (.readHold k) .done (.page hold.serial hold.group
          (max 1 ((hold.entries.length + 15) / 16)) ((hold.entries.drop (16 * k)).take 16)) s))
    ∧ (∀ e : DrainEntry, Taking n (.readClosing 1) s → s.tot.day = .closing → s.tot.lastEntry = some e →
        exec .readClosing s = .next (answered n (.readClosing 1) .done (.drained e) s))
    ∧ ∀ k u : Nat,
      (Taking n (.readHead k) s → 8 ≤ k → exec .readHead s = .next (answered n (.readHead k) .badValue .empty s))
      ∧ (Taking n (.readLink k) s → 2 ≤ k → exec .readLink s = .next (answered n (.readLink k) .badValue .empty s))
      ∧ (Taking n (.findItem k) s → k = 0 ∨ 999999 < k →
        exec .findItem s = .next (answered n (.findItem k) .badValue .empty s))
      ∧ (Taking n (.findItem k) s → 1 ≤ k → k ≤ 999999 → findItem k s = none →
        exec .findItem s = .next (answered n (.findItem k) .notFound .empty s))
      ∧ (Taking n (.nextItem k) s → 999999 < k →
        exec .nextItem s = .next (answered n (.nextItem k) .badValue .empty s))
      ∧ (Taking n (.readCopies k) s → 8 ≤ k →
        exec .readCopies s = .next (answered n (.readCopies k) .badValue .empty s))
      ∧ (Taking n (.readTicket k u) s → k = 0 ∨ 48 < k ∨ 255 < u →
        exec .readTicket s = .next (answered n (.readTicket k u) .badValue .empty s))
      ∧ (∀ m : TicketSlot, Taking n (.readTicket k u) s → k = m.val + 1 → u ≤ 255 →
        (ticket m s).state = .free ∨ (ticket m s).serial.toNat ≠ u →
        exec .readTicket s = .next (answered n (.readTicket k u) .notFound .empty s))
      ∧ (Taking n (.readPrinter k) s → 2 ≤ k →
        exec .readPrinter s = .next (answered n (.readPrinter k) .badValue .empty s))
      ∧ (Taking n (.readHold k) s → s.tot.hold = none →
        exec .readHold s = .next (answered n (.readHold k) .notFound .empty s))
      ∧ ∀ hold : Hold, Taking n (.readHold k) s → s.tot.hold = some hold →
        max 1 ((hold.entries.length + 15) / 16) ≤ k →
        exec .readHold s = .next (answered n (.readHold k) .badValue .empty s)

/-- NEXT_ITEM n (R64): the record with the smallest item number greater than n, in either state; NOT_FOUND when there
is none; nothing changes. -/
def Obligations.NextItemWalksDirectory : Prop :=
  ∀ (n : Byte) (k : Nat) (s : State), Taking n (.nextItem k) s → k ≤ 999999 → Directory s →
    (∀ i ∈ s.itb.items, k < i.number → (∀ j ∈ s.itb.items, k < j.number → i.number ≤ j.number) →
        exec .nextItem s = .next (answered n (.nextItem k) .done (.item i s.itb.items.length s.itb.generation) s))
      ∧ ((∀ i ∈ s.itb.items, i.number ≤ k) →
        exec .nextItem s = .next (answered n (.nextItem k) .notFound .empty s))

/-- LIST_TICKETS (R125): one entry for each ticket in the selected state, or for all, in ascending slot order, with the
five counts; nothing changes. -/
def Obligations.ListTicketsBySelection : Prop :=
  ∀ (n : Byte) (k : Nat) (s : State), Taking n (.listTickets k) s →
    (∀ want : TicketState → Bool,
        ([(0, (· == TicketState.free)), (1, (· == .held)), (2, (· == .parked)), (3, (· == .closing)),
          (4, (· == .closed)), (5, fun _ => true)] : List (Nat × (TicketState → Bool))).lookup k = some want →
        exec .listTickets s = .next (answered n (.listTickets k) .done
          (.tickets (((List.finRange 48).filter fun t => want (ticket t s).state).map fun t =>
              ⟨t, (ticket t s).serial, (ticket t s).state, (ticket t s).service, (ticket t s).holder,
                (ticket t s).lines.length, (ticket t s).total⟩)
            ⟨countTickets .free s, countTickets .held s, countTickets .parked s, countTickets .closing s,
              countTickets .closed s⟩) s))
      ∧ (5 < k → exec .listTickets s = .next (answered n (.listTickets k) .badValue .empty s))

/-! ### Weighing -/

/-- Rounded half away (00_scope.md section 4.2): the result is within half a divisor, and a tie goes away from zero. -/
def Obligations.RoundsHalfAwayFromZero : Prop :=
  ∀ (num : Int) (den : Nat), 0 < den →
    2 * (num - roundAway num den * den).natAbs ≤ den
      ∧ (2 * (num - roundAway num den * den).natAbs = den → num.natAbs < (roundAway num den * den).natAbs)

/-- Rail samples and cell faults. A channel in IDLE discards its sample (R9); in SETTLING or ACTIVE a rail sample short
of the eighth adds 1 to the rail run, leaves window, history, zero count, tare and last result, and turns the verdict to
UNSTABLE; the eighth enters CELL_FAULT with clear run 0, latches CELL_FAULT with its head and cancels a pending request
with CELL (R10, R46). In CELL_FAULT a rail sample sets the clear run to 0, another short of the eighth adds 1, and the
eighth restarts the channel (R7, R11), which enters SETTLING with that sample first in its window. Each result clears
the auto-capture hold as R50 says and brings a pending request to its examination (R44). CHANNEL_SAMPLE performs
the eighth sample like any other. The model's own: what stands as the last result at a rail sample (DEDUCED, log 18),
that CELL_FAULT_ENTRY and CELL_FAULT_RECOVERY perform the eighth sample too, by themselves (DESIGN CHOICE, log 5), and
the order of a result's effects (DEDUCED, log 16). -/
def Obligations.RailSamplesFaultTheCell : Prop :=
  (∀ (h : Head) (raw : Int) (rest : List Int) (s : State), Sampled h raw rest s →
    ((chan h s).state = .idle → ∃ t, exec (.channelSample h) s = .next t
        ∧ SameBehind t (onInbox h (fun b => { b with samples := rest }) s))
    ∧ (∀ r : ChanResult, (chan h s).state = .settling ∨ (chan h s).state = .active →
        raw = -8388608 ∨ raw = 8388607 → (chan h s).railRun + 1 < 8 →
        r = (match (chan h s).last with
          | some l => { l with verdict := .notEligible .unstable }
          | none => blankResult (chan h s).state (.notEligible .unstable)) →
        ∃ t, exec (.channelSample h) s = .next t
          ∧ Examined h
            (onCtx h (fun c => { c with
                autoHold := c.autoHold && !(decide (r.state = .settling ∨ r.state = .idle)
                  || r.stable && r.gross.any fun g : Int => decide (g ≤ 10 * divSmall (settings h s).scale)) })
              (sampled h rest { chan h s with railRun := (chan h s).railRun + 1, verdict := .notEligible .unstable } s))
            t))
    ∧ (∀ (h : Head) (raw : Int) (rest : List Int) (s : State), s.resetLow = false →
    (inbox h s).samples = raw :: rest → (chan h s).state = .settling ∨ (chan h s).state = .active →
    raw = -8388608 ∨ raw = 8388607 → 8 ≤ (chan h s).railRun + 1 →
    ∃ t, exec (.cellFaultEntry h) s = .next t ∧ exec (.channelSample h) s = .next t
      ∧ SameBehind t
        (onCtx h (fun c =>
            match c.request with
            | none => c
            | some q => { c with
                request := none, autoHold := c.autoHold || q.origin == .auto, message := some ⟨.cell, 200⟩ })
          (flagCellFault h (sampled h rest
            { chan h s with
              state := .cellFault, railRun := 8, clearRun := 0, verdict := .notEligible .cell
              last := some (blankResult .cellFault (.notEligible .cell)) } s))))
    ∧ (∀ (h : Head) (raw : Int) (rest : List Int) (s : State), Sampled h raw rest s → (chan h s).state = .cellFault →
    (∀ run : Nat, (if raw = -8388608 ∨ raw = 8388607 then run = 0 else run = (chan h s).clearRun + 1) → run < 8 →
        ∃ t, exec (.channelSample h) s = .next t
          ∧ Examined h (sampled h rest
            { chan h s with
              clearRun := run, verdict := .notEligible .cell
              last := some (blankResult .cellFault (.notEligible .cell)) } s) t)
    ∧ (raw ≠ -8388608 → raw ≠ 8388607 → 8 ≤ (chan h s).clearRun + 1 → 2 ≤ (pairSettings h s).depth →
        ∃ t, exec (.cellFaultRecovery h) s = .next t ∧ exec (.channelSample h) s = .next t
          ∧ Examined h (onCtx h (fun c => { c with autoHold := false })
            (sampled h rest
              { chan h s with
                state := .settling, window := [raw], history := [], railRun := 0, clearRun := 0, lock := .armed
                last := some (blankResult .settling (.notEligible .unstable)), verdict := .notEligible .unstable } s))
            t))

/-- A non-rail sample that does not fill the filter window (R12): it joins the window, the channel is in SETTLING, and
the result has no weight and reason UNSTABLE; it clears the auto-capture hold (R50) and brings a pending request to its
examination (R44), in that order (DEDUCED, log 16). -/
def Obligations.ShortWindowStaysSettling : Prop :=
  ∀ (h : Head) (raw : Int) (rest : List Int) (s : State), Sampled h raw rest s →
    (chan h s).state = .settling ∨ (chan h s).state = .active → raw ≠ -8388608 → raw ≠ 8388607 →
    (chan h s).window.length + 1 < (pairSettings h s).depth →
    ∃ t, exec (.channelSample h) s = .next t
      ∧ Examined h (onCtx h (fun c => { c with autoHold := false })
        (sampled h rest
          { chan h s with
            state := .settling, window := (chan h s).window ++ [raw], railRun := 0
            last := some (blankResult .settling (.notEligible .unstable)), verdict := .notEligible .unstable } s)) t

/-- A sample that fills the window is processed in ACTIVE (R12 to R22): the window keeps the newest F samples, the
history the newest M grosses, the tare in force is the manual one or the offered preset tare rounded to d1 (R17), the
result is that of the average, Z moves by the tracking step kept within its limits, unless a capture request is pending
(R15, R16), ZERO_LIMIT is latched on a clamp, and the lock is armed by a stable gross of at most 10 d1. At the head
(R46, R50, R44): a newly set OVER cancels a pending request with OVER_CAP, a stable gross of at most 10 d1 clears the
auto-capture hold, and a request that was pending comes to its examination; where none was, and every condition of R50
holds, an automatic request is made, with its selection, and comes to its own. The order of these effects is the
model's reading (DEDUCED, log 16). -/
def Obligations.FullWindowGivesActiveResult : Prop :=
  ∀ (h : Head) (raw : Int) (rest : List Int) (s v : State) (window history : List Int) (avg gross step : Int)
    (stable loaded low : Bool) (tare : Option Tare) (zero : Int × Bool) (r : ChanResult) (auto : Option Item),
    Sampled h raw rest s → (chan h s).state = .settling ∨ (chan h s).state = .active →
    raw ≠ -8388608 → raw ≠ 8388607 → 0 < (pairSettings h s).window →
    window = ((chan h s).window ++ [raw]).drop ((chan h s).window.length + 1 - (pairSettings h s).depth) →
    (pairSettings h s).depth ≤ window.length →
    avg = (window.sum + ((pairSettings h s).depth / 2 : Nat)) / ((pairSettings h s).depth : Int) →
    gross = roundAway ((avg - (chan h s).zero) * (settings h s).span) 65536 →
    history = ((chan h s).history ++ [gross]).drop ((chan h s).history.length + 1 - (pairSettings h s).window) →
    (stable = true ↔ history.length = (pairSettings h s).window
      ∧ ∀ a ∈ history, ∀ b ∈ history, a - b ≤ divSmall (settings h s).scale) →
    tare = (match (chan h s).manual, (chan h s).offer with
      | some m, _ => some ⟨m, .manual⟩
      | none, some p =>
        if roundAway p (divSmall (settings h s).scale) * divSmall (settings h s).scale = 0 then none
        else some ⟨(roundAway p (divSmall (settings h s).scale) * divSmall (settings h s).scale).toNat, .preset⟩
      | none, none => none) →
    step = (match (pairSettings h s).mode with
      | .off => 0
      | .oneStep => (avg - (chan h s).zero).sign
      | .proportional =>
        if Int.tdiv ((avg - (chan h s).zero) * (pairSettings h s).gain) 16 = 0 then (avg - (chan h s).zero).sign
        else Int.tdiv ((avg - (chan h s).zero) * (pairSettings h s).gain) 16) →
    zero = (if stable = true ∧ tare = none ∧ (ctx h s).request = none ∧ (pairSettings h s).mode ≠ .off
        ∧ 2 * gross.natAbs ≤ divSmall (settings h s).scale
      then
        if (settings h s).z0 + (settings h s).zr < (chan h s).zero + step then
          ((settings h s).z0 + (settings h s).zr, true)
        else if (chan h s).zero + step < (settings h s).z0 - (settings h s).zr then
          ((settings h s).z0 - (settings h s).zr, true)
        else ((chan h s).zero + step, false)
      else ((chan h s).zero, false)) →
    r = activeResult (settings h s) (chan h s).lock stable tare gross →
    (loaded = true ↔ r.overFlag = true ∧ ∀ l, (chan h s).last = some l → ¬(l.state = .active ∧ l.overFlag = true)) →
    (low = true ↔ stable = true ∧ gross ≤ 10 * divSmall (settings h s).scale) →
    v = onCtx h (fun c => { c with
          request := if loaded then none else c.request
          message := if loaded && c.request.isSome then some ⟨.overCap, 200⟩ else c.message
          autoHold := (c.autoHold || loaded && c.request.any (·.origin == .auto)) && !low })
      ((if zero.2 then flagZeroLimit h else id) (sampled h rest
        { chan h s with
          state := .active, window := window, history := history, railRun := 0, zero := zero.1
          lock := if low then .armed else (chan h s).lock, last := some r, verdict := r.verdict } s)) →
    auto = (if (ctx h s).request = none ∧ r.verdict = .eligible ∧ role h s = .prepack ∧ (ctx h s).operator.isSome
        ∧ (ctx h s).held = none ∧ (ctx h s).batch ≠ .done ∧ (ctx h v).autoHold = false ∧ s.tot.day = .opened
      then ((ctx h s).selected.bind (findItem · s)).filter fun i => i.state == .active && i.mode == .weighed
      else none) →
    ∃ t, exec (.channelSample h) s = .next t
      ∧ (auto = none → Examined h v t)
      ∧ ∀ i, auto = some i → Examined h (selectItem h i (onCtx h (fun c =>
          { c with request := some ⟨i.number, i.index, .prepack, .auto, none, none, 0⟩ }) v)) t

/-- The result of an ACTIVE sample (R17, R18, R19, R20, R21): the net is the gross less the tare in force, the division
is d1 up to max1 and d_top above it, the shown weight is the net to the nearest division where neither OVER nor UNDER is
set, and the four indicators are as R19 sets them. The verdict is ELIGIBLE exactly when every condition of R21 holds;
otherwise it names the first failing one. -/
def Obligations.VerdictNamesFirstFailure : Prop :=
  ∀ (cfg : HeadSettings) (lock : Lock) (stable : Bool) (tare : Option Tare) (gross net : Int) (r : ChanResult)
    (d1 max1 dTop maxTop : Nat) (isHigh isLow heavy light : Prop),
    r = activeResult cfg lock stable tare gross →
    (d1, max1, dTop, maxTop) = (match cfg.scale with
      | .single max d => (d, max, d, max)
      | .dual max1 d1 max2 d2 => (d1, max1, d2, max2)) →
    net = (match tare with
      | some x => gross - x.value
      | none => gross) →
    (isHigh ↔ gross > maxTop + 9 * dTop) → (isLow ↔ gross < -(20 * d1 : Int)) →
    (heavy ↔ isHigh ∨ gross > maxTop) →
    (light ↔ isLow ∨ ∃ w, r.shown = some w ∧ w < 20 * d1) →
    r.state = .active ∧ r.gross = some gross ∧ r.tare = tare ∧ r.net = some net ∧ r.stable = stable
      ∧ r.division = some (if net ≤ max1 then d1 else dTop)
      ∧ (r.shown = none ↔ isHigh ∨ isLow)
      ∧ (∀ w d, r.shown = some w → r.division = some d → w = roundAway net d * d)
      ∧ (r.overFlag = true ↔ isHigh) ∧ (r.underFlag = true ↔ isLow) ∧ (r.zeroFlag = true ↔ 4 * gross.natAbs ≤ d1)
      ∧ (r.netFlag = true ↔ tare ≠ none)
      ∧ (r.verdict = .eligible ↔ stable = true ∧ ¬heavy ∧ ¬light ∧ lock = .armed)
      ∧ (stable = false → r.verdict = .notEligible .unstable)
      ∧ (stable = true → heavy → r.verdict = .notEligible .overCap)
      ∧ (stable = true → ¬heavy → light → r.verdict = .notEligible .belowMin)
      ∧ (stable = true → ¬heavy → ¬light → lock = .locked → r.verdict = .notEligible .locked)

/-- The amount of a capture (R27): NO_PRICE at price 0, AMOUNT_OVER above 9,999,999 mu, otherwise shown weight × price
/ 10,000 rounded half up, count × price, or the price. -/
def Obligations.AmountFollowsPriceFormula : Prop :=
  ∀ (mode : SaleMode) (price quantity a : Nat),
    a = (match mode with
      | .weighed => (2 * (quantity * price) + 10000) / 20000
      | .counted => quantity * price
      | .fixed => price) →
    (price = 0 → amountOf mode price quantity = .error .noPrice)
      ∧ (price ≠ 0 → 9999999 < a → amountOf mode price quantity = .error .amountOver)
      ∧ (price ≠ 0 → a ≤ 9999999 → amountOf mode price quantity = .ok a)

/-- The weighing keys at a SERVICE or PREPACK head in any service state (R24, R25, R26, R40): each case in its order,
with refusals set as messages. That they are judged on the channel's last result, on the window as it stands and on the
tare in force at the key is the model's reading (DEDUCED, log 17). -/
def Obligations.WeighingKeysActOnChannel : Prop :=
  ∀ (h : Head) (n : Nat) (rest : List KeyEvent) (s : State) (avg gross rounded : Int), role h s ≠ .disabled →
    avg = ((chan h s).window.sum + ((pairSettings h s).depth / 2 : Nat)) / ((pairSettings h s).depth : Int) →
    gross = ((chan h s).last.bind (·.gross)).getD 0 →
    rounded = roundAway gross (divSmall (settings h s).scale) * divSmall (settings h s).scale →
    (Keyed h ⟨.zero, n⟩ rest s → ∃ t, exec (.keyZero h) s = .next t
      ∧ SameBehind t
        (if (chan h s).state = .cellFault then setMessage h .cell (keyTaken h rest s)
        else if tareInForce (settings h s) (chan h s) ≠ none then setMessage h .tareActive (keyTaken h rest s)
        else if ¬((chan h s).state = .active ∧ (chan h s).last.any (·.stable) = true) then
          setMessage h .unstable (keyTaken h rest s)
        else if (settings h s).zr < (avg - (settings h s).z0).natAbs then
          setMessage h .zeroRange (keyTaken h rest s)
        else onChan h (fun c => { c with zero := avg, history := [] }) (keyTaken h rest s)))
    ∧ (Keyed h ⟨.tare, n⟩ rest s → ∃ t, exec (.keyTare h) s = .next t
      ∧ SameBehind t
        (if (chan h s).state = .cellFault then setMessage h .cell (keyTaken h rest s)
        else if ¬((chan h s).state = .active ∧ (chan h s).last.any (·.stable) = true) then
          setMessage h .unstable (keyTaken h rest s)
        else if 0 < gross ∧ (maxFirst (settings h s).scale : Int) < rounded then
          setMessage h .tareRange (keyTaken h rest s)
        else if 0 < gross ∧ rounded ≠ 0 then
          onChan h (fun c => { c with manual := some rounded.toNat }) (keyTaken h rest s)
        else onChan h (fun c => { c with manual := none }) (keyTaken h rest s)))
    ∧ (Keyed h ⟨.clearTare, n⟩ rest s → ∃ t, exec (.keyClearTare h) s = .next t
      ∧ SameBehind t (onChan h (fun c => { c with manual := none }) (keyTaken h rest s)))

/-! ### Keys -/

/-- The steps that every key passes (R33): discarded at a DISABLED head with nothing else changed; NO_OPERATOR at an
OFF head unless it is one of the five keys taken there; discarded without a message where it belongs to the other
role. -/
def Obligations.KeysPassTheGate : Prop :=
  ∀ (k : KeyKind) (h : Head) (n : Nat) (rest : List KeyEvent) (s : State), Keyed h ⟨k, n⟩ rest s →
    (role h s = .disabled →
        exec (keyRow k h) s = .next (onInbox h (fun b => { b with keys := rest }) s))
    ∧ (role h s ≠ .disabled → (ctx h s).operator = none → k ∉ [.signOn, .zero, .tare, .clearTare, .clear] →
        ∃ t, exec (keyRow k h) s = .next t ∧ SameBehind t (setMessage h .noOperator (keyTaken h rest s)))
    ∧ ((ctx h s).operator.isSome →
        (role h s = .prepack ∧ k ∈ [.next, .skip, .openKey, .park, .pick, .voidLast, .voidTicket, .total]
          ∨ role h s = .service ∧ k = .batch) →
        ∃ t, exec (keyRow k h) s = .next t ∧ SameBehind t (keyTaken h rest s))

/-- SIGN_ON n (R35): NO_OPERATOR outside 1 to 32; no change where n is signed on here; otherwise operator n is
signed on after the sign-off of the head where he stood, which shows PARKED if its ticket was parked, and then of this
head; that where both heads return a number, this head's stands in front of the other's, is the model's reading (DEDUCED,
log 21). SIGN_OFF (R36, R101, R111): the request removed, the held ticket parked, the now-serving number returned to the
front of the waiting list with its mark, the table entry emptied, and the whole context cleared. -/
def Obligations.SignOnAndSignOffKeys : Prop :=
  (∀ (h : Head) (n : Nat) (rest : List KeyEvent) (s u : State), Keyed h ⟨.signOn, n⟩ rest s → role h s ≠ .disabled →
    u = keyTaken h rest s →
    (n = 0 ∨ 32 < n → ∃ t, exec (.keySignOn h) s = .next t ∧ SameBehind t (setMessage h .noOperator u))
    ∧ ∀ op : Operator, n = op.val + 1 →
      (signedOnAt op s = some h → ∃ t, exec (.keySignOn h) s = .next t ∧ SameBehind t u)
      ∧ (signedOnAt op s = none → ∃ t, exec (.keySignOn h) s = .next t
        ∧ SameBehind t (onCtx h (fun c => { c with operator := some op }) (setSignOn op (some h) (signOff h u))))
      ∧ (∀ a : Head, a ≠ h → signedOnAt op s = some a → ∃ t, exec (.keySignOn h) s = .next t
        ∧ SameBehind t (onCtx h (fun c => { c with operator := some op }) (setSignOn op (some h)
          ((if (ctx a s).held = none then id else setMessage a .parked)
            (signOff h (signOff a u)))))))
    ∧ (∀ (h : Head) (n : Nat) (rest : List KeyEvent) (s u v : State) (op : Operator),
    Keyed h ⟨.signOff, n⟩ rest s → role h s ≠ .disabled → (ctx h s).operator = some op →
    u = (match (ctx h s).held with
      | some id => onTicket id.slot (fun k => { k with state := .parked, holder := none, idle := 0 })
          (keyTaken h rest s)
      | none => keyTaken h rest s) →
    v = (match (ctx h s).nowServing with
      | some m => onSnu (fun x =>
          { x with waiting := ⟨m, s.snu.skipped.look h⟩ :: s.snu.waiting, skipped := s.snu.skipped.put h false }) u
      | none => u) →
    ∃ t, exec (.keySignOff h) s = .next t
      ∧ SameBehind t (onCtx h (fun _ => offCtx) (setSignOn op none v)))

/-- ITEM n, and LABEL at a PREPACK head for its selected item, make a capture request (R42, R43) where no case of R42
applies: the context changes as its role says, the item is selected in the copy list (R76), and the request comes to its
first examination (R44), which leaves it waiting where the copy is not CURRENT. Otherwise the first case of R42 that
applies is shown: DAY_CLOSED, BUSY, NO_ITEM, WITHDRAWN, NOT_HELD, TICKET_FULL, BATCH_DONE; no request is made. LABEL at
a PREPACK head without a request shows DAY_CLOSED, NO_ITEM, WITHDRAWN or BATCH_DONE in the same order. The selection
(R76, R77, R87): an entry that stands moves to the front; a new one takes the lowest cache slot that no entry names,
or, in a full list, the slot of the least recent entry, which is evicted, whereupon the in-step watch is examined; the
slot taken is no longer owed a drop. -/
def Obligations.ItemKeyRequestsOrRefuses : Prop :=
  (∀ (h : Head) (n : Nat) (rest : List KeyEvent) (s u : State) (i : Item) (q : Request),
    (ctx h s).operator.isSome → s.tot.day = .opened → (ctx h s).request = none → findItem n s = some i →
    i.state = .active →
    (role h s = .service ∧ ((ctx h s).labelMark = true ∨ ∃ id, (ctx h s).held = some id
        ∧ (ticket id.slot s).lines.length < 24)
      ∨ role h s = .prepack ∧ (ctx h s).batch ≠ .done) →
    q = { number := n, index := i.index, origin := .key, waited := 0
          purpose := if role h s = .prepack then .prepack else if (ctx h s).labelMark then .label else .line
          count := if i.mode = .counted then (ctx h s).count else none
          ticket := if role h s = .service ∧ (ctx h s).labelMark = false then (ctx h s).held else none } →
    u = selectItem h i (onCtx h (fun c =>
          if role h s = .prepack then { c with request := some q, selected := some n, autoHold := false }
          else { c with request := some q, count := none, labelMark := false, autoHold := false })
        (keyTaken h rest s)) →
    (Keyed h ⟨.item, n⟩ rest s → ∃ t, exec (.keyItem h) s = .next t ∧ Examined h u t
        ∧ (copyCurrent h i.number s = false → SameBehind t u))
      ∧ (∀ m, Keyed h ⟨.label, m⟩ rest s → role h s = .prepack → (ctx h s).selected = some n →
        ∃ t, exec (.keyLabel h) s = .next t ∧ Examined h u t ∧ (copyCurrent h i.number s = false → SameBehind t u)))
    ∧ (∀ (h : Head) (n : Nat) (rest : List KeyEvent) (s : State) (code : Code), Keyed h ⟨.item, n⟩ rest s →
    role h s ≠ .disabled → (ctx h s).operator.isSome →
    (s.tot.day ≠ .opened ∧ code = .dayClosed
      ∨ s.tot.day = .opened ∧ ((ctx h s).request ≠ none ∧ code = .busy
        ∨ (ctx h s).request = none ∧ (findItem n s = none ∧ code = .noItem
          ∨ ∃ i, findItem n s = some i ∧ (i.state = .withdrawn ∧ code = .withdrawn
            ∨ i.state = .active ∧ role h s = .service ∧ (ctx h s).labelMark = false ∧ (ctx h s).held = none
              ∧ code = .notHeld
            ∨ (∃ id, i.state = .active ∧ role h s = .service ∧ (ctx h s).labelMark = false
              ∧ (ctx h s).held = some id ∧ 24 ≤ (ticket id.slot s).lines.length ∧ code = .ticketFull)
            ∨ i.state = .active ∧ role h s = .prepack ∧ (ctx h s).batch = .done ∧ code = .batchDone)))) →
    ∃ t, exec (.keyItem h) s = .next t ∧ SameBehind t (setMessage h code (keyTaken h rest s)))
    ∧ (∀ (h : Head) (n m : Nat) (rest : List KeyEvent) (s : State) (code : Code), Keyed h ⟨.label, m⟩ rest s →
    role h s = .prepack → (ctx h s).operator.isSome → (ctx h s).request = none → (ctx h s).selected = some n →
    (s.tot.day ≠ .opened ∧ code = .dayClosed
      ∨ s.tot.day = .opened ∧ (findItem n s = none ∧ code = .noItem
        ∨ ∃ i, findItem n s = some i ∧ (i.state = .withdrawn ∧ code = .withdrawn
          ∨ i.state = .active ∧ (ctx h s).batch = .done ∧ code = .batchDone))) →
    ∃ t, exec (.keyLabel h) s = .next t ∧ SameBehind t (setMessage h code (keyTaken h rest s)))
    ∧ ∀ (h : Head) (i : Item) (s : State) (new : CacheSlot → CopyEntry) (placed : CacheSlot → List CopyEntry → State),
    (∀ d, new d = ⟨d, i.index, i.number, i.version, .sending, none⟩) →
    (∀ d es, placed d es = onCopies h (fun c => ⟨new d :: es, c.drops.filter (· != d)⟩) s) →
    (∀ e, (copies h s).entries.find? (·.number == i.number) = some e → selectItem h i s = onCopies h (fun c =>
        ⟨e :: c.entries.filter (·.number != i.number), c.drops⟩) s)
    ∧ ((∀ e ∈ (copies h s).entries, e.number ≠ i.number) →
      (∀ d : CacheSlot, (copies h s).entries.length < 16 → (∀ e ∈ (copies h s).entries, e.slot ≠ d) →
        (∀ j < d, ∃ e ∈ (copies h s).entries, e.slot = j) → selectItem h i s = placed d (copies h s).entries)
      ∧ ∀ (kept : List CopyEntry) (last : CopyEntry), 16 ≤ (copies h s).entries.length →
        (copies h s).entries = kept ++ [last] →
        ((s.ccu.armed = true ∧ ∀ g, onLink (headSlot g) s = true →
            ∀ x ∈ (copies g (placed last.slot kept)).entries, x.state = .current) →
          selectItem h i s = flagInStep { placed last.slot kept with
            ccu := { (placed last.slot kept).ccu with armed := false } })
        ∧ (¬(s.ccu.armed = true ∧ ∀ g, onLink (headSlot g) s = true →
            ∀ x ∈ (copies g (placed last.slot kept)).entries, x.state = .current) →
          selectItem h i s = placed last.slot kept))

/-- COUNT, CLEAR, LABEL and BATCH (R41, R43, R49): what each sets and clears in the context, and its refusals. That LABEL
at a PREPACK head is refused BUSY before anything else (DEDUCED, log 22), and that COUNT takes the sale mode of a pending
request from the table's record (DEDUCED, log 29), are the model's readings. -/
def Obligations.CountClearLabelBatchKeys : Prop :=
  ∀ (h : Head) (n : Nat) (rest : List KeyEvent) (s u : State), u = keyTaken h rest s →
    (Keyed h ⟨.count, n⟩ rest s → role h s ≠ .disabled → (ctx h s).operator.isSome →
      ∃ t, exec (.keyCount h) s = .next t
        ∧ SameBehind t (if 999 < n then setMessage h .overCap u
          else onCtx h (fun c =>
            if n = 0 then { c with count := none }
            else if (c.request.bind fun q => findItem q.number s).any (fun i => i.mode == .counted) then
              { c with request := c.request.map fun q => { q with count := some n } }
            else { c with count := some n }) u))
    ∧ (Keyed h ⟨.clear, n⟩ rest s → role h s ≠ .disabled →
      ∃ t, exec (.keyClear h) s = .next t
        ∧ SameBehind t (onCtx h (fun c =>
          { c with
            request := none, labelMark := false, count := none
            autoHold := c.autoHold || c.request.any (fun q => q.origin == .auto) }) u))
    ∧ (Keyed h ⟨.label, n⟩ rest s → role h s = .service → (ctx h s).operator.isSome →
      ∃ t, exec (.keyLabel h) s = .next t
        ∧ SameBehind t (if (ctx h s).request.isSome ∨ (ctx h s).held.isSome then setMessage h .busy u
          else onCtx h (fun c => { c with labelMark := true, autoHold := false }) u))
    ∧ (Keyed h ⟨.label, n⟩ rest s → role h s = .prepack → (ctx h s).operator.isSome →
      ((ctx h s).request.isSome ∨ (ctx h s).selected = none) →
      ∃ t, exec (.keyLabel h) s = .next t
        ∧ SameBehind t (setMessage h (if (ctx h s).request.isSome then .busy else .noItem) u))
    ∧ (Keyed h ⟨.batch, n⟩ rest s → role h s = .prepack → (ctx h s).operator.isSome →
      ∃ t, exec (.keyBatch h) s = .next t
        ∧ SameBehind t (if 999 < n then setMessage h .overCap u
          else onCtx h (fun c => { c with batch := .left n, autoHold := false }) u))

/-- NEXT and SKIP at a SERVICE head (R34, R37, R97, R98), every case. -/
def Obligations.NextAndSkipMoveNumbers : Prop :=
  ∀ (h : Head) (n : Nat) (rest : List KeyEvent) (s u : State), u = keyTaken h rest s → role h s = .service →
    (ctx h s).operator.isSome →
    (Keyed h ⟨.next, n⟩ rest s → ∃ t, exec (.keyNext h) s = .next t
      ∧ SameBehind t
        (if (ctx h s).held.isSome ∨ (ctx h s).nowServing.isSome then setMessage h .busy u
        else if s.tot.day ≠ .opened then setMessage h .dayClosed u
        else match s.snu.waiting with
          | [] => setMessage h .queueEmpty u
          | e :: behindIt =>
            onCtx h (fun c => { c with nowServing := some e.number })
              (onSnu (fun x => { x with
                waiting := behindIt, lastCalled := some e.number, skipped := x.skipped.put h e.skipped }) u)))
    ∧ (Keyed h ⟨.skip, n⟩ rest s → ∃ t, exec (.keySkip h) s = .next t
      ∧ SameBehind t
        (if (ctx h s).held.isSome then setMessage h .busy u
        else match (ctx h s).nowServing with
          | none => setMessage h .notFound u
          | some m =>
            onCtx h (fun c => { c with nowServing := none })
              (onSnu (fun x => { x with
                waiting := if s.snu.skipped.look h then x.waiting else x.waiting ++ [⟨m, true⟩]
                skipped := x.skipped.put h false }) u)))

/-- OPEN at a SERVICE head (R37, R99, R107, R91), every case: the ticket is the FREE record with the lowest slot, under
a use serial raised by 1, with the now-serving number or one issued for it; a number issued for a pool with no FREE
record is passed over. -/
def Obligations.OpenKeyOpensTicket : Prop :=
  ∀ (h : Head) (n : Nat) (rest : List KeyEvent) (s u : State) (op : Operator) (opened : Nat → State → State),
    u = keyTaken h rest s → Keyed h ⟨.openKey, n⟩ rest s → role h s = .service → (ctx h s).operator = some op →
    (∀ m x, opened m x = match (List.finRange 48).find? fun t => (ticket t s).state == .free with
      | none => setMessage h .poolFull x
      | some t =>
        onCtx h (fun c => { c with
            nowServing := none, held := some ⟨t, (ticket t s).serial + 1⟩, labelMark := false })
          (onSnu (fun y => { y with skipped := y.skipped.put h false })
            (onTicket t (fun k => ⟨k.serial + 1, .held, some m, some h, some h, some op, 0, [], 0, none⟩) x))) →
    ∃ t, exec (.keyOpen h) s = .next t
      ∧ SameBehind t
        (if (ctx h s).held.isSome then setMessage h .busy u
        else if s.tot.day ≠ .opened then setMessage h .dayClosed u
        else match (ctx h s).nowServing with
          | some m => opened m u
          | none =>
            if s.snu.next ∈ numbersInPlay s then setMessage h .queueBlocked u
            else opened s.snu.next (onSnu (fun y => { y with next := if y.next = y.high then y.low else y.next + 1 }) u))

/-- PARK and PICK n at a SERVICE head (R34, R38, R110, R115), every case. -/
def Obligations.ParkAndPickHandTickets : Prop :=
  ∀ (h : Head) (n : Nat) (rest : List KeyEvent) (s u : State), u = keyTaken h rest s → role h s = .service →
    (ctx h s).operator.isSome →
    (Keyed h ⟨.park, n⟩ rest s → ∃ t, exec (.keyPark h) s = .next t
      ∧ SameBehind t (match (ctx h s).held with
        | none => setMessage h .notHeld u
        | some id => onCtx h (leaving id)
            (onTicket id.slot (fun k => { k with state := .parked, holder := none, idle := 0 }) u)))
    ∧ (Keyed h ⟨.pick, n⟩ rest s → ∃ t, exec (.keyPick h) s = .next t
      ∧ SameBehind t
        (if (ctx h s).held.isSome ∨ (ctx h s).nowServing.isSome then setMessage h .busy u
        else match (List.finRange 48).find? fun t => openTicket (ticket t s) && (ticket t s).service == some n with
          | none => setMessage h .notFound u
          | some k =>
            if (ticket k s).state = .parked then
              onCtx h (fun c => { c with held := some ⟨k, (ticket k s).serial⟩, labelMark := false })
                (onTicket k (fun x => { x with state := .held, holder := some h, idle := 0 }) u)
            else setMessage h .inUse u))

/-- VOID_LAST and VOID_TICKET at a SERVICE head (R38, R39, R109, R117, R118), every case: the fold of each line as a
void, then its reference released with the purge check. That the FREE record holds an idle count of 0 is the model's
choice (DESIGN CHOICE, log 43). -/
def Obligations.VoidKeysFoldAndRelease : Prop :=
  ∀ (h : Head) (n : Nat) (rest : List KeyEvent) (s u : State), u = keyTaken h rest s → role h s = .service →
    (ctx h s).operator.isSome →
    (Keyed h ⟨.voidLast, n⟩ rest s → ∃ t, exec (.keyVoidLast h) s = .next t
      ∧ SameBehind t (match (ctx h s).held with
        | none => setMessage h .notHeld u
        | some id =>
          match (ticket id.slot s).lines.getLast? with
          | none => setMessage h .emptyTicket u
          | some l =>
            if (ctx h s).lastLine ≠ some ⟨id, l.position⟩ then setMessage h .notFound u
            else
              onCtx h (fun c => { c with lastLine := none })
                (purgeCheck l.index (onItemAt l.index (fun i => { i with refs := i.refs - 1 })
                  (onTicket id.slot (fun k => { k with lines := k.lines.dropLast, total := k.total - l.amount })
                    (foldInto (foldVoid l.amount) ⟨l.head, l.operator, l.dept, l.index⟩ u))))))
    ∧ (Keyed h ⟨.voidTicket, n⟩ rest s → ∃ t, exec (.keyVoidTicket h) s = .next t
      ∧ SameBehind t (match (ctx h s).held with
        | none => setMessage h .notHeld u
        | some id => onCtx h (leaving id) (onTicket id.slot (fun k => freeTicket k.serial)
            ((ticket id.slot s).lines.foldl (fun x l =>
              purgeCheck l.index (onItemAt l.index (fun i => { i with refs := i.refs - 1 })
                (foldInto (foldVoid l.amount) ⟨l.head, l.operator, l.dept, l.index⟩ x)))
              (onTicket id.slot (fun k => { k with holder := none }) u)))))

/-- TOTAL at a SERVICE head (R38, R119), every case: the ticket becomes CLOSING without holder, each line is folded as
a sale and released, the summary job is queued under a tag not in use and recorded, and the head leaves the ticket,
with PRINTER_DOWN where the printer is OFFLINE or STOPPED. -/
def Obligations.TotalKeyClosesTicket : Prop :=
  ∀ (h : Head) (n : Nat) (rest : List KeyEvent) (s u walked : State) (id : TicketId) (p : Printer)
    (summary : SummaryLabel),
    u = keyTaken h rest s → Keyed h ⟨.total, n⟩ rest s → role h s = .service → (ctx h s).operator.isSome →
    p = (settings h s).printer →
    summary = { ticket := ⟨id.slot, (ticket id.slot s).serial⟩, service := (ticket id.slot s).service.getD 0,
                lines := (ticket id.slot s).lines.length, total := (ticket id.slot s).total
                barcode := summaryBarcode ((ticket id.slot s).service.getD 0) id.slot (ticket id.slot s).total } →
    walked = (ticket id.slot s).lines.foldl (fun x l =>
        purgeCheck l.index (onItemAt l.index (fun i => { i with refs := i.refs - 1 })
          (foldInto (foldSale l.mode l.quantity l.amount) ⟨l.head, l.operator, l.dept, l.index⟩ x)))
      (onTicket id.slot (fun k => { k with state := .closing, holder := none }) u) →
    ((ctx h s).held = none → ∃ t, exec (.keyTotal h) s = .next t ∧ SameBehind t (setMessage h .notHeld u))
      ∧ ((ctx h s).held = some id → ∃ t, exec (.keyTotal h) s = .next t
        ∧ SameBehind t
          (if (ticket id.slot s).lines = [] then setMessage h .emptyTicket u
          else if 16 ≤ (queue p s).length then setMessage h .printerBusy u
          else
            (if printerDown p s then setMessage h .printerDown else fun x => x) (onCtx h (leaving id)
              (onTicket id.slot (fun k => { k with job := some ⟨p, freshTag walked⟩ })
                (queueJob p (some h) 1 (.summary summary) walked)))))

/-! ### Frame starts at the heads, and captures -/

/-- The frame start of the Head Service Unit (R46, R50, R53), taken when a signal waits: at each head a request is
refused WITHDRAWN, DAY_CLOSED, or at its 300th frame UNSTABLE or COPY_WAIT, or waits one frame more; a selected item
that is gone is dropped with WITHDRAWN; a message counts down and ends at 0. CAPTURE_TIMEOUT and MESSAGE_EXPIRY perform
those parts at one head. The model's own: the order of the three at a head, by which a message that the frame start sets
has 199 frames left after it (DEDUCED, log 15), and that the two rows perform their part by themselves (DESIGN CHOICE,
log 5). -/
def Obligations.FrameStartCountsAtHeads : Prop :=
  ∀ (s : State) (ends : Head → Option Code), s.resetLow = false → 0 < s.hand.hsu →
    (∀ h, ends h = (ctx h s).request.bind fun q =>
      if activeItem q.number s = false then some .withdrawn
      else if s.tot.day ≠ .opened then some .dayClosed
      else if 300 ≤ q.waited + 1 then some (if copyCurrent h q.number s then .unstable else .copyWait)
      else none) →
    (∃ t, exec .headServiceFrameStart s = .next t ∧ t.hand.hsu + 1 = s.hand.hsu
      ∧ SameBehind t { s with hsu := { s.hsu with heads := t.hsu.heads }, hand := { s.hand with hsu := t.hand.hsu } }
      ∧ ∀ h, ctx h t = { ctx h s with
          request := if (ends h).isSome then none
            else (ctx h s).request.map fun q => { q with waited := q.waited + 1 }
          autoHold := (ctx h s).autoHold || ((ends h).isSome && (ctx h s).request.any (·.origin == .auto))
          selected := (ctx h s).selected.filter fun n => activeItem n s
          message :=
            if (ctx h s).selected.any (fun n => !activeItem n s) then some ⟨.withdrawn, 199⟩
            else match ends h with
              | some code => some ⟨code, 199⟩
              | none => (ctx h s).message.bind fun m =>
                if m.frames ≤ 1 then none else some ⟨m.code, m.frames - 1⟩ })
    ∧ (∀ (h : Head) (q : Request), (ctx h s).request = some q → activeItem q.number s = true →
        s.tot.day = .opened → 300 ≤ q.waited + 1 →
        ∃ t, exec (.captureTimeout h) s = .next t ∧ SameBehind t (onCtx h (fun c =>
          { c with
            request := none, autoHold := c.autoHold || q.origin == .auto
            message := some ⟨if copyCurrent h q.number s then .unstable else .copyWait, 200⟩ }) s))
    ∧ ∀ (h : Head) (m : Message), (ctx h s).message = some m → m.frames ≤ 1 →
        ∃ t, exec (.messageExpiry h) s = .next t ∧ SameBehind t (onCtx h (fun c => { c with message := none }) s)

/-- A LINE capture completes (R44, R45, R47, R108) when the copy is CURRENT, the verdict of a WEIGHED item is ELIGIBLE,
the amount has a value, the ticket has room for the line and the amount, and a needed label has room: the lock of a
weighed capture, the line with its values, the reference, the last line reference, the label with PRINTER_DOWN where
the printer is down, and the request removed. It waits, with nothing changed, while the copy is not CURRENT or the
verdict not ELIGIBLE. It is refused by the first check of R45 that fails, NO_PRICE or AMOUNT_OVER, TICKET_LIMIT,
PRINTER_BUSY: the request is removed, one of origin AUTO sets the auto-capture hold, the code is the message, and
nothing else changes. The model's own: that the row is the examination, which completes, waits or refuses (DEDUCED, log
36), and that the verdict inside the last result stays that of its sample at a lock (DEDUCED, log 42). -/
def Obligations.LineCaptureAppendsLine : Prop :=
  (∀ (h : Head) (s u v : State) (q : Request) (id : TicketId) (op : Operator) (e : CopyEntry) (i : Item)
    (quantity amount : Nat) (tare : Option Tare) (line : Line) (label : ItemLabel) (p : Printer),
    s.resetLow = false → (ctx h s).request = some q → q.purpose = .line → q.ticket = some id →
    (ctx h s).operator = some op → entryOf q.number (copies h s) = some e → e.state = .current →
    itemAt e.index s = some i → (i.mode = .weighed → (chan h s).verdict = .eligible) →
    quantity = (match i.mode with
      | .weighed => (((chan h s).last.bind (·.shown)).getD 0).toNat
      | .counted => q.count.getD 1
      | .fixed => 1) →
    tare = (if i.mode = .weighed then (chan h s).last.bind (·.tare) else none) →
    amountOf i.mode i.price quantity = .ok amount →
    (ticket id.slot s).state = .held → (ticket id.slot s).serial = id.serial →
    (ticket id.slot s).lines.length < 24 → (ticket id.slot s).total + amount ≤ 99999999 →
    p = (settings h s).printer → ((settings h s).lineLabels = true → (queue p s).length < 16) →
    line = ⟨(ticket id.slot s).lines.length + 1, i.number, i.index, i.dept, i.mode, quantity, tare, i.price, amount,
      i.version, s.itb.generation, h, op⟩ →
    label = ⟨i.number, i.name, i.mode, quantity, i.price, amount, i.version, s.lbc.date,
      sellByOf s.lbc.date i.shelf, itemBarcode i.format i.number amount, i.format⟩ →
    u = (if i.mode = .weighed then
        onChan h (fun c => { c with lock := .locked, verdict := .notEligible .locked }) s else s) →
    v = onCtx h (fun c => { c with lastLine := some ⟨id, line.position⟩ })
      (onItemAt i.index (fun r => { r with refs := r.refs + 1 })
        (onTicket id.slot (fun k => { k with lines := k.lines ++ [line], total := k.total + amount, idle := 0 }) u)) →
    ∃ t, exec (.captureLineComplete h) s = .next t
      ∧ SameBehind t (onCtx h (fun c => { c with request := none })
        (if (settings h s).lineLabels then
          (if printerDown p s then setMessage h .printerDown else fun x => x) (queueJob p (some h) 1 (.item label) v)
        else v)))
    ∧ ∀ (h : Head) (s : State) (q : Request) (id : TicketId) (op : Operator), s.resetLow = false →
    (ctx h s).request = some q → q.purpose = .line → q.ticket = some id → (ctx h s).operator = some op →
    (copyCurrent h q.number s = false → exec (.captureLineComplete h) s = .next s)
    ∧ ∀ (e : CopyEntry) (i : Item) (quantity : Nat) (code : Code), entryOf q.number (copies h s) = some e →
      e.state = .current → itemAt e.index s = some i →
      (i.mode = .weighed → (chan h s).verdict ≠ .eligible → exec (.captureLineComplete h) s = .next s)
      ∧ ((i.mode = .weighed → (chan h s).verdict = .eligible) → quantity = (match i.mode with
        | .weighed => (((chan h s).last.bind (·.shown)).getD 0).toNat
        | .counted => q.count.getD 1
        | .fixed => 1) →
        (amountOf i.mode i.price quantity = .error code
          ∨ ∃ amount, amountOf i.mode i.price quantity = .ok amount ∧ (ticket id.slot s).state = .held
            ∧ (ticket id.slot s).serial = id.serial ∧ (ticket id.slot s).lines.length < 24
            ∧ (99999999 < (ticket id.slot s).total + amount ∧ code = .ticketLimit
              ∨ (ticket id.slot s).total + amount ≤ 99999999 ∧ (settings h s).lineLabels = true
                ∧ 16 ≤ (queue (settings h s).printer s).length ∧ code = .printerBusy)) →
        ∃ t, exec (.captureLineComplete h) s = .next t ∧ SameBehind t (onCtx h (fun c => { c with
          request := none, autoHold := c.autoHold || q.origin == .auto, message := some ⟨code, 200⟩ }) s))

/-- A LABEL or PREPACK capture completes (R44, R45, R48): the lock of a weighed capture, the PREPACK job with the
values of its fold, PRINTER_DOWN where the printer is down, the batch of a PREPACK capture lowered with BATCH_DONE at
0, and the request removed; no ticket and no reference count is touched. It waits, with nothing changed, while the copy
is not CURRENT or the verdict not ELIGIBLE. It is refused NO_PRICE, AMOUNT_OVER or PRINTER_BUSY (R45): the request is
removed, one of origin AUTO sets the auto-capture hold, the code is the message, and nothing else changes. The model's
own: that the row is the examination, which completes, waits or refuses (DEDUCED, log 36), and that the verdict inside
the last result stays that of its sample at a lock (DEDUCED, log 42). -/
def Obligations.LabelCaptureQueuesPack : Prop :=
  (∀ (h : Head) (s u v : State) (q : Request) (op : Operator) (e : CopyEntry) (i : Item)
    (quantity amount : Nat) (label : ItemLabel) (p : Printer),
    s.resetLow = false → (ctx h s).request = some q → q.purpose = .label ∨ q.purpose = .prepack →
    (ctx h s).operator = some op → entryOf q.number (copies h s) = some e → e.state = .current →
    itemAt e.index s = some i → (i.mode = .weighed → (chan h s).verdict = .eligible) →
    quantity = (match i.mode with
      | .weighed => (((chan h s).last.bind (·.shown)).getD 0).toNat
      | .counted => q.count.getD 1
      | .fixed => 1) →
    amountOf i.mode i.price quantity = .ok amount →
    p = (settings h s).printer → (queue p s).length < 16 →
    label = ⟨i.number, i.name, i.mode, quantity, i.price, amount, i.version, s.lbc.date,
      sellByOf s.lbc.date i.shelf, itemBarcode i.format i.number amount, i.format⟩ →
    u = (if i.mode = .weighed then
        onChan h (fun c => { c with lock := .locked, verdict := .notEligible .locked }) s else s) →
    v = (if printerDown p s then setMessage h .printerDown else fun x => x)
      (queueJob p (some h) 1 (.prepack label ⟨h, op, i.dept, i.index, s.itb.generation⟩) u) →
    ∃ t, exec (.captureLabelComplete h) s = .next t
      ∧ SameBehind t (onCtx h (fun c =>
          match q.purpose, c.batch with
          | .prepack, .left 1 => { c with request := none, batch := .done, message := some ⟨.batchDone, 200⟩ }
          | .prepack, .left (k + 2) => { c with request := none, batch := .left (k + 1) }
          | _, _ => { c with request := none }) v))
    ∧ ∀ (h : Head) (s : State) (q : Request) (op : Operator), s.resetLow = false →
    (ctx h s).request = some q → q.purpose = .label ∨ q.purpose = .prepack → (ctx h s).operator = some op →
    (copyCurrent h q.number s = false → exec (.captureLabelComplete h) s = .next s)
    ∧ ∀ (e : CopyEntry) (i : Item) (quantity : Nat) (code : Code), entryOf q.number (copies h s) = some e →
      e.state = .current → itemAt e.index s = some i →
      (i.mode = .weighed → (chan h s).verdict ≠ .eligible → exec (.captureLabelComplete h) s = .next s)
      ∧ ((i.mode = .weighed → (chan h s).verdict = .eligible) → quantity = (match i.mode with
        | .weighed => (((chan h s).last.bind (·.shown)).getD 0).toNat
        | .counted => q.count.getD 1
        | .fixed => 1) →
        (amountOf i.mode i.price quantity = .error code
          ∨ ∃ amount, amountOf i.mode i.price quantity = .ok amount
            ∧ 16 ≤ (queue (settings h s).printer s).length ∧ code = .printerBusy) →
        ∃ t, exec (.captureLabelComplete h) s = .next t ∧ SameBehind t (onCtx h (fun c => { c with
          request := none, autoHold := c.autoHold || q.origin == .auto, message := some ⟨code, 200⟩ }) s))

/-! ### Item table -/

/-- ADD_ITEM (R55, R56, R57, R60, R61): BAD_VALUE for a field outside its range, UPDATE_ITEM too, or a price above
999,999, EXISTS, FULL, or the record at the lowest free index, with version 0, no pending price, no reference and an
empty accumulator, in the directory beside the records that stood; no other block changes. The fields are good exactly
within the ranges of R55; that preset tare and shelf days alone of the carried fields can be absent is log 19. -/
def Obligations.AddItemPlacesRecord : Prop :=
  (∀ (n : Byte) (f : RawItem) (price : Nat) (s : State) (g : ItemFields), Taking n (.addItem f price) s →
    itemFieldsOf f = some g →
    (999999 < price → exec .addItem s = .next (answered n (.addItem f price) .badValue .empty s))
      ∧ (price ≤ 999999 → findItem f.number s ≠ none →
        exec .addItem s = .next (answered n (.addItem f price) .existsAlready .empty s))
      ∧ (price ≤ 999999 → findItem f.number s = none → (∀ k < 1024, ∃ i ∈ s.itb.items, i.index = k) →
        exec .addItem s = .next (answered n (.addItem f price) .full .empty s))
      ∧ ∀ k < 1024, price ≤ 999999 → findItem f.number s = none → (∀ i ∈ s.itb.items, i.index ≠ k) →
        (∀ j < k, ∃ i ∈ s.itb.items, i.index = j) →
        ∃ t, exec .addItem s = .next t
          ∧ SameBehind t (answered n (.addItem f price) .done (.added k)
            { s with itb := { s.itb with items := t.itb.items } })
          ∧ findItem f.number t = some ⟨f.number, k, f.name, g.mode, price, none, f.preset, f.shelf, g.dept, g.format,
            .active, 0, 0, emptyAcc⟩
          ∧ (∀ m, m ≠ f.number → findItem m t = findItem m s)
          ∧ t.itb.items.length = s.itb.items.length + 1)
    ∧ (∀ (f : RawItem) (g : ItemFields), itemFieldsOf f = some g ↔
      g.number = f.number ∧ 1 ≤ f.number ∧ f.number ≤ 999999
      ∧ g.name = f.name ∧ 1 ≤ f.name.length ∧ f.name.length ≤ 24 ∧ (∀ c ∈ f.name, 32 ≤ c.toNat ∧ c.toNat ≤ 126)
      ∧ (g.mode, f.mode) ∈ [(SaleMode.weighed, 0), (.counted, 1), (.fixed, 2)]
      ∧ g.preset = f.preset ∧ (∀ x, f.preset = some x → 1 ≤ x ∧ x ≤ 10000)
      ∧ g.shelf = f.shelf ∧ (∀ x, f.shelf = some x → x ≤ 365) ∧ g.dept.val = f.dept ∧ g.format.val = f.format)
    ∧ ∀ (n : Byte) (f : RawItem) (price : Nat) (s : State), itemFieldsOf f = none →
      (Taking n (.addItem f price) s → exec .addItem s = .next (answered n (.addItem f price) .badValue .empty s))
      ∧ (Taking n (.updateItem f) s → exec .updateItem s = .next (answered n (.updateItem f) .badValue .empty s))

/-- UPDATE_ITEM and REINSTATE_ITEM (R58, R60, R62, R70, R81): NOT_FOUND for a number without a record, BAD_VALUE for
one outside its range, WRONG_STATE where the record is ACTIVE already; otherwise the record's fields, its version
raised by 1, and every copy entry of its record index STALE without a push age; a changed preset tare renews the offer
where the item is in hand (R51). -/
def Obligations.UpdateAndReinstateStaleCopies : Prop :=
  (∀ (n : Byte) (k : Nat) (s : State) (f : RawItem) (g : ItemFields),
    (Taking n (.updateItem f) s → itemFieldsOf f = some g → findItem f.number s = none →
      exec .updateItem s = .next (answered n (.updateItem f) .notFound .empty s))
    ∧ (Taking n (.reinstateItem k) s → k = 0 ∨ 999999 < k →
      exec .reinstateItem s = .next (answered n (.reinstateItem k) .badValue .empty s))
    ∧ (Taking n (.reinstateItem k) s → 1 ≤ k → k ≤ 999999 → findItem k s = none →
      exec .reinstateItem s = .next (answered n (.reinstateItem k) .notFound .empty s)))
    ∧ ∀ (n : Byte) (s u : State) (i : Item) (k : Nat) (f : RawItem) (g : ItemFields),
    findItem k s = some i → 1 ≤ k → k ≤ 999999 →
    (∀ h, copies h u = { copies h s with entries := (copies h s).entries.map fun e =>
      if e.index = i.index then { e with state := .stale, age := none } else e }) →
    u = { s with ccu := { s.ccu with lists := u.ccu.lists } } →
    (Taking n (.updateItem f) s → itemFieldsOf f = some g → f.number = k →
      ∃ t, exec .updateItem s = .next t
        ∧ SameBehind t (answered n (.updateItem f) .done (.updated (i.version + 1))
          (onItemNumber k (fun r => { r with
            name := f.name, mode := g.mode, preset := f.preset, shelf := f.shelf, dept := g.dept, format := g.format
            version := r.version + 1 }) u))
        ∧ ∀ h, i.preset ≠ f.preset → itemInHand h t = some k → (chan h t).offer = f.preset)
    ∧ (Taking n (.reinstateItem k) s → i.state = .active →
        exec .reinstateItem s = .next (answered n (.reinstateItem k) .wrongState .empty s))
    ∧ (Taking n (.reinstateItem k) s → i.state = .withdrawn →
      ∃ t, exec .reinstateItem s = .next t
        ∧ SameBehind t (answered n (.reinstateItem k) .done .empty
          (onItemNumber k (fun r => { r with state := .active, version := r.version + 1 }) u)))

/-- STAGE_PRICE and UNSTAGE_PRICE (R60, R65, R66): BAD_VALUE, NOT_FOUND and WRONG_STATE in their order; the pending
price set or made absent, with unit price, version and G as they were and no head told. COMMIT_PRICES (R59, R67, R81,
R87): every pending price becomes the unit price in one event, a changed record's version is raised by 1 and its copies
turn STALE, G is raised by 1 when a record changed, the counts are answered, and the in-step watch is armed, and met at
once when every head on the link is in step. -/
def Obligations.PricesStagedAndCommitted : Prop :=
  (∀ (n : Byte) (k price : Nat) (s : State),
    (Taking n (.stagePrice k price) s → exec .stagePrice s = .next
      (if k = 0 ∨ 999999 < k ∨ 999999 < price then answered n (.stagePrice k price) .badValue .empty s
      else match findItem k s with
        | none => answered n (.stagePrice k price) .notFound .empty s
        | some i =>
          if i.state = .withdrawn then answered n (.stagePrice k price) .wrongState .empty s
          else answered n (.stagePrice k price) .done .empty
            (onItemNumber k (fun r => { r with pending := some price }) s)))
    ∧ (Taking n (.unstagePrice k) s → exec .unstagePrice s = .next
      (if k = 0 ∨ 999999 < k then answered n (.unstagePrice k) .badValue .empty s
      else match findItem k s with
        | none => answered n (.unstagePrice k) .notFound .empty s
        | some i => answered n (.unstagePrice k) .done (.unstaged i.pending.isSome)
            (onItemNumber k (fun r => { r with pending := none }) s))))
    ∧ (∀ (n : Byte) (s : State) (changes : Item → Bool), Taking n .commitPrices s →
    (∀ i, changes i = true ↔ ∃ p, i.pending = some p ∧ p ≠ i.price) →
    ∃ t, exec .commitPrices s = .next t
      ∧ SameBehind t (answered n .commitPrices .done
          (.committed (s.itb.items.countP changes) (s.itb.items.countP (·.pending.isSome)) t.itb.generation)
          { s with itb := t.itb, ccu := t.ccu, port := { s.port with latched := t.port.latched } })
      ∧ t.itb.generation = s.itb.generation + (if s.itb.items.any changes then 1 else 0)
      ∧ t.itb.items = s.itb.items.map (fun i => { i with
          price := i.pending.getD i.price, pending := none, version := (if changes i then i.version + 1 else i.version) })
      ∧ (∀ h, copies h t = ⟨(copies h s).entries.map (fun e =>
          if s.itb.items.any (fun i => i.index == e.index && changes i) then { e with state := .stale, age := none }
          else e), (copies h s).drops⟩)
      ∧ (t.ccu.armed = true ↔ ∃ h, onLink (headSlot h) s = true ∧ ∃ e ∈ (copies h t).entries, e.state ≠ .current)
      ∧ t.port.latched = { s.port.latched with inStep := s.port.latched.inStep || !t.ccu.armed })

/-- WITHDRAW_ITEM (R60, R69, R72, R73, R82, R87, R147): BAD_VALUE and NOT_FOUND for its number, WRONG_STATE on a
WITHDRAWN record; on an ACTIVE one the state, the dropped pending price and the version, its copy entries removed with a
drop owed for each, the in-step watch examined where any was, and the purge of a record without references and with an
empty accumulator, which takes its unfolded PREPACK jobs along as cancellations: a front job that was being fed leaves
its printer without a load point, with a DROP owed where any chunk was sent, and the next job is started. That is where
the table, the copy lists and the queues keep their laws, as in every state that a run reaches; what a printer is left
with is stated where no IDLE printer has a job. -/
def Obligations.WithdrawRemovesFromSale : Prop :=
  (∀ (n : Byte) (k : Nat) (s : State), Taking n (.withdrawItem k) s →
    (k = 0 ∨ 999999 < k → exec .withdrawItem s = .next (answered n (.withdrawItem k) .badValue .empty s))
    ∧ (1 ≤ k → k ≤ 999999 → findItem k s = none →
      exec .withdrawItem s = .next (answered n (.withdrawItem k) .notFound .empty s)))
    ∧ ∀ (n : Byte) (k : Nat) (s : State) (i : Item) (lists : Head → CopyList) (met : Bool) (taken : Job → Bool)
    (started : List Job → PrinterCtx → PrinterCtx) (dropped : Tag → PrinterCtx → PrinterCtx),
    Taking n (.withdrawItem k) s → 1 ≤ k → k ≤ 999999 →
    Directory s → Places s → CopyLaw s → QueueLaw s → findItem k s = some i →
    (∀ h, lists h = match (copies h s).entries.find? (·.number == k) with
      | some e => ⟨(copies h s).entries.filter (·.number != k),
          (List.finRange 16).filter fun d => d == e.slot || (copies h s).drops.contains d⟩
      | none => copies h s) →
    (met = true ↔ s.ccu.armed = true ∧ (∃ h, ∃ e ∈ (copies h s).entries, e.number = k)
      ∧ ∀ h, onLink (headSlot h) s = true → ∀ e ∈ (lists h).entries, e.state = .current) →
    (∀ j, taken j = true ↔ j.folded = false ∧ ∃ l f, j.content = .prepack l f ∧ f.index = i.index) →
    (∀ js c, started js c = if c.state = .idle ∧ js ≠ [] then
      { c with state := .loading, load := some (.chunk 0), printed := 0 } else c) →
    (∀ x c, dropped x c = if c.load = none then c else
      { c with
        load := none, printed := 0
        owedDrop := if c.state ≠ .offline ∧ c.load ≠ some (.chunk 0) then some x else c.owedDrop
        state := if c.state = .loading ∨ c.state = .printing then .idle else c.state }) →
    (i.state = .withdrawn → exec .withdrawItem s = .next (answered n (.withdrawItem k) .wrongState .empty s))
    ∧ (i.state = .active → ∃ t, exec .withdrawItem s = .next t
      ∧ (∀ h, copies h t = lists h) ∧ t.ccu.armed = (s.ccu.armed && !met)
      ∧ t.port = { s.port with
          inProcess := none, buffer := t.port.buffer
          latched := { s.port.latched with inStep := s.port.latched.inStep || met } }
      ∧ (i.refs ≠ 0 ∨ i.acc ≠ emptyAcc →
          t.itb = { s.itb with items := s.itb.items.map fun r =>
            if r.number == k then { r with state := .withdrawn, pending := none, version := r.version + 1 } else r }
          ∧ t.lbc = s.lbc
          ∧ t.port.buffer = some ⟨.done, n, 0x17, .withdrawn false (some (i.refs, i.acc == emptyAcc))⟩)
      ∧ (i.refs = 0 → i.acc = emptyAcc →
          t.itb = { s.itb with items := s.itb.items.filter (·.number != k) }
          ∧ (∀ p, queue p t = (queue p s).filter (!taken ·))
          ∧ (∀ p, (∀ j rest, queue p s = j :: rest → taken j = false) → printer p t = printer p s)
          ∧ (FeedLaw s → ∀ p j rest, queue p s = j :: rest → taken j = true →
              printer p t = started (queue p t) (dropped j.tag (printer p s)))
          ∧ t.lbc = { s.lbc with queues := t.lbc.queues, printers := t.lbc.printers }
          ∧ t.port.buffer = some ⟨.done, n, 0x17, .withdrawn true none⟩)
      ∧ SameBehind t { s with itb := t.itb, ccu := t.ccu, lbc := t.lbc, port := t.port })

/-! ### Settings -/

/-- CONFIGURE_HEAD and CONFIGURE_PAIR (R3, R4, R7, R8, R32, R190): BAD_VALUE for values that do not fit, WRONG_STATE at
a SERVING head, otherwise every setting stored, with the effect of each kind that changed: the tare cleared and Z at
the new Z0, the restart, the sign-off of a role change, IDLE at a DISABLED head, the WELCOME owed. A restart that
leaves ACTIVE hands a result that clears the auto-capture hold (R50) and brings a pending request to its examination
(R44). That a CONFIGURE_HEAD without a change of role does so too, where R32 leaves the context unchanged, is the model's
reading (DEDUCED, log 46). The lower head of a pair is restarted first (DESIGN CHOICE, log 44). The values fit exactly
within the sets and ranges of R1, R2 and R4. That the WELCOME is owed in every presence state is the model's reading (DEDUCED, log 28). -/
def Obligations.ConfigurationStoredWithItsEffects : Prop :=
  (∀ (n : Byte) (s : State) (restarted : Channel → Channel),
    (∀ c, restarted c = { c with
      state := if c.state = .active then .settling else c.state
      window := [], history := [], railRun := 0, clearRun := 0, lock := .armed, last := none
      verdict := if c.state = .active then .notEligible .unstable else c.verdict }) →
    (∀ f : RawHead, Taking n (.configureHead f) s → headSettingsOf f = none →
      exec .configureHead s = .next (answered n (.configureHead f) .badValue .empty s))
    ∧ (∀ (f : RawHead) (h : Head) (new old : HeadSettings) (moved hands : Bool) (c c' : Channel) (v : State),
      Taking n (.configureHead f) s → headSettingsOf f = some (h, new) → old = settings h s → c = chan h s →
      moved = decide (new.z0 ≠ old.z0 ∨ new.span ≠ old.span ∨ new.zr ≠ old.zr) →
      c' = (if new.role = .disabled ∧ old.role ≠ .disabled then idleChannel new.z0
        else (fun d : Channel => if old.role = .disabled ∧ new.role ≠ .disabled ∧ onLink (headSlot h) s ∧ d.state = .idle
              then { d with state := .settling } else d)
          (if moved ∨ new.scale ≠ old.scale ∨ (old.role = .disabled ∧ new.role ≠ .disabled) then
            restarted { c with
              zero := if moved then new.z0 else c.zero
              manual := if moved ∨ new.scale ≠ old.scale then none else c.manual }
          else c)) →
      hands = decide (c.state = .active ∧ (moved = true ∨ new.scale ≠ old.scale)) →
      v = onCtx h (fun x => { x with autoHold := x.autoHold && !hands })
        (onChan h (fun _ => c') { s with wge := { s.wge with settings := s.wge.settings.put h new } }) →
      ((ctx h s).operator.isSome → (ctx h s).held.isSome →
        exec .configureHead s = .next (answered n (.configureHead f) .wrongState .empty s))
      ∧ (((ctx h s).operator = none ∨ (ctx h s).held = none) →
        (new.role = old.role → ∃ t w, exec .configureHead s = .next t
          ∧ (hands = true → Examined h v w) ∧ (hands = false → w = v)
          ∧ SameBehind t (answered n (.configureHead f) .done .empty
            (onHeadLink h (fun l => { l with refresh := l.refresh || decide (new.scale ≠ old.scale) }) w)))
        ∧ (new.role ≠ old.role → ∃ t, exec .configureHead s = .next t
          ∧ SameBehind t (answered n (.configureHead f) .done .empty
            (onHeadLink h (fun l => { l with refresh := l.refresh || decide (new.scale ≠ old.scale) })
              (onCtx h (fun x => { x with
                  selected := none, count := none, batch := .left 0, labelMark := false, autoHold := false })
                (onChan h (fun _ => c') (signOff h
                  { s with wge := { s.wge with settings := s.wge.settings.put h new } }))))))))
    ∧ (∀ f : RawPair, Taking n (.configurePair f) s → pairSettingsOf f = none →
      exec .configurePair s = .next (answered n (.configurePair f) .badValue .empty s))
    ∧ ∀ (f : RawPair) (p : PairIndex) (new : PairSettings) (a b : Head) (cleared : Head → State → State)
      (leaves : Head → State → State → Prop), Taking n (.configurePair f) s → pairSettingsOf f = some (p, new) →
      a.val = 2 * p.val → b.val = 2 * p.val + 1 →
      (∀ h u, cleared h u = onCtx h (fun x => { x with
        autoHold := x.autoHold && !decide ((chan h u).state = .active) }) (onChan h restarted u)) →
      (∀ h u v, leaves h u v ↔ ((chan h u).state = .active → Examined h (cleared h u) v)
        ∧ ((chan h u).state ≠ .active → v = cleared h u)) →
      (new = s.wge.pairs.look p → exec .configurePair s = .next (answered n (.configurePair f) .done .empty s))
      ∧ (new ≠ s.wge.pairs.look p → ∃ t v w, exec .configurePair s = .next t
          ∧ leaves a { s with wge := { s.wge with pairs := s.wge.pairs.put p new } } v ∧ leaves b v w
          ∧ SameBehind t (answered n (.configurePair f) .done .empty w)))
    ∧ (∀ (f : RawHead) (h : Head) (new : HeadSettings), headSettingsOf f = some (h, new) ↔
      f.head = h.val ∧ (new.role, f.role) ∈ [(Role.disabled, 0), (.service, 1), (.prepack, 2)]
      ∧ new.z0 = f.z0 ∧ -8388607 ≤ f.z0 ∧ f.z0 ≤ 8388606 ∧ new.span = f.span ∧ 1 ≤ f.span ∧ f.span ≤ 1048575
      ∧ new.zr = f.zr ∧ f.zr ≤ 1048575 ∧ new.printer.val = f.printer
      ∧ (new.lineLabels, f.lineLabels) ∈ [(false, 0), (true, 1)]
      ∧ new.idleLimit = f.idle ∧ (f.idle = 0 ∨ 3000 ≤ f.idle ∧ f.idle ≤ 60000)
      ∧ ((∃ max d : Nat, f.scale = .single max d ∧ new.scale = .single max (10 * d) ∧ d ∈ [1, 2, 5, 10, 20, 50]
          ∧ 0 < max ∧ max ≤ 300000 ∧ max % (10 * d) = 0)
        ∨ ∃ max1 d1 max2 d2 : Nat, f.scale = .dual max1 d1 max2 d2
          ∧ new.scale = .dual max1 (10 * d1) max2 (10 * d2)
          ∧ d1 ∈ [1, 2, 5, 10, 20, 50] ∧ d2 ∈ [1, 2, 5, 10, 20, 50] ∧ d1 < d2 ∧ 0 < max1 ∧ max1 < max2
          ∧ max2 ≤ 300000 ∧ max1 % (10 * d1) = 0 ∧ max2 % (10 * d2) = 0))
    ∧ ∀ (f : RawPair) (p : PairIndex) (new : PairSettings), pairSettingsOf f = some (p, new) ↔
      f.pair = p.val ∧ new.depth = f.depth ∧ f.depth ∈ [4, 8, 16] ∧ new.window = f.window ∧ f.window ∈ [3, 6, 12, 24]
      ∧ new.silence = f.silence ∧ f.silence ∈ [20, 80]
      ∧ (new.mode, f.mode) ∈ [(TrackMode.off, 0), (.oneStep, 1), (.proportional, 2)]
      ∧ new.gain = f.gain ∧ f.gain ∈ [1, 2, 4, 8]

/-- SET_NUMBER_RANGE (R90), whole; and SET_SLOTS, LINK_RESTART, READ_LINK with its clear option and SET_COLLECTION
(R124, R180, R191, R194): what each stores, and BAD_VALUE for a value outside its set. That the mask is carried as a
number with bit i for slot i, and that a bit beyond slot 10 is BAD_VALUE, is the model's choice (DESIGN CHOICE,
log 19); that SET_NUMBER_RANGE answers BAD_VALUE before WRONG_STATE is its reading (DEDUCED, log 45). -/
def Obligations.SettingsCommandsStore : Prop :=
  (∀ (n : Byte) (low high : Nat) (s : State), Taking n (.setNumberRange low high) s →
    exec .setNumberRange s = .next
      (if low < 1 ∨ 999 < high ∨ high ≤ low then answered n (.setNumberRange low high) .badValue .empty s
      else if s.tot.day ≠ .closed then answered n (.setNumberRange low high) .wrongState .empty s
      else answered n (.setNumberRange low high) .done (.capacity (min 64 (high - low + 1)))
        { s with snu := { s.snu with
            low := low, high := high, capacity := min 64 (high - low + 1), next := low } }))
    ∧ (∀ (n : Byte) (k : Nat) (s : State),
    (∀ mask : Table Bool 11, Taking n (.setSlots k) s → k < 2048 → (∀ i : Slot, mask.look i = k.testBit i.val) →
      exec .setSlots s = .next (answered n (.setSlots k) .done .empty
        { s with lnk := { s.lnk with pendingMask := some mask } }))
    ∧ (Taking n (.setSlots k) s → 2048 ≤ k →
      exec .setSlots s = .next (answered n (.setSlots k) .badValue .empty s))
    ∧ (Taking n .linkRestart s → exec .linkRestart s = .next (answered n .linkRestart .done .empty
        { s with lnk := { s.lnk with restart := true } }))
    ∧ (∀ slots : Table SlotLink 11, Taking n (.readLink 1) s →
      (∀ i, slots.look i = { slotLink i s with errors := 0 }) →
      exec .readLink s = .next (answered n (.readLink 1) .done
        (.link ⟨s.lnk.mask, s.lnk.pendingMask, s.lnk.restart, s.lnk.frame, s.lnk.slots, s.lnk.heads⟩)
        { s with lnk := { s.lnk with slots := slots } }))
    ∧ (∀ on : Bool, Taking n (.setCollection (if on then 1 else 0)) s →
      exec .setCollection s = .next (answered n (.setCollection (if on then 1 else 0)) .done .empty
        { s with tkp := { s.tkp with collection := on } }))
    ∧ (Taking n (.setCollection k) s → 1 < k →
      exec .setCollection s = .next (answered n (.setCollection k) .badValue .empty s)))

/-! ### Tickets from the host -/

/-- VOID_TICKET and COLLECT_TICKET from the host (R121, R122, R123): the name checks, WRONG_STATE in the states that
refuse, the void of an open ticket with its holder left READY, its lines folded as voids and released, and the
collection of a CLOSED one, which folds nothing. That the FREE record holds an idle count of 0 is the model's choice
(DESIGN CHOICE, log 43). -/
def Obligations.HostVoidsAndCollectsTickets : Prop :=
  ∀ (n : Byte) (s : State),
    (∀ a b : Nat, a = 0 ∨ 48 < a ∨ 255 < b →
      (Taking n (.voidTicket a b) s → exec .voidTicket s = .next (answered n (.voidTicket a b) .badValue .empty s))
      ∧ (Taking n (.collectTicket a b) s →
        exec .collectTicket s = .next (answered n (.collectTicket a b) .badValue .empty s)))
    ∧ ∀ (k : TicketSlot) (u : Byte) (void collect : HostCmd), void = .voidTicket (k.val + 1) u.toNat →
      collect = .collectTicket (k.val + 1) u.toNat →
      ((ticket k s).state = .free ∨ (ticket k s).serial ≠ u →
        (Taking n void s → exec .voidTicket s = .next (answered n void .notFound .empty s))
        ∧ (Taking n collect s → exec .collectTicket s = .next (answered n collect .notFound .empty s)))
      ∧ ((ticket k s).state ≠ .free → (ticket k s).serial = u →
        (Taking n void s → (ticket k s).state = .closing ∨ (ticket k s).state = .closed →
          exec .voidTicket s = .next (answered n void .wrongState .empty s))
        ∧ (Taking n void s → (ticket k s).state = .held ∨ (ticket k s).state = .parked →
          ∃ t, exec .voidTicket s = .next t
            ∧ SameBehind t (answered n void .done
              (.voided (ticket k s).lines.length ((ticket k s).lines.map (·.amount)).sum)
              (onTicket k (fun x => freeTicket x.serial)
                ((ticket k s).lines.foldl (fun x l =>
                  purgeCheck l.index (onItemAt l.index (fun i => { i with refs := i.refs - 1 })
                    (foldInto (foldVoid l.amount) ⟨l.head, l.operator, l.dept, l.index⟩ x)))
                  (onTicket k (fun x => { x with holder := none }) (match (ticket k s).holder with
                    | some h => onCtx h (leaving ⟨k, u⟩) s
                    | none => s))))))
        ∧ (Taking n collect s → (ticket k s).state ≠ .closed →
          exec .collectTicket s = .next (answered n collect .wrongState .empty s))
        ∧ (Taking n collect s → (ticket k s).state = .closed →
          ∃ t, exec .collectTicket s = .next t
            ∧ SameBehind t (answered n collect .done .empty (onTicket k (fun x => freeTicket x.serial) s))))

/-- The frame start of the Ticket Pool (R113, R114), taken when a signal waits, where heads and tickets agree: a HELD
ticket whose holder has an idle limit counts a frame, and at the limit is parked, with PARKED at the head it leaves;
TICKET_IDLE_PARK performs the park of one, and leaves the signal waiting (the model's choice: DESIGN CHOICE, logs 5 and
3). The frame start of the Copy Coherence Unit (R79): the push age of a SENDING entry counts to 10. A copy
acknowledgement (R80, R87): that of a pushed SENDING entry with its version makes it CURRENT, brings a pending request
for its item to its examination (R44), and examines the in-step watch; any other is discarded. -/
def Obligations.FrameStartsOfPoolAndCopies : Prop :=
  (∀ (s : State) (limit : TicketSlot → Nat) (full : TicketSlot → Bool), s.resetLow = false → 0 < s.hand.tkp →
    HolderLaw s →
    (∀ k, limit k = match (ticket k s).holder with
      | some h => (settings h s).idleLimit
      | none => 0) →
    (∀ k, full k = true ↔ limit k ≠ 0 ∧ limit k ≤ (ticket k s).idle + 1) →
    (∃ t, exec .ticketFrameStart s = .next t ∧ t.hand.tkp + 1 = s.hand.tkp
      ∧ SameBehind t { s with
          hsu := { s.hsu with heads := t.hsu.heads }, tkp := { s.tkp with tickets := t.tkp.tickets }
          hand := { s.hand with tkp := t.hand.tkp } }
      ∧ (∀ k, ticket k t =
          if full k then { ticket k s with state := .parked, holder := none, idle := 0 }
          else if limit k ≠ 0 then { ticket k s with idle := (ticket k s).idle + 1 } else ticket k s)
      ∧ ∀ h, (∀ id, (ctx h s).held = some id → full id.slot = true →
            ctx h t = { leaving id (ctx h s) with message := some ⟨.parked, 200⟩ })
          ∧ ((∀ id, (ctx h s).held = some id → full id.slot = false) → ctx h t = ctx h s))
    ∧ ∀ (k : TicketSlot) (h : Head), (ticket k s).holder = some h → full k = true →
      ∃ t, exec (.ticketIdlePark k) s = .next t
        ∧ SameBehind t (onCtx h (fun c => { leaving ⟨k, (ticket k s).serial⟩ c with message := some ⟨.parked, 200⟩ })
          (onTicket k (fun x => { x with state := .parked, holder := none, idle := 0 }) s)))
    ∧ ((∀ (s : State) (lists : Table CopyList 8), s.resetLow = false → 0 < s.hand.ccu →
    (∀ h, lists.look h = ⟨(copies h s).entries.map (fun e =>
        match e.state, e.age with
        | .sending, some a => { e with age := some (min (a + 1) 10) }
        | _, _ => e), (copies h s).drops⟩) →
    exec .copyFrameStart s = .next
      { s with ccu := { s.ccu with lists := lists }, hand := { s.hand with ccu := s.hand.ccu - 1 } })
  ∧ ∀ (h : Head) (a : Ack) (rest : List Ack) (s u : State), s.resetLow = false → (inbox h s).acks = a :: rest →
    CopyLaw s → u = onInbox h (fun b => { b with acks := rest }) s →
    ((∀ e ∈ (copies h s).entries, e.slot = a.slot → e.state ≠ .sending ∨ e.age = none ∨ e.version ≠ a.version) →
      exec (.copyAck h) s = .next u)
    ∧ ∀ (e : CopyEntry) (v : State), e ∈ (copies h s).entries → e.slot = a.slot → e.state = .sending →
      e.age.isSome → e.version = a.version →
      v = onCopies h (fun c => { c with entries := c.entries.map fun x =>
        if x.slot = a.slot then { x with state := .current, age := none } else x }) u →
      ∃ t w, exec (.copyAck h) s = .next t
        ∧ ((∃ q, (ctx h s).request = some q ∧ q.number = e.number) → Examined h v w)
        ∧ ((∀ q, (ctx h s).request = some q → q.number ≠ e.number) → w = v)
        ∧ ((s.ccu.armed = true ∧ ∀ g, onLink (headSlot g) s = true → ∀ x ∈ (copies g v).entries, x.state = .current) →
          SameBehind t (flagInStep { w with ccu := { w.ccu with armed := false } }))
        ∧ (¬(s.ccu.armed = true
            ∧ ∀ g, onLink (headSlot g) s = true → ∀ x ∈ (copies g v).entries, x.state = .current) → SameBehind t w))

/-! ### Labels -/

/-- PRINT_TEXT, CANCEL_JOB and REDIRECT_JOBS (R120, R131, R138, R148, R149, R150), where the queues keep their law:
their refusals, the tag allocated, the queues, the feeding contexts with the DROP a printer is owed, and the tickets whose
summary job left or moved. A job that a capture or a close queues takes its place as a text does (R129, R131, R146): the
first tag from the candidate that is not in use, copies remaining equal to copies total, its folded flag clear, at the
tail, with the start of an IDLE printer. That a record freed by its summary job holds an idle count of 0 is the model's
choice (DESIGN CHOICE, log 43), and that PRINT_TEXT answers BAD_VALUE before FULL its reading (DEDUCED, log 45). -/
def Obligations.PrinterCommandsMoveJobs : Prop :=
  ∀ (n : Byte) (s : State) (started : List Job → PrinterCtx → PrinterCtx) (dropped : Tag → PrinterCtx → PrinterCtx),
    QueueLaw s →
    (∀ js c, started js c = if c.state = .idle ∧ js ≠ [] then
      { c with state := .loading, load := some (.chunk 0), printed := 0 } else c) →
    (∀ x c, dropped x c = if c.load = none then c else
      { c with
        load := none, printed := 0
        owedDrop := if c.state ≠ .offline ∧ c.load ≠ some (.chunk 0) then some x else c.owedDrop
        state := if c.state = .loading ∨ c.state = .printing then .idle else c.state }) →
    ((∀ x : Tag, tagInUse x s = true ↔
        x ∈ queuedTags s ∨ ∃ p, (printer p s).heldTag = some x ∨ (printer p s).owedDrop = some x)
      ∧ ∀ (p : Printer) (source : Option Head) (k x : Nat) (content : Content),
        (∀ y < x, tagInUse (s.lbc.candidate + BitVec.ofNat 8 y) s = true) →
        tagInUse (s.lbc.candidate + BitVec.ofNat 8 x) s = false →
        freshTag s = s.lbc.candidate + BitVec.ofNat 8 x
        ∧ queueJob p source k content s =
          onPrinter p (started [⟨0, source, k, k, false, content⟩])
            (onQueue p (fun js => js ++ [⟨s.lbc.candidate + BitVec.ofNat 8 x, source, k, k, false, content⟩])
              { s with lbc := { s.lbc with candidate := s.lbc.candidate + BitVec.ofNat 8 x + 1 } }))
    ∧ (∀ a k text, Taking n (.printText a k text) s →
      (1 < a ∨ k = 0 ∨ 16 < k ∨ text = [] ∨ 4 < text.length
        ∨ ∃ l ∈ text, 24 < l.length ∨ ∃ c ∈ l, c.toNat < 32 ∨ 126 < c.toNat) →
      exec .printText s = .next (answered n (.printText a k text) .badValue .empty s))
    ∧ (∀ a, Taking n (.cancelJob a) s → 255 < a →
      exec .cancelJob s = .next (answered n (.cancelJob a) .badValue .empty s))
    ∧ (∀ a b, Taking n (.redirectJobs a b) s → 1 < a ∨ 1 < b ∨ a = b →
      exec .redirectJobs s = .next (answered n (.redirectJobs a b) .badValue .empty s))
    ∧ (∀ (p : Printer) (k : Nat) (text : List (List Byte)), Taking n (.printText p.val k text) s → 1 ≤ k → k ≤ 16 →
      1 ≤ text.length → text.length ≤ 4 →
      (∀ l ∈ text, l.length ≤ 24 ∧ ∀ c ∈ l, 32 ≤ c.toNat ∧ c.toNat ≤ 126) →
      ((queue p s).length = 16 → exec .printText s = .next (answered n (.printText p.val k text) .full .empty s))
      ∧ ((queue p s).length < 16 → ∃ x : Nat,
        (∀ y < x, tagInUse (s.lbc.candidate + BitVec.ofNat 8 y) s = true)
        ∧ tagInUse (s.lbc.candidate + BitVec.ofNat 8 x) s = false
        ∧ exec .printText s = .next (answered n (.printText p.val k text) .done
          (.queued (s.lbc.candidate + BitVec.ofNat 8 x)
            (decide ((printer p s).state = .offline ∨ (printer p s).state = .stopped)))
          (onPrinter p (started [⟨0, none, k, k, false, .text text⟩])
            (onQueue p (fun js => js ++ [⟨s.lbc.candidate + BitVec.ofNat 8 x, none, k, k, false, .text text⟩])
              { s with lbc := { s.lbc with candidate := s.lbc.candidate + BitVec.ofNat 8 x + 1 } })))))
    ∧ (∀ x : Tag, Taking n (.cancelJob x.toNat) s → x ∉ queuedTags s →
      exec .cancelJob s = .next (answered n (.cancelJob x.toNat) .notFound .empty s))
    ∧ (∀ (p : Printer) (ahead after : List Job) (j : Job) (u : State), Taking n (.cancelJob j.tag.toNat) s →
      queue p s = ahead ++ j :: after →
      u = (if ahead = [] then onPrinter p (fun c => started after (dropped j.tag c)) else fun y => y)
        (onQueue p (fun _ => ahead ++ after) s) →
      ∃ t, exec .cancelJob s = .next t
        ∧ SameBehind t (answered n (.cancelJob j.tag.toNat) .done
          (.cancelled (kindOf j.content) j.remaining (decide (ahead = [] ∧ (printer p s).load ≠ none)))
          (match j.content with
          | .summary l =>
            if (ticket l.ticket.slot s).state = .closing ∧ (ticket l.ticket.slot s).serial = l.ticket.serial then
              onTicket l.ticket.slot (fun k =>
                if s.tkp.collection then { k with state := .closed, job := none } else freeTicket k.serial) u
            else u
          | _ => u)))
    ∧ ∀ (p q : Printer) (stay may : List Job) (k : Nat), Taking n (.redirectJobs p.val q.val) s → p ≠ q →
      (stay, may) = (match (printer p s).state with
        | .offline => ([], queue p s)
        | .stopped => ([], queue p s)
        | .idle => (queue p s, [])
        | .loading => ((queue p s).take 1, (queue p s).drop 1)
        | .printing => ((queue p s).take 1, (queue p s).drop 1)) →
      k = min may.length (16 - (queue q s).length) →
      ∃ t, exec .redirectJobs s = .next t
        ∧ SameBehind t (answered n (.redirectJobs p.val q.val) .done (.moved k (may.length - k))
          ((may.take k).foldl (fun x j =>
            match j.content with
            | .summary l =>
              if (ticket l.ticket.slot x).state = .closing ∧ (ticket l.ticket.slot x).serial = l.ticket.serial then
                onTicket l.ticket.slot (fun r => { r with job := some ⟨q, j.tag⟩ }) x
              else x
            | _ => x)
            (onPrinter q (started (queue q s ++ may.take k))
              (onPrinter p (match stay, may.take k with
                  | [], j :: _ => dropped j.tag
                  | _, _ => fun c => c)
                (onQueue q (fun js => js ++ may.take k) (onQueue p (fun _ => stay ++ may.drop k) s))))))

/-! ### Totals and the day -/

/-- A sale fold (R154, R157) and a void fold (R155, R157) reach the five accumulators of R156 in one event, each field
saturating at its maximum, with the saturated flag where a field was cut short and TOTAL_SATURATED where any was; no
other accumulator and no other state changes. -/
def Obligations.FoldsReachFiveAccumulators : Prop :=
  ∀ (fold : Acc → Acc × Bool) (add : Acc → Acc) (cut : Acc → Bool) (k : FoldKeys) (i : Item) (s : State),
    itemAt k.index s = some i →
    ((∃ (mode : SaleMode) (q a w p : Nat), fold = foldSale mode q a
        ∧ w = (if mode = .weighed then q else 0) ∧ p = (if mode = .weighed then 0 else q)
        ∧ (∀ x, cut x = decide (4294967295 < x.lines + 1 ∨ 281474976710655 < x.weight + w
          ∨ 4294967295 < x.pieces + p ∨ 281474976710655 < x.amount + a))
        ∧ ∀ x, add x = { x with
          lines := min 4294967295 (x.lines + 1), weight := min 281474976710655 (x.weight + w)
          pieces := min 4294967295 (x.pieces + p), amount := min 281474976710655 (x.amount + a)
          saturated := x.saturated || cut x })
      ∨ ∃ a : Nat, fold = foldVoid a
        ∧ (∀ x, cut x = decide (4294967295 < x.voidLines + 1 ∨ 281474976710655 < x.voidAmount + a))
        ∧ ∀ x, add x = { x with
          voidLines := min 4294967295 (x.voidLines + 1), voidAmount := min 281474976710655 (x.voidAmount + a)
          saturated := x.saturated || cut x }) →
    ∃ t, foldInto fold k s = t
      ∧ t.tot.grand = add s.tot.grand
      ∧ (∀ h, t.tot.heads.look h = if h = k.head then add (s.tot.heads.look h) else s.tot.heads.look h)
      ∧ (∀ n, t.tot.operators.look n =
          if n = k.operator then add (s.tot.operators.look n) else s.tot.operators.look n)
      ∧ (∀ d, t.tot.departments.look d =
          if d = k.dept then add (s.tot.departments.look d) else s.tot.departments.look d)
      ∧ itemAt k.index t = some { i with acc := add i.acc }
      ∧ (∀ m, m ≠ k.index → itemAt m t = itemAt m s)
      ∧ t = { s with
          tot := { s.tot with
            grand := t.tot.grand, heads := t.tot.heads, operators := t.tot.operators
            departments := t.tot.departments }
          itb := { s.itb with items := t.itb.items }
          port := { s.port with latched := { s.port.latched with
            totalSaturated := s.port.latched.totalSaturated || (cut s.tot.grand || cut (s.tot.heads.look k.head)
              || cut (s.tot.operators.look k.operator) || cut (s.tot.departments.look k.dept) || cut i.acc) } } }

/-- OPEN_DAY and CLOSE_DAY (R102, R160, R161, R162): BAD_VALUE for no day of the calendar, WRONG_STATE with the day
state and the four counts, otherwise every step of R160 and of R162. That OPEN_DAY answers BAD_VALUE before WRONG_STATE
is the model's reading (DEDUCED, log 45). -/
def Obligations.DayOpensAndCloses : Prop :=
  ∀ (n : Byte) (s : State),
    (∀ y m d : Nat, Taking n (.openDay y m d) s →
      (y < 2000 ∨ 2099 < y ∨ m < 1 ∨ 12 < m ∨ d < 1 ∨ monthDays y m < d →
        exec .openDay s = .next (answered n (.openDay y m d) .badValue .empty s))
      ∧ (2000 ≤ y → y ≤ 2099 → 1 ≤ m → m ≤ 12 → 1 ≤ d → d ≤ monthDays y m →
        (s.tot.day ≠ .closed →
          exec .openDay s = .next (answered n (.openDay y m d) .wrongState (.day s.tot.day) s))
        ∧ (s.tot.day = .closed → exec .openDay s = .next (answered n (.openDay y m d) .done .empty
          { s with
            tot := { s.tot with day := .opened }
            lbc := { s.lbc with date := some ⟨y, m, d⟩ }
            snu := { s.snu with waiting := [], next := s.snu.low, lastCalled := none } }))))
    ∧ (Taking n .closeDay s →
      (s.tot.day ≠ .opened →
        exec .closeDay s = .next (answered n .closeDay .wrongState (.closeRefused s.tot.day 0 0 0 0) s))
      ∧ ∀ held parked closing packs : Nat,
        held = countTickets .held s → parked = countTickets .parked s → closing = countTickets .closing s →
        packs = ((queue 0 s ++ queue 1 s).filter fun j => kindOf j.content == .prepack && !j.folded).length →
        s.tot.day = .opened →
        (held + parked + closing + packs ≠ 0 → exec .closeDay s = .next
          (answered n .closeDay .wrongState (.closeRefused .opened held parked closing packs) s))
        ∧ (held + parked + closing + packs = 0 → ∃ t, exec .closeDay s = .next t
          ∧ SameBehind t (answered n .closeDay .done .empty
            { s with
              tot := { s.tot with day := .closing, cursor := some .start, drained := 0, lastEntry := none }
              snu := { s.snu with waiting := [], lastCalled := none, skipped := Table.const 8 false }
              hsu := { s.hsu with heads := Table.gen fun h =>
                match (ctx h s).request with
                | none => { ctx h s with nowServing := none }
                | some q => { ctx h s with
                    nowServing := none, request := none, message := some ⟨.dayClosed, 200⟩
                    autoHold := (ctx h s).autoHold || q.origin == .auto } } })))

/-- READ_TOTALS (R164): the hold serial raised by 1, the hold buffer replaced by a snapshot of the group in key order,
and its first page answered; BAD_VALUE for any other group. READ_CLOSING (R167, R168, R169): NEXT drains the first
non-empty accumulator after the cursor, with its purge check when it is an item's, and answers its entry; where there
is none, the day is closed and the business date absent; its refusals, of which BAD_VALUE comes before WRONG_STATE
(DEDUCED, log 45). What a purge leaves at the printers is stated where no unfolded PREPACK job stands outside DAY_OPEN, as
in every state that a run reaches. -/
def Obligations.TotalsAreReadAndDrained : Prop :=
  (∀ (n : Byte) (k : Nat) (s : State), Taking n (.readTotals k) s →
    (4 < k → exec .readTotals s = .next (answered n (.readTotals k) .badValue .empty s))
    ∧ ∀ (g : Group) (entries : List HoldEntry) (hold : Hold),
      (k, g, entries) ∈ [(0, Group.grand, [HoldEntry.mk .grand s.tot.grand none]),
        (1, .head, (List.finRange 8).map fun h => ⟨.head h, s.tot.heads.look h, none⟩),
        (2, .operator, (List.finRange 32).map fun m => ⟨.operator m, s.tot.operators.look m, none⟩),
        (3, .department, (List.finRange 16).map fun d => ⟨.department d, s.tot.departments.look d, none⟩),
        (4, .item, s.itb.items.map fun i => ⟨.item i.number, i.acc, some ⟨i.index, i.state⟩⟩)] →
      hold = ⟨s.tot.holdSerial + 1, g, s.tot.day, entries⟩ →
      exec .readTotals s = .next (answered n (.readTotals k) .done (.totals hold (entries.take 16))
        { s with tot := { s.tot with holdSerial := s.tot.holdSerial + 1, hold := some hold } }))
    ∧ (∀ (n : Byte) (k : Nat) (s : State), Taking n (.readClosing k) s →
    (1 < k → exec .readClosing s = .next (answered n (.readClosing k) .badValue .empty s))
    ∧ (k ≤ 1 → s.tot.day ≠ .closing →
      exec .readClosing s = .next (answered n (.readClosing k) .wrongState (.day s.tot.day) s))
    ∧ (k = 1 → s.tot.day = .closing → s.tot.lastEntry = none →
      exec .readClosing s = .next (answered n (.readClosing k) .notFound .empty s))
    ∧ (k = 0 → s.tot.day = .closing → Directory s → Places s →
      ((∀ a : AccKey, cursorRank s.tot.cursor < drainRank a → accAt a s = emptyAcc) →
        exec .readClosing s = .next (answered n (.readClosing k) .done (.drainEnd s.tot.drained)
          { s with
            tot := { s.tot with day := .closed, cursor := none, lastEntry := none, drained := 0 }
            lbc := { s.lbc with date := none } }))
      ∧ ∀ a : AccKey, cursorRank s.tot.cursor < drainRank a → accAt a s ≠ emptyAcc →
        (∀ b : AccKey, cursorRank s.tot.cursor < drainRank b → accAt b s ≠ emptyAcc → drainRank a ≤ drainRank b) →
        ∃ t e, exec .readClosing s = .next t
          ∧ t.port = { s.port with
              inProcess := none, buffer := some ⟨.done, n, commandCode (.readClosing k), .drained e⟩ }
          ∧ e.key = a ∧ e.acc = accAt a s ∧ e.sequence = s.tot.drained + 1
          ∧ t.tot = { s.tot with
              grand := t.tot.grand, heads := t.tot.heads, operators := t.tot.operators, departments := t.tot.departments
              cursor := some (.after a), drained := s.tot.drained + 1, lastEntry := some e }
          ∧ accAt a t = emptyAcc ∧ (∀ b, b ≠ a → accAt b t = accAt b s)
          ∧ (groupOfKey a ≠ .item → e.item = none ∧ e.purged = none ∧ t.itb = s.itb ∧ t.lbc = s.lbc)
          ∧ (∀ m, a = .item m → ∃ i, findItem m s = some i ∧ e.item = some ⟨i.index, i.state⟩
            ∧ e.purged = some (decide (i.state = .withdrawn ∧ i.refs = 0))
            ∧ t.itb = { s.itb with items :=
                if i.state = .withdrawn ∧ i.refs = 0 then s.itb.items.filter (·.number != m)
                else s.itb.items.map fun r => if r.number == m then { r with acc := emptyAcc } else r }
            ∧ (i.state = .active ∨ i.refs ≠ 0 ∨ QuietLaw s → t.lbc = s.lbc))
          ∧ SameBehind t { s with port := t.port, tot := t.tot, itb := t.itb, lbc := t.lbc }))

/-! ### The counter link -/

/-- The frame start of the Link Controller and its parts (R174, R180, R182, R191): the pending mask becomes the mask
and each slot follows the table of R180, with a loss where a device stood; a pending restart takes every device off;
a join wait counts and ends at 50; the frame counter rises, and the signal goes to the blocks that count frames. The
numbers of the heads lost go to the front of the waiting list in ascending order of head index (R101), the in-step watch
is examined where any head was lost (R87), and what is not lost stands as it was. The model's own:
that SLOT_MASK_TAKES_EFFECT, LINK_RESTART_TAKES_EFFECT and JOIN_WAIT_EXPIRY perform their part by themselves (DESIGN
CHOICE, log 5), that a loss and a masking keep the join wait (DEDUCED, log 30), that the numbers a restart returns stand
in front of those of a mask taken by the same frame start (DEDUCED, log 21), the signals kept as counts (log 3), and the
messages of the last frame cleared (log 12). -/
def Obligations.FrameStartTakesPendingChanges : Prop :=
  (∀ s : State, s.resetLow = false →
    (∀ (off masked restarted : Slot → SlotLink) (lostMask lostRestart : Slot → Bool),
      (∀ i, off i = { slotLink i s with presence := .disabled, misses := 0 }) →
      (∀ i, masked i = match s.lnk.pendingMask with
        | none => slotLink i s
        | some m => match s.lnk.mask.look i, m.look i with
          | true, false => off i
          | false, true =>
            if presence i s = .disabled then { slotLink i s with presence := .absent, misses := 0 } else slotLink i s
          | _, _ => slotLink i s) →
      (∀ i, lostMask i = (onLink i s && s.lnk.pendingMask.any fun m => s.lnk.mask.look i && !m.look i)) →
      (∀ i, lostRestart i = (onLink i s && !lostMask i && s.lnk.restart)) →
      (∀ i, restarted i =
        if s.lnk.restart = true ∧ (masked i).presence ∈ [.online, .silent, .joining] then
          { masked i with presence := .absent, misses := 0 }
        else masked i) →
      ∃ t, exec .frameStart s = .next t ∧ t.lnk.frame = s.lnk.frame + 1 ∧ t.lnk.pendingMask = none
        ∧ t.lnk.restart = false ∧ t.lnk.mask = s.lnk.pendingMask.getD s.lnk.mask
        ∧ (∀ i, slotLink i t = if (restarted i).presence = .joining then
            { restarted i with
              joinWait := (restarted i).joinWait + 1
              presence := if 50 ≤ (restarted i).joinWait + 1 then .absent else .joining }
          else restarted i)
        ∧ LossesTaken (fun i => lostMask i || lostRestart i) s t
        ∧ t.snu.waiting = returnedNumbers (fun h => lostRestart (headSlot h)) s
          ++ (returnedNumbers (fun h => lostMask (headSlot h)) s ++ s.snu.waiting)
        ∧ t.hand = { s.hand with hsu := s.hand.hsu + 1, ccu := s.hand.ccu + 1, tkp := s.hand.tkp + 1 }
        ∧ t.down = noDownstream)
    ∧ (s.lnk.pendingMask = none → s.lnk.restart = false → ∀ slots : Table SlotLink 11,
      (∀ i, slots.look i = if presence i s = .joining then
          { slotLink i s with
            joinWait := (slotLink i s).joinWait + 1
            presence := if 50 ≤ (slotLink i s).joinWait + 1 then .absent else .joining }
        else slotLink i s) →
      exec .frameStart s = .next { s with
        lnk := { s.lnk with frame := s.lnk.frame + 1, slots := slots }
        hand := { s.hand with hsu := s.hand.hsu + 1, ccu := s.hand.ccu + 1, tkp := s.hand.tkp + 1 }
        down := noDownstream })
    ∧ (∀ i : Slot, presence i s = .joining → 50 ≤ (slotLink i s).joinWait + 1 →
      exec (.joinWaitExpiry i) s = .next (onSlot i (fun l =>
        { l with joinWait := l.joinWait + 1, presence := .absent }) s))
    ∧ (∀ m : Table Bool 11, s.lnk.pendingMask = some m → ∃ t, exec .slotMaskTakesEffect s = .next t
      ∧ t.lnk.mask = m ∧ t.lnk.pendingMask = none ∧ t.lnk.frame = s.lnk.frame ∧ t.lnk.restart = s.lnk.restart
      ∧ t.snu.waiting = returnedNumbers (fun h =>
          onLink (headSlot h) s && s.lnk.mask.look (headSlot h) && !m.look (headSlot h)) s ++ s.snu.waiting
      ∧ LossesTaken (fun i => onLink i s && s.lnk.mask.look i && !m.look i) s t ∧ t.hand = s.hand ∧ t.down = s.down
      ∧ ∀ i : Slot,
        (s.lnk.mask.look i = true → m.look i = false →
          slotLink i t = { slotLink i s with presence := .disabled, misses := 0 }
          ∧ (onLink i s = true → LostDevice i s t))
        ∧ (s.lnk.mask.look i = false → m.look i = true → slotLink i t =
          if presence i s = .disabled then { slotLink i s with presence := .absent, misses := 0 } else slotLink i s)
        ∧ (s.lnk.mask.look i = m.look i → slotLink i t = slotLink i s))
    ∧ (s.lnk.restart = true → ∃ t, exec .linkRestartTakesEffect s = .next t
      ∧ t.lnk.restart = false ∧ t.lnk.mask = s.lnk.mask ∧ t.lnk.pendingMask = s.lnk.pendingMask
      ∧ t.lnk.frame = s.lnk.frame
      ∧ t.snu.waiting = returnedNumbers (fun h => onLink (headSlot h) s) s ++ s.snu.waiting
      ∧ LossesTaken (fun i => onLink i s) s t ∧ t.hand = s.hand ∧ t.down = s.down
      ∧ ∀ i : Slot,
        (presence i s = .online ∨ presence i s = .silent →
          slotLink i t = { slotLink i s with presence := .absent, misses := 0 } ∧ LostDevice i s t)
        ∧ (presence i s = .joining → slotLink i t = { slotLink i s with presence := .absent, misses := 0 })
        ∧ (presence i s = .absent ∨ presence i s = .disabled → slotLink i t = slotLink i s))
    ∧ (s.lnk.pendingMask = none → exec .slotMaskTakesEffect s = .next s)
    ∧ (s.lnk.restart = false → exec .linkRestartTakesEffect s = .next s)
    ∧ ∀ i : Slot, presence i s ≠ .joining ∨ (slotLink i s).joinWait + 1 < 50 → exec (.joinWaitExpiry i) s = .next s)

/-- The downstream parts (R75, R78, R79, R94, R139, R175, R178, R190): what each slot sends and what the sending
changes; a slot that is not served, or has its WELCOME in place of its update, sends no update. A HEAD_UPDATE carries
the first copy operation that the ranks of R78 provide: a drop, the due entry of the pending request's item, the most
recent STALE entry, the most recent SENDING entry that is due. The model's own: the texts of a WELCOME as ASCII bytes
(PRESUMED, log 31), the other messages as typed records (DESIGN CHOICE, log 32) that stand by slot (log 12), and the
display record of before the push in the HEAD_UPDATE that carries it (DEDUCED, log 38). -/
def Obligations.DownstreamPartsSend : Prop :=
  ∀ (s : State) (isDue : CopyEntry → Prop), s.resetLow = false →
    (∀ e, isDue e ↔ e.state = .stale ∨ e.state = .sending ∧ (e.age = none ∨ e.age = some 10)) →
    (∀ wire : List Byte, wire = [0x01, s.lnk.frame] ++ (match s.lbc.date with
        | some d => [BitVec.ofNat 8 (d.year - 2000), BitVec.ofNat 8 d.month, BitVec.ofNat 8 d.day]
        | none => [0xFF, 0, 0]) →
      exec .frameNotice s = .next (send 11 (.frameNotice (wire ++ [crc8 wire])) s))
    ∧ (∀ (i : Slot) (texts : Option (List Byte × List Byte)),
      texts = (if h : i.val < 8 then some (divisionText (settings ⟨i.val, h⟩ s).scale, [107, 103]) else none) →
      (presence i s = .joining → exec (.welcome i) s = .next (send (downSlot i) (.welcome i texts) s))
      ∧ (∀ h, i = headSlot h → onLink i s = true → (headLink h s).refresh = true →
        exec (.welcome i) s = .next (send (downSlot i) (.welcome i texts)
          (onHeadLink h (fun l => { l with refresh := false }) s)))
      ∧ (presence i s ≠ .joining → (∀ h, i = headSlot h → onLink i s = true → (headLink h s).refresh = false) →
        exec (.welcome i) s = .next s))
    ∧ (∀ h : Head, (onLink (headSlot h) s = false ∨ (headLink h s).refresh = true →
        exec (.headUpdate h) s = .next s)
      ∧ (onLink (headSlot h) s = true → (headLink h s).refresh = false →
        (∀ d ds, (copies h s).drops = d :: ds →
          exec (.headUpdate h) s = .next (send (downSlot (headSlot h))
            (.headUpdate (display h s) (headLink h s).serial (some (.drop d)))
            (onCopies h (fun c => { c with drops := ds }) s)))
        ∧ ((copies h s).drops = [] → (∀ e ∈ (copies h s).entries, ¬isDue e) →
          exec (.headUpdate h) s = .next (send (downSlot (headSlot h))
            (.headUpdate (display h s) (headLink h s).serial none) s))
        ∧ (∀ (e : CopyEntry) (i : Item) (newer older : List CopyEntry), (copies h s).drops = [] →
          CopyListLaw (copies h s) → (copies h s).entries = newer ++ e :: older → isDue e →
          ((∃ q, (ctx h s).request = some q ∧ q.number = e.number)
            ∨ (∀ q, (ctx h s).request = some q → ∀ x ∈ (copies h s).entries, isDue x → q.number ≠ x.number)
              ∧ (e.state = .stale ∧ (∀ x ∈ newer, x.state ≠ .stale)
                ∨ (∀ x ∈ (copies h s).entries, x.state ≠ .stale) ∧ ∀ x ∈ newer, ¬isDue x)) →
          itemAt e.index s = some i →
          ∃ t, exec (.headUpdate h) s = .next t
            ∧ SameBehind t (send (downSlot (headSlot h))
              (.headUpdate (display h s) (headLink h s).serial
                (some (.push e.slot e.number i.version i.name i.mode i.price i.preset.isSome)))
              (onCopies h (fun c => { c with entries := c.entries.map fun x =>
                if x.slot = e.slot then { x with version := i.version, state := .sending, age := some 0 } else x })
                s)))))
    ∧ (∀ p : Printer, (onLink (printerSlot p) s = false → exec (.printerUpdate p) s = .next s)
      ∧ (onLink (printerSlot p) s = true → ∀ (op : Option PrintOp) (c : PrinterCtx),
        (op, c) = (match (printer p s).state, (printer p s).owedDrop, queue p s, (printer p s).load with
          | .offline, _, _, _ => (none, printer p s)
          | _, some x, _, _ => (some (.drop x), { printer p s with owedDrop := none })
          | .loading, none, j :: _, some (.chunk k) =>
            (match (printer p s).credit, (chunkParts j.content)[k]? with
            | room + 1, some part => (some (.chunk j.tag k (k + 1 == (chunkParts j.content).length) part),
              { printer p s with
                credit := room
                load := some (if k + 1 < (chunkParts j.content).length then .chunk (k + 1) else .done)
                state := if k + 1 < (chunkParts j.content).length then .loading else .printing })
            | _, _ => (none, printer p s))
          | .printing, none, j :: _, _ => (some (.order j.tag ((printer p s).printed + 1)), printer p s)
          | _, _, _, _ => (none, printer p s)) →
        exec (.printerUpdate p) s = .next (send (downSlot (printerSlot p)) (.printerUpdate op)
          (onPrinter p (fun _ => c) s))))
    ∧ (onLink dispenserSlot s = false → exec .dispenserUpdate s = .next s)
    ∧ (onLink dispenserSlot s = true → exec .dispenserUpdate s = .next (send 10
        (.dispenserUpdate s.snu.issued s.snu.lastCalled s.snu.waiting.length s.snu.full)
        { s with snu := { s.snu with issued := [], full := false } }))

/-- Every upstream message is read back from its bytes (R176 and section 9.8): the hub judges the part that carries a
message of the slot's class, or a JOIN, as that message. -/
def Obligations.UpstreamRoundTrip : Prop :=
  ∀ (i : Slot) (m : Upstream),
    (match m with
      | .join _ => True
      | .head r => slotClass i = .head ∧ -8388608 ≤ r.raw ∧ r.raw ≤ 8388607 ∧ ∀ k, r.key = some k → k.arg < 16777216
      | .printer r => slotClass i = .printer ∧ r.credit ≤ 8 ∧ r.copies ≤ 16 ∧ (r.heldTag = none → r.copies = 0)
      | .dispenser _ => slotClass i = .dispenser) →
    judge i (writeUpstream m) = .good m

/-- A good HEAD_REPORT (R179, R181, R182, R187, R188, R189): discarded in ABSENT and DISABLED; elsewhere the slot is
ONLINE, the sample is handed on, a key with a new serial is accepted and handed on when its code and argument are
good, the acknowledgement is handed on and recorded when its slot is in range, and a discarded part is counted. That a
key with the serial last accepted is neither judged nor counted is the model's reading (DEDUCED, log 27), and the parts
handed on wait in lists of the model's own (log 3). -/
def Obligations.HeadReportHandsItsParts : Prop :=
  ∀ (h : Head) (part : List Byte) (r : HeadReport) (s : State) (old : HeadLink) (keys : List KeyEvent)
    (acks : List Ack) (serial : Option (BitVec 4)) (ack : Option Ack) (badKey badAck : Nat),
    s.resetLow = false → judge (headSlot h) part = .good (.head r) → old = headLink h s →
    (keys, serial, badKey) = (match r.key with
      | none => ([], old.serial, 0)
      | some k =>
        if old.serial = some k.serial then ([], old.serial, 0)
        else match keyOfCode k.kind with
          | some kind => if k.arg ≤ 999999 then ([⟨kind, k.arg⟩], some k.serial, 0) else ([], some k.serial, 1)
          | none => ([], some k.serial, 1)) →
    (acks, ack, badAck) = (match r.ack with
      | none => ([], old.ack, 0)
      | some a =>
        if hlt : a.slot.toNat < 16 then ([⟨⟨a.slot.toNat, hlt⟩, a.version⟩], some ⟨⟨a.slot.toNat, hlt⟩, a.version⟩, 0)
        else ([], old.ack, 1)) →
    (presence (headSlot h) s = .absent ∨ presence (headSlot h) s = .disabled →
      exec (.headReport h part) s = .next s)
    ∧ (presence (headSlot h) s ≠ .absent → presence (headSlot h) s ≠ .disabled →
      ∃ t, exec (.headReport h part) s = .next t
        ∧ SameBehind t
          (onInbox h (fun b => ⟨b.samples ++ [r.raw], b.keys ++ keys, b.acks ++ acks⟩)
            (onHeadLink h (fun l => { l with serial := serial, ack := ack })
              (onSlot (headSlot h) (fun l => { l with
                  presence := .online, misses := 0
                  errors := if badKey + badAck = 0 then l.errors else min (l.errors + badKey + badAck) 65535 })
                (onChan h (fun c =>
                  if presence (headSlot h) s = .joining ∧ role h s ≠ .disabled ∧ c.state = .idle then
                    { c with state := .settling }
                  else c) s)))))

/-- What an upstream part does to its slot (R180 to R185, R192): a matching JOIN, with a loss before it where a device
stood; a bad CRC, a malformed message and a JOIN of another kind, which count an error and are misses on a slot on the
link; a miss; and the loss at the silence threshold, with the sign-off of a head that is lost: its ticket parked, its
number returned, its operator's entry emptied (R36, R101, R111). The model's own: SILENCE_LOSS performs the miss that
brings the loss and nothing else (DESIGN CHOICE, log 5), a loss keeps the join wait (DEDUCED, log 30), a miss, which
changes the standing verdict alone, composes no display (DEDUCED, log 13), and a message without one whole byte is
malformed (DEDUCED, log 39). -/
def Obligations.UpstreamMovesPresence : Prop :=
  ∀ (i : Slot) (part : List Byte) (s : State) (threshold : Nat) (wrong : Bool), s.resetLow = false →
    threshold = (if h : i.val < 8 then (pairSettings ⟨i.val, h⟩ s).silence else 20) →
    (wrong = true ↔ judge i part = .badCrc ∨ judge i part = .malformed
      ∨ ∃ k, judge i part = .good (.join k) ∧ k ≠ slotClass i) →
    (presence i s = .disabled → exec (.join i part) s = .next s ∧ exec (.upstreamRejected i part) s = .next s
      ∧ exec (.upstreamMiss i) s = .next s ∧ exec (.silenceLoss i) s = .next s)
    ∧ (judge i part = .good (.join (slotClass i)) → presence i s = .absent ∨ presence i s = .joining →
      (∀ h, i = headSlot h → (ctx h s).request = none) →
      ∃ t, exec (.join i part) s = .next t
        ∧ slotLink i t = ⟨.joining, 0, 0, (slotLink i s).errors⟩
        ∧ (∀ h, i = headSlot h →
          SameBehind t (onCtx h (fun c => { c with
              autoHold := c.autoHold && !decide ((chan h s).state = .active) })
            (onChan h (fun c => { c with
                state := if c.state = .active then .settling else c.state
                window := [], history := [], railRun := 0, clearRun := 0, lock := .armed, last := none
                verdict := if c.state = .active then .notEligible .unstable else c.verdict })
              (onCopies h (fun _ => ⟨[], []⟩) (onHeadLink h (fun _ => ⟨none, none, false⟩)
                (onSlot i (fun l => ⟨.joining, 0, 0, l.errors⟩) s))))))
        ∧ (∀ p, i = printerSlot p → SameBehind t (onSlot i (fun l => ⟨.joining, 0, 0, l.errors⟩) s))
        ∧ (i = dispenserSlot → SameBehind t (onSnu (fun u => { u with counter := none, issued := [], full := false })
          (onSlot i (fun l => ⟨.joining, 0, 0, l.errors⟩) s))))
    ∧ (judge i part = .good (.join (slotClass i)) → onLink i s = true →
      ∃ t, exec (.join i part) s = .next t
        ∧ slotLink i t = ⟨.joining, 0, 0, (slotLink i s).errors⟩ ∧ LostAlone i s t)
    ∧ (wrong = true → presence i s = .absent ∨ presence i s = .joining →
      exec (.upstreamRejected i part) s = .next (onSlot i (fun l => { l with errors := min (l.errors + 1) 65535 }) s))
    ∧ (presence i s = .absent ∨ presence i s = .joining →
      exec (.upstreamMiss i) s = .next s ∧ exec (.silenceLoss i) s = .next s)
    ∧ (onLink i s = true → (slotLink i s).misses + 1 < threshold → ∀ u : State,
      (∀ h, i = headSlot h → u = onChan h (fun c => { c with verdict := .notEligible .unstable }) s) →
      ((∀ h, i ≠ headSlot h) → u = s) →
      (wrong = true → exec (.upstreamRejected i part) s = .next (onSlot i (fun l => { l with
          presence := .silent, misses := l.misses + 1, errors := min (l.errors + 1) 65535 }) u))
      ∧ exec (.upstreamMiss i) s = .next (onSlot i (fun l => { l with
          presence := .silent, misses := l.misses + 1 }) u)
      ∧ exec (.silenceLoss i) s = .next s)
    ∧ (onLink i s = true → threshold ≤ (slotLink i s).misses + 1 →
      (wrong = true → ∃ t, exec (.upstreamRejected i part) s = .next t ∧ LostAlone i s t
        ∧ slotLink i t = { slotLink i s with
            presence := .absent, misses := 0, errors := min ((slotLink i s).errors + 1) 65535 })
      ∧ ∃ t, exec (.upstreamMiss i) s = .next t ∧ exec (.silenceLoss i) s = .next t ∧ LostAlone i s t
        ∧ slotLink i t = { slotLink i s with presence := .absent, misses := 0 })

/-- A good PRINTER_REPORT (R138, R140, R141, R142, R143, R144, R145, R120): recorded; then the copies counted, with the
fold of a PREPACK job at its first copy and the end of a job without copies left; then the stop or the recovery; then
the reload; at a printer that comes ONLINE, then the start of a waiting queue. That a record freed by its summary job
holds an idle count of 0 is the model's choice (DESIGN CHOICE, log 43). -/
def Obligations.PrinterReportTakenInOrder : Prop :=
  ∀ (p : Printer) (part : List Byte) (r : PrinterReport) (s u v w x : State) (joining : Bool) (front : State → Prop)
    (reload : PrinterCtx → PrinterCtx),
    s.resetLow = false → judge (printerSlot p) part = .good (.printer r) →
    (joining = true ↔ presence (printerSlot p) s = .joining) →
    (∀ y, front y ↔ ∃ j rest, queue p y = j :: rest ∧ (printer p y).heldTag = some j.tag) →
    (∀ c, reload c = { c with state := .loading, load := some (.chunk 0), printed := 0 }) →
    u = onPrinter p (fun c => { c with
        state := if joining then .idle else c.state, credit := r.credit, condition := r.condition
        heldTag := r.heldTag })
      (onSlot (printerSlot p) (fun l => { l with presence := .online, misses := 0 }) s) →
    v = (match queue p s with
      | [] => u
      | j :: rest =>
        if (printer p s).load = some .done ∧ r.heldTag = some j.tag ∧ (printer p s).printed < r.copies then
          (fun sold : State =>
            if j.remaining ≤ r.copies - (printer p s).printed then
              (fun gone : State => match j.content with
                | .summary l =>
                  if (ticket l.ticket.slot s).state = .closing ∧ (ticket l.ticket.slot s).serial = l.ticket.serial then
                    onTicket l.ticket.slot (fun k =>
                      if s.tkp.collection then { k with state := .closed, job := none } else freeTicket k.serial) gone
                  else gone
                | _ => gone)
              (onPrinter p (fun c =>
                if c.state = .stopped then { c with load := none, printed := 0 }
                else if rest = [] then { c with state := .idle, load := none, printed := 0 }
                else reload c) (onQueue p (fun _ => rest) sold))
            else
              onPrinter p (fun c => { c with printed := r.copies })
                (onQueue p (fun _ => { j with
                    remaining := j.remaining - (r.copies - (printer p s).printed)
                    folded := j.folded || kindOf j.content == .prepack } :: rest) sold))
          (match j.content, j.folded with
            | .prepack l f, false => foldInto (foldSale l.mode l.quantity l.amount) ⟨f.head, f.operator, f.dept, f.index⟩ u
            | _, _ => u)
        else u) →
    (r.condition = .ready → (printer p v).state ≠ .stopped → w = v) →
    (r.condition ≠ .ready → (printer p v).state = .stopped → w = v) →
    (r.condition ≠ .ready → (printer p v).state ≠ .stopped →
      w = flagPrinterStopped p (onPrinter p (fun c => { c with state := .stopped }) v)) →
    (r.condition = .ready → (printer p v).state = .stopped →
      ((printer p v).load = none → queue p v = [] → w = onPrinter p (fun c => { c with state := .idle }) v)
      ∧ ((printer p v).load = none → queue p v ≠ [] → w = onPrinter p reload v)
      ∧ ((printer p v).load = some .done → front v → w = onPrinter p (fun c => { c with state := .printing }) v)
      ∧ ((printer p v).load ≠ none → ¬((printer p v).load = some .done ∧ front v) → w = onPrinter p reload v)) →
    ((printer p w).state = .printing → ¬front w → x = onPrinter p reload w) →
    ((printer p w).state ≠ .printing ∨ front w → x = w) →
    (presence (printerSlot p) s = .absent ∨ presence (printerSlot p) s = .disabled →
      exec (.printerReport p part) s = .next s)
    ∧ (onLink (printerSlot p) s = true → (printer p s).state = .offline →
      exec (.printerReport p part) s = .next
        (onSlot (printerSlot p) (fun l => { l with presence := .online, misses := 0 }) s))
    ∧ (onLink (printerSlot p) s = true → (printer p s).state ≠ .offline →
      ∃ t, exec (.printerReport p part) s = .next t ∧ SameBehind t x)
    ∧ (joining = true → ∃ t, exec (.printerReport p part) s = .next t
      ∧ ((printer p x).state = .idle → queue p x ≠ [] → SameBehind t (onPrinter p reload x))
      ∧ ((printer p x).state ≠ .idle ∨ queue p x = [] → SameBehind t x))

/-- A good DISPENSER_REPORT (R91, R92, R93): the first stores its counter; a later one takes the new presses, each of
the first four in turn, adding N to the waiting list and the pending content or refusing; those beyond the fourth are
refused. Where a refused press raises ATTN, the view of the port before it is kept (the model's own, log 7). -/
def Obligations.DispenserReportTakesPresses : Prop :=
  ∀ (part : List Byte) (counter : Byte) (s u : State) (pressed : Nat → State → State) (refused : State → State),
    s.resetLow = false → judge dispenserSlot part = .good (.dispenser counter) →
    (∀ x, refused x = { x with
      snu := { x.snu with full := true }
      port := { x.port with latched := { x.port.latched with dispenserRefused := true } } }) →
    (∀ x, pressed 0 x = x) →
    (∀ k x, pressed (k + 1) x = pressed k
      (if x.tot.day ≠ .opened ∨ x.snu.capacity ≤ x.snu.waiting.length ∨ x.snu.next ∈ numbersInPlay x then refused x
      else { x with snu := { x.snu with
        waiting := x.snu.waiting ++ [⟨x.snu.next, false⟩], issued := x.snu.issued ++ [x.snu.next]
        next := if x.snu.next = x.snu.high then x.snu.low else x.snu.next + 1 } })) →
    u = onSlot dispenserSlot (fun l => { l with presence := .online, misses := 0 })
      { s with snu := { s.snu with counter := some counter } } →
    (presence dispenserSlot s = .absent ∨ presence dispenserSlot s = .disabled →
      exec (.dispenserReport part) s = .next s)
    ∧ (presence dispenserSlot s ≠ .absent → presence dispenserSlot s ≠ .disabled →
      (s.snu.counter = none → exec (.dispenserReport part) s = .next u)
      ∧ ∀ old delta, s.snu.counter = some old → delta = (256 + counter.toNat - old.toNat) % 256 →
        ∀ x, x = (if 4 < delta then refused (pressed 4 u) else pressed delta u) →
          exec (.dispenserReport part) s = .next
            { x with shown := if portView x = portView s then s.shown else portView s :: s.shown })

/-! ### Laws that every command keeps -/

/-- The state after reset meets every law below. -/
def Obligations.ResetMeetsEveryLaw : Prop :=
  ZeroLaw State.reset ∧ SignOnLaw State.reset ∧ MaskLaw State.reset ∧ PortLaw State.reset ∧ Directory State.reset
    ∧ Places State.reset ∧ PendingLaw State.reset ∧ CopyLaw State.reset ∧ QueueLaw State.reset
    ∧ TotalLaw State.reset ∧ FreeLaw State.reset ∧ HolderLaw State.reset ∧ NumberLaw State.reset
    ∧ QuietLaw State.reset ∧ RefsLaw State.reset ∧ PacksLaw State.reset ∧ BalanceLaw State.reset
    ∧ ItemBalanceLaw State.reset ∧ LockLaw State.reset ∧ PurgeLaw State.reset ∧ EntryLaw State.reset ∧ FeedLaw State.reset

/-- Every step keeps each of: the zero count within Z0 ± ZR (R16); the sign-on table in agreement with the heads
(R30); DISABLED exactly where the mask is off (R180, R181); an empty buffer while a command is in process, with RDY low
since its transaction (R195, R197); no ELIGIBLE verdict under a LOCKED lock (R21, R22). A lock that a step arms was armed
by an ACTIVE, stable sample of at most 10 d1, or by what emptied the channel: a restart, IDLE or a reset (R22). -/
def Obligations.StepKeepsZeroSignOnMaskAndPort : Prop :=
  ∀ s t : State, step s = .next t →
    (ZeroLaw s → ZeroLaw t) ∧ (SignOnLaw s → SignOnLaw t) ∧ (MaskLaw s → MaskLaw t) ∧ (PortLaw s → PortLaw t)
      ∧ (LockLaw s → LockLaw t)
      ∧ ∀ h : Head, (chan h s).lock = .locked → (chan h t).lock = .armed → Rearmed h t

/-- Every step keeps each of: the directory ascending with distinct indices of the table (R56, R57); pending prices on
ACTIVE records only, and no WITHDRAWN record without references and with an empty accumulator (R72); the copy lists
within their bounds, with entries of ACTIVE records only, which carry the record's version unless STALE (R74, R84). -/
def Obligations.StepKeepsItemTableAndCopies : Prop :=
  ∀ s t : State, step s = .next t →
    (Directory s → Places s → Directory t ∧ Places t) ∧ (Directory s → PendingLaw s → PendingLaw t)
      ∧ (CopyLaw s → CopyLaw t) ∧ (Directory s → Places s → PurgeLaw s → PurgeLaw t)
      ∧ (Directory s → Places s → CopyLaw s → EntryLaw s → EntryLaw t)

/-- Every step keeps each of: the bounds of the queues with no tag twice (R130, R131); no job at an IDLE printer
(R138, R150); every ticket's total the sum of its lines within its limit, in unbroken positions (R105, R108); FREE
records empty (R104), with an idle count of 0 by the model's choice (DESIGN CHOICE, log 43). -/
def Obligations.StepKeepsQueuesAndTicketTotals : Prop :=
  ∀ s t : State, step s = .next t →
    (QueueLaw s → QueueLaw t) ∧ (FeedLaw s → FeedLaw t) ∧ (TotalLaw s → TotalLaw t) ∧ (FreeLaw s → FreeLaw t)

/-- Every step keeps the agreement of heads and tickets (R104, R106, R31), and, where they agree, each of: nothing left
to fold outside DAY_OPEN (R156, R161, R162); each service number in one place, within the range, and none outside
DAY_OPEN (R91). -/
def Obligations.StepKeepsHoldersNightsAndNumbers : Prop :=
  (∀ s t : State, step s = .next t → HolderLaw s → HolderLaw t)
    ∧ (∀ s t : State, step s = .next t → HolderLaw s → QuietLaw s →
    QuietLaw t ∧ (NumberLaw s → NumberLaw t))

/-- Every step keeps the reference counts equal to the lines of HELD and PARKED tickets (R71), and a record under
every unfolded PREPACK job (R147, R156), where the table, the heads and the queues keep their laws. -/
def Obligations.StepKeepsReferences : Prop :=
  ∀ s t : State, step s = .next t → Directory s → Places s →
    (HolderLaw s → RefsLaw s → RefsLaw t) ∧ (QueueLaw s → PacksLaw s → PacksLaw t)

/-- Every step keeps the balance of the accumulators over heads, operators and departments outside DAY_CLOSING
(R156), and what the drain has emptied in it (R168). -/
def Obligations.StepKeepsGroupBalance : Prop :=
  ∀ s t : State, step s = .next t → HolderLaw s → QuietLaw s → BalanceLaw s → BalanceLaw t

/-- Every step keeps the same balance over the item accumulators (R156), where every line and every unfolded PREPACK
job names a record. -/
def Obligations.StepKeepsItemBalance : Prop :=
  ∀ s t : State, step s = .next t → Directory s → Places s → HolderLaw s → QuietLaw s → RefsLaw s → PacksLaw s →
    BalanceLaw s → ItemBalanceLaw s → ItemBalanceLaw t
end

