-- ==== Sys2Proof/Laws/State.lean ====
section
/-! SUPPORT. The records of the state: tables, and for every update one lemma per field it leaves alone. -/

namespace Sys2Proof

namespace Table

variable {α : Type} {n : Nat}

@[simp] theorem look_put_same (t : Table α n) (i : Fin n) (x : α) : (t.put i x).look i = x := by
  simp [look, put]

@[simp] theorem look_put_ne (t : Table α n) {i j : Fin n} (x : α) (h : j ≠ i) : (t.put i x).look j = t.look j := by
  have : i.val ≠ j.val := fun e => h (Fin.ext e.symm)
  simp [look, put, Vector.getElem_set_ne, this]

theorem look_put (t : Table α n) (i j : Fin n) (x : α) : (t.put i x).look j = if j = i then x else t.look j := by
  by_cases h : j = i
  · subst h; simp
  · simp [h]

@[simp] theorem look_change_same (t : Table α n) (i : Fin n) (f : α → α) : (t.change i f).look i = f (t.look i) := by
  simp [change]

@[simp] theorem look_change_ne (t : Table α n) {i j : Fin n} (f : α → α) (h : j ≠ i) :
    (t.change i f).look j = t.look j := by
  simp [change, h]

theorem look_change (t : Table α n) (i j : Fin n) (f : α → α) :
    (t.change i f).look j = if j = i then f (t.look i) else t.look j := look_put ..

@[simp] theorem look_gen (f : Fin n → α) (i : Fin n) : (gen f).look i = f i := by simp [look, gen]

@[simp] theorem look_const (x : α) (i : Fin n) : (const n x).look i = x := by simp [const]

/-- Two tables with the same entries are one table. -/
theorem ext_look {t u : Table α n} (h : ∀ i, t.look i = u.look i) : t = u :=
  Vector.ext fun i hi => h ⟨i, hi⟩

@[simp] theorem change_id (t : Table α n) (i : Fin n) : t.change i (fun x => x) = t := by
  refine ext_look fun j => ?_
  rw [look_change]; split <;> simp_all

@[simp] theorem gen_look (t : Table α n) : gen (fun i => t.look i) = t := ext_look fun i => by simp

theorem put_put (t : Table α n) (i : Fin n) (x y : α) : (t.put i x).put i y = t.put i y := by
  refine ext_look fun j => ?_
  simp only [look_put]; split <;> rfl

theorem change_change (t : Table α n) (i : Fin n) (f g : α → α) :
    (t.change i f).change i g = t.change i fun x => g (f x) := by
  simp [change, put_put]

end Table

namespace Machine

variable (s : State)

/-! ### `onChan` -/

@[simp] theorem onChan_resetLow (h : Head) (f : Channel → Channel) : (onChan h f s).resetLow = s.resetLow := rfl
@[simp] theorem onChan_sdo (h : Head) (f : Channel → Channel) : (onChan h f s).sdo = s.sdo := rfl
@[simp] theorem onChan_down (h : Head) (f : Channel → Channel) : (onChan h f s).down = s.down := rfl
@[simp] theorem onChan_port (h : Head) (f : Channel → Channel) : (onChan h f s).port = s.port := rfl
@[simp] theorem onChan_lnk (h : Head) (f : Channel → Channel) : (onChan h f s).lnk = s.lnk := rfl
@[simp] theorem onChan_hsu (h : Head) (f : Channel → Channel) : (onChan h f s).hsu = s.hsu := rfl
@[simp] theorem onChan_itb (h : Head) (f : Channel → Channel) : (onChan h f s).itb = s.itb := rfl
@[simp] theorem onChan_ccu (h : Head) (f : Channel → Channel) : (onChan h f s).ccu = s.ccu := rfl
@[simp] theorem onChan_snu (h : Head) (f : Channel → Channel) : (onChan h f s).snu = s.snu := rfl
@[simp] theorem onChan_tkp (h : Head) (f : Channel → Channel) : (onChan h f s).tkp = s.tkp := rfl
@[simp] theorem onChan_lbc (h : Head) (f : Channel → Channel) : (onChan h f s).lbc = s.lbc := rfl
@[simp] theorem onChan_tot (h : Head) (f : Channel → Channel) : (onChan h f s).tot = s.tot := rfl
@[simp] theorem onChan_shown (h : Head) (f : Channel → Channel) : (onChan h f s).shown = s.shown := rfl
@[simp] theorem onChan_hand (h : Head) (f : Channel → Channel) : (onChan h f s).hand = s.hand := rfl
@[simp] theorem onChan_pending (h : Head) (f : Channel → Channel) : (onChan h f s).pending = s.pending := rfl
@[simp] theorem onChan_wge_pairs (h : Head) (f : Channel → Channel) : (onChan h f s).wge.pairs = s.wge.pairs := rfl
@[simp] theorem onChan_wge_settings (h : Head) (f : Channel → Channel) :
    (onChan h f s).wge.settings = s.wge.settings := rfl
@[simp] theorem settings_onChan (h : Head) (f : Channel → Channel) (a : Head) :
    settings a (onChan h f s) = settings a s := rfl
@[simp] theorem role_onChan (h : Head) (f : Channel → Channel) (a : Head) : role a (onChan h f s) = role a s := rfl
@[simp] theorem pairSettings_onChan (h : Head) (f : Channel → Channel) (a : Head) :
    pairSettings a (onChan h f s) = pairSettings a s := rfl
@[simp] theorem ctx_onChan (h : Head) (f : Channel → Channel) (a : Head) : ctx a (onChan h f s) = ctx a s := rfl
@[simp] theorem service_onChan (h : Head) (f : Channel → Channel) (a : Head) :
    service a (onChan h f s) = service a s := rfl
@[simp] theorem signedOnAt_onChan (h : Head) (f : Channel → Channel) (a : Operator) :
    signedOnAt a (onChan h f s) = signedOnAt a s := rfl
@[simp] theorem ticket_onChan (h : Head) (f : Channel → Channel) (a : TicketSlot) :
    ticket a (onChan h f s) = ticket a s := rfl
@[simp] theorem copies_onChan (h : Head) (f : Channel → Channel) (a : Head) :
    copies a (onChan h f s) = copies a s := rfl
@[simp] theorem printer_onChan (h : Head) (f : Channel → Channel) (a : Printer) :
    printer a (onChan h f s) = printer a s := rfl
@[simp] theorem queue_onChan (h : Head) (f : Channel → Channel) (a : Printer) :
    queue a (onChan h f s) = queue a s := rfl
@[simp] theorem slotLink_onChan (h : Head) (f : Channel → Channel) (a : Slot) :
    slotLink a (onChan h f s) = slotLink a s := rfl
@[simp] theorem presence_onChan (h : Head) (f : Channel → Channel) (a : Slot) :
    presence a (onChan h f s) = presence a s := rfl
@[simp] theorem onLink_onChan (h : Head) (f : Channel → Channel) (a : Slot) :
    onLink a (onChan h f s) = onLink a s := rfl
@[simp] theorem headLink_onChan (h : Head) (f : Channel → Channel) (a : Head) :
    headLink a (onChan h f s) = headLink a s := rfl
@[simp] theorem inbox_onChan (h : Head) (f : Channel → Channel) (a : Head) : inbox a (onChan h f s) = inbox a s := rfl
@[simp] theorem findItem_onChan (h : Head) (f : Channel → Channel) (a : Nat) :
    findItem a (onChan h f s) = findItem a s := rfl
@[simp] theorem itemAt_onChan (h : Head) (f : Channel → Channel) (a : Nat) : itemAt a (onChan h f s) = itemAt a s := rfl
@[simp] theorem activeItem_onChan (h : Head) (f : Channel → Channel) (a : Nat) :
    activeItem a (onChan h f s) = activeItem a s := rfl
@[simp] theorem dayOpen_onChan (h : Head) (f : Channel → Channel) : dayOpen (onChan h f s) = dayOpen s := rfl
@[simp] theorem display_onChan (h : Head) (f : Channel → Channel) (a : Head) :
    display a (onChan h f s) = display a s := rfl
@[simp] theorem copyState_onChan (h : Head) (f : Channel → Channel) (a : Head) (b : Nat) :
    copyState a b (onChan h f s) = copyState a b s := rfl
@[simp] theorem ticketId_onChan (h : Head) (f : Channel → Channel) (a : TicketSlot) :
    ticketId a (onChan h f s) = ticketId a s := rfl
@[simp] theorem queueRoom_onChan (h : Head) (f : Channel → Channel) (a : Printer) :
    queueRoom a (onChan h f s) = queueRoom a s := rfl
@[simp] theorem printerDown_onChan (h : Head) (f : Channel → Channel) (a : Printer) :
    printerDown a (onChan h f s) = printerDown a s := rfl
@[simp] theorem freshTag_onChan (h : Head) (f : Channel → Channel) : freshTag (onChan h f s) = freshTag s := rfl

/-! ### `onCtx` -/

@[simp] theorem onCtx_resetLow (h : Head) (f : HeadCtx → HeadCtx) : (onCtx h f s).resetLow = s.resetLow := rfl
@[simp] theorem onCtx_sdo (h : Head) (f : HeadCtx → HeadCtx) : (onCtx h f s).sdo = s.sdo := rfl
@[simp] theorem onCtx_down (h : Head) (f : HeadCtx → HeadCtx) : (onCtx h f s).down = s.down := rfl
@[simp] theorem onCtx_port (h : Head) (f : HeadCtx → HeadCtx) : (onCtx h f s).port = s.port := rfl
@[simp] theorem onCtx_lnk (h : Head) (f : HeadCtx → HeadCtx) : (onCtx h f s).lnk = s.lnk := rfl
@[simp] theorem onCtx_wge (h : Head) (f : HeadCtx → HeadCtx) : (onCtx h f s).wge = s.wge := rfl
@[simp] theorem onCtx_itb (h : Head) (f : HeadCtx → HeadCtx) : (onCtx h f s).itb = s.itb := rfl
@[simp] theorem onCtx_ccu (h : Head) (f : HeadCtx → HeadCtx) : (onCtx h f s).ccu = s.ccu := rfl
@[simp] theorem onCtx_snu (h : Head) (f : HeadCtx → HeadCtx) : (onCtx h f s).snu = s.snu := rfl
@[simp] theorem onCtx_tkp (h : Head) (f : HeadCtx → HeadCtx) : (onCtx h f s).tkp = s.tkp := rfl
@[simp] theorem onCtx_lbc (h : Head) (f : HeadCtx → HeadCtx) : (onCtx h f s).lbc = s.lbc := rfl
@[simp] theorem onCtx_tot (h : Head) (f : HeadCtx → HeadCtx) : (onCtx h f s).tot = s.tot := rfl
@[simp] theorem onCtx_shown (h : Head) (f : HeadCtx → HeadCtx) : (onCtx h f s).shown = s.shown := rfl
@[simp] theorem onCtx_hand (h : Head) (f : HeadCtx → HeadCtx) : (onCtx h f s).hand = s.hand := rfl
@[simp] theorem onCtx_pending (h : Head) (f : HeadCtx → HeadCtx) : (onCtx h f s).pending = s.pending := rfl
@[simp] theorem onCtx_hsu_displays (h : Head) (f : HeadCtx → HeadCtx) :
    (onCtx h f s).hsu.displays = s.hsu.displays := rfl
@[simp] theorem onCtx_hsu_signOn (h : Head) (f : HeadCtx → HeadCtx) : (onCtx h f s).hsu.signOn = s.hsu.signOn := rfl
@[simp] theorem settings_onCtx (h : Head) (f : HeadCtx → HeadCtx) (a : Head) :
    settings a (onCtx h f s) = settings a s := rfl
@[simp] theorem role_onCtx (h : Head) (f : HeadCtx → HeadCtx) (a : Head) : role a (onCtx h f s) = role a s := rfl
@[simp] theorem pairSettings_onCtx (h : Head) (f : HeadCtx → HeadCtx) (a : Head) :
    pairSettings a (onCtx h f s) = pairSettings a s := rfl
@[simp] theorem chan_onCtx (h : Head) (f : HeadCtx → HeadCtx) (a : Head) : chan a (onCtx h f s) = chan a s := rfl
@[simp] theorem signedOnAt_onCtx (h : Head) (f : HeadCtx → HeadCtx) (a : Operator) :
    signedOnAt a (onCtx h f s) = signedOnAt a s := rfl
@[simp] theorem ticket_onCtx (h : Head) (f : HeadCtx → HeadCtx) (a : TicketSlot) :
    ticket a (onCtx h f s) = ticket a s := rfl
@[simp] theorem copies_onCtx (h : Head) (f : HeadCtx → HeadCtx) (a : Head) : copies a (onCtx h f s) = copies a s := rfl
@[simp] theorem printer_onCtx (h : Head) (f : HeadCtx → HeadCtx) (a : Printer) :
    printer a (onCtx h f s) = printer a s := rfl
@[simp] theorem queue_onCtx (h : Head) (f : HeadCtx → HeadCtx) (a : Printer) : queue a (onCtx h f s) = queue a s := rfl
@[simp] theorem slotLink_onCtx (h : Head) (f : HeadCtx → HeadCtx) (a : Slot) :
    slotLink a (onCtx h f s) = slotLink a s := rfl
@[simp] theorem presence_onCtx (h : Head) (f : HeadCtx → HeadCtx) (a : Slot) :
    presence a (onCtx h f s) = presence a s := rfl
@[simp] theorem onLink_onCtx (h : Head) (f : HeadCtx → HeadCtx) (a : Slot) : onLink a (onCtx h f s) = onLink a s := rfl
@[simp] theorem headLink_onCtx (h : Head) (f : HeadCtx → HeadCtx) (a : Head) :
    headLink a (onCtx h f s) = headLink a s := rfl
@[simp] theorem inbox_onCtx (h : Head) (f : HeadCtx → HeadCtx) (a : Head) : inbox a (onCtx h f s) = inbox a s := rfl
@[simp] theorem findItem_onCtx (h : Head) (f : HeadCtx → HeadCtx) (a : Nat) :
    findItem a (onCtx h f s) = findItem a s := rfl
@[simp] theorem itemAt_onCtx (h : Head) (f : HeadCtx → HeadCtx) (a : Nat) : itemAt a (onCtx h f s) = itemAt a s := rfl
@[simp] theorem activeItem_onCtx (h : Head) (f : HeadCtx → HeadCtx) (a : Nat) :
    activeItem a (onCtx h f s) = activeItem a s := rfl
@[simp] theorem dayOpen_onCtx (h : Head) (f : HeadCtx → HeadCtx) : dayOpen (onCtx h f s) = dayOpen s := rfl
@[simp] theorem display_onCtx (h : Head) (f : HeadCtx → HeadCtx) (a : Head) :
    display a (onCtx h f s) = display a s := rfl
@[simp] theorem copyState_onCtx (h : Head) (f : HeadCtx → HeadCtx) (a : Head) (b : Nat) :
    copyState a b (onCtx h f s) = copyState a b s := rfl
@[simp] theorem ticketId_onCtx (h : Head) (f : HeadCtx → HeadCtx) (a : TicketSlot) :
    ticketId a (onCtx h f s) = ticketId a s := rfl
@[simp] theorem queueRoom_onCtx (h : Head) (f : HeadCtx → HeadCtx) (a : Printer) :
    queueRoom a (onCtx h f s) = queueRoom a s := rfl
@[simp] theorem printerDown_onCtx (h : Head) (f : HeadCtx → HeadCtx) (a : Printer) :
    printerDown a (onCtx h f s) = printerDown a s := rfl
@[simp] theorem freshTag_onCtx (h : Head) (f : HeadCtx → HeadCtx) : freshTag (onCtx h f s) = freshTag s := rfl

/-! ### `setSignOn` -/

@[simp] theorem setSignOn_resetLow (n : Operator) (e : Option Head) : (setSignOn n e s).resetLow = s.resetLow := rfl
@[simp] theorem setSignOn_sdo (n : Operator) (e : Option Head) : (setSignOn n e s).sdo = s.sdo := rfl
@[simp] theorem setSignOn_down (n : Operator) (e : Option Head) : (setSignOn n e s).down = s.down := rfl
@[simp] theorem setSignOn_port (n : Operator) (e : Option Head) : (setSignOn n e s).port = s.port := rfl
@[simp] theorem setSignOn_lnk (n : Operator) (e : Option Head) : (setSignOn n e s).lnk = s.lnk := rfl
@[simp] theorem setSignOn_wge (n : Operator) (e : Option Head) : (setSignOn n e s).wge = s.wge := rfl
@[simp] theorem setSignOn_itb (n : Operator) (e : Option Head) : (setSignOn n e s).itb = s.itb := rfl
@[simp] theorem setSignOn_ccu (n : Operator) (e : Option Head) : (setSignOn n e s).ccu = s.ccu := rfl
@[simp] theorem setSignOn_snu (n : Operator) (e : Option Head) : (setSignOn n e s).snu = s.snu := rfl
@[simp] theorem setSignOn_tkp (n : Operator) (e : Option Head) : (setSignOn n e s).tkp = s.tkp := rfl
@[simp] theorem setSignOn_lbc (n : Operator) (e : Option Head) : (setSignOn n e s).lbc = s.lbc := rfl
@[simp] theorem setSignOn_tot (n : Operator) (e : Option Head) : (setSignOn n e s).tot = s.tot := rfl
@[simp] theorem setSignOn_shown (n : Operator) (e : Option Head) : (setSignOn n e s).shown = s.shown := rfl
@[simp] theorem setSignOn_hand (n : Operator) (e : Option Head) : (setSignOn n e s).hand = s.hand := rfl
@[simp] theorem setSignOn_pending (n : Operator) (e : Option Head) : (setSignOn n e s).pending = s.pending := rfl
@[simp] theorem setSignOn_hsu_heads (n : Operator) (e : Option Head) : (setSignOn n e s).hsu.heads = s.hsu.heads := rfl
@[simp] theorem setSignOn_hsu_displays (n : Operator) (e : Option Head) :
    (setSignOn n e s).hsu.displays = s.hsu.displays := rfl
@[simp] theorem settings_setSignOn (n : Operator) (e : Option Head) (a : Head) :
    settings a (setSignOn n e s) = settings a s := rfl
@[simp] theorem role_setSignOn (n : Operator) (e : Option Head) (a : Head) : role a (setSignOn n e s) = role a s := rfl
@[simp] theorem pairSettings_setSignOn (n : Operator) (e : Option Head) (a : Head) :
    pairSettings a (setSignOn n e s) = pairSettings a s := rfl
@[simp] theorem chan_setSignOn (n : Operator) (e : Option Head) (a : Head) : chan a (setSignOn n e s) = chan a s := rfl
@[simp] theorem ctx_setSignOn (n : Operator) (e : Option Head) (a : Head) : ctx a (setSignOn n e s) = ctx a s := rfl
@[simp] theorem service_setSignOn (n : Operator) (e : Option Head) (a : Head) :
    service a (setSignOn n e s) = service a s := rfl
@[simp] theorem ticket_setSignOn (n : Operator) (e : Option Head) (a : TicketSlot) :
    ticket a (setSignOn n e s) = ticket a s := rfl
@[simp] theorem copies_setSignOn (n : Operator) (e : Option Head) (a : Head) :
    copies a (setSignOn n e s) = copies a s := rfl
@[simp] theorem printer_setSignOn (n : Operator) (e : Option Head) (a : Printer) :
    printer a (setSignOn n e s) = printer a s := rfl
@[simp] theorem queue_setSignOn (n : Operator) (e : Option Head) (a : Printer) :
    queue a (setSignOn n e s) = queue a s := rfl
@[simp] theorem slotLink_setSignOn (n : Operator) (e : Option Head) (a : Slot) :
    slotLink a (setSignOn n e s) = slotLink a s := rfl
@[simp] theorem presence_setSignOn (n : Operator) (e : Option Head) (a : Slot) :
    presence a (setSignOn n e s) = presence a s := rfl
@[simp] theorem onLink_setSignOn (n : Operator) (e : Option Head) (a : Slot) :
    onLink a (setSignOn n e s) = onLink a s := rfl
@[simp] theorem headLink_setSignOn (n : Operator) (e : Option Head) (a : Head) :
    headLink a (setSignOn n e s) = headLink a s := rfl
@[simp] theorem inbox_setSignOn (n : Operator) (e : Option Head) (a : Head) :
    inbox a (setSignOn n e s) = inbox a s := rfl
@[simp] theorem findItem_setSignOn (n : Operator) (e : Option Head) (a : Nat) :
    findItem a (setSignOn n e s) = findItem a s := rfl
@[simp] theorem itemAt_setSignOn (n : Operator) (e : Option Head) (a : Nat) :
    itemAt a (setSignOn n e s) = itemAt a s := rfl
@[simp] theorem activeItem_setSignOn (n : Operator) (e : Option Head) (a : Nat) :
    activeItem a (setSignOn n e s) = activeItem a s := rfl
@[simp] theorem dayOpen_setSignOn (n : Operator) (e : Option Head) : dayOpen (setSignOn n e s) = dayOpen s := rfl
@[simp] theorem display_setSignOn (n : Operator) (e : Option Head) (a : Head) :
    display a (setSignOn n e s) = display a s := rfl
@[simp] theorem copyState_setSignOn (n : Operator) (e : Option Head) (a : Head) (b : Nat) :
    copyState a b (setSignOn n e s) = copyState a b s := rfl
@[simp] theorem ticketId_setSignOn (n : Operator) (e : Option Head) (a : TicketSlot) :
    ticketId a (setSignOn n e s) = ticketId a s := rfl
@[simp] theorem queueRoom_setSignOn (n : Operator) (e : Option Head) (a : Printer) :
    queueRoom a (setSignOn n e s) = queueRoom a s := rfl
@[simp] theorem printerDown_setSignOn (n : Operator) (e : Option Head) (a : Printer) :
    printerDown a (setSignOn n e s) = printerDown a s := rfl
@[simp] theorem freshTag_setSignOn (n : Operator) (e : Option Head) : freshTag (setSignOn n e s) = freshTag s := rfl

/-! ### `onTicket` -/

@[simp] theorem onTicket_resetLow (t : TicketSlot) (f : Ticket → Ticket) : (onTicket t f s).resetLow = s.resetLow := rfl
@[simp] theorem onTicket_sdo (t : TicketSlot) (f : Ticket → Ticket) : (onTicket t f s).sdo = s.sdo := rfl
@[simp] theorem onTicket_down (t : TicketSlot) (f : Ticket → Ticket) : (onTicket t f s).down = s.down := rfl
@[simp] theorem onTicket_port (t : TicketSlot) (f : Ticket → Ticket) : (onTicket t f s).port = s.port := rfl
@[simp] theorem onTicket_lnk (t : TicketSlot) (f : Ticket → Ticket) : (onTicket t f s).lnk = s.lnk := rfl
@[simp] theorem onTicket_wge (t : TicketSlot) (f : Ticket → Ticket) : (onTicket t f s).wge = s.wge := rfl
@[simp] theorem onTicket_hsu (t : TicketSlot) (f : Ticket → Ticket) : (onTicket t f s).hsu = s.hsu := rfl
@[simp] theorem onTicket_itb (t : TicketSlot) (f : Ticket → Ticket) : (onTicket t f s).itb = s.itb := rfl
@[simp] theorem onTicket_ccu (t : TicketSlot) (f : Ticket → Ticket) : (onTicket t f s).ccu = s.ccu := rfl
@[simp] theorem onTicket_snu (t : TicketSlot) (f : Ticket → Ticket) : (onTicket t f s).snu = s.snu := rfl
@[simp] theorem onTicket_lbc (t : TicketSlot) (f : Ticket → Ticket) : (onTicket t f s).lbc = s.lbc := rfl
@[simp] theorem onTicket_tot (t : TicketSlot) (f : Ticket → Ticket) : (onTicket t f s).tot = s.tot := rfl
@[simp] theorem onTicket_shown (t : TicketSlot) (f : Ticket → Ticket) : (onTicket t f s).shown = s.shown := rfl
@[simp] theorem onTicket_hand (t : TicketSlot) (f : Ticket → Ticket) : (onTicket t f s).hand = s.hand := rfl
@[simp] theorem onTicket_pending (t : TicketSlot) (f : Ticket → Ticket) : (onTicket t f s).pending = s.pending := rfl
@[simp] theorem onTicket_tkp_collection (t : TicketSlot) (f : Ticket → Ticket) :
    (onTicket t f s).tkp.collection = s.tkp.collection := rfl
@[simp] theorem settings_onTicket (t : TicketSlot) (f : Ticket → Ticket) (a : Head) :
    settings a (onTicket t f s) = settings a s := rfl
@[simp] theorem role_onTicket (t : TicketSlot) (f : Ticket → Ticket) (a : Head) :
    role a (onTicket t f s) = role a s := rfl
@[simp] theorem pairSettings_onTicket (t : TicketSlot) (f : Ticket → Ticket) (a : Head) :
    pairSettings a (onTicket t f s) = pairSettings a s := rfl
@[simp] theorem chan_onTicket (t : TicketSlot) (f : Ticket → Ticket) (a : Head) :
    chan a (onTicket t f s) = chan a s := rfl
@[simp] theorem ctx_onTicket (t : TicketSlot) (f : Ticket → Ticket) (a : Head) : ctx a (onTicket t f s) = ctx a s := rfl
@[simp] theorem service_onTicket (t : TicketSlot) (f : Ticket → Ticket) (a : Head) :
    service a (onTicket t f s) = service a s := rfl
@[simp] theorem signedOnAt_onTicket (t : TicketSlot) (f : Ticket → Ticket) (a : Operator) :
    signedOnAt a (onTicket t f s) = signedOnAt a s := rfl
@[simp] theorem copies_onTicket (t : TicketSlot) (f : Ticket → Ticket) (a : Head) :
    copies a (onTicket t f s) = copies a s := rfl
@[simp] theorem printer_onTicket (t : TicketSlot) (f : Ticket → Ticket) (a : Printer) :
    printer a (onTicket t f s) = printer a s := rfl
@[simp] theorem queue_onTicket (t : TicketSlot) (f : Ticket → Ticket) (a : Printer) :
    queue a (onTicket t f s) = queue a s := rfl
@[simp] theorem slotLink_onTicket (t : TicketSlot) (f : Ticket → Ticket) (a : Slot) :
    slotLink a (onTicket t f s) = slotLink a s := rfl
@[simp] theorem presence_onTicket (t : TicketSlot) (f : Ticket → Ticket) (a : Slot) :
    presence a (onTicket t f s) = presence a s := rfl
@[simp] theorem onLink_onTicket (t : TicketSlot) (f : Ticket → Ticket) (a : Slot) :
    onLink a (onTicket t f s) = onLink a s := rfl
@[simp] theorem headLink_onTicket (t : TicketSlot) (f : Ticket → Ticket) (a : Head) :
    headLink a (onTicket t f s) = headLink a s := rfl
@[simp] theorem inbox_onTicket (t : TicketSlot) (f : Ticket → Ticket) (a : Head) :
    inbox a (onTicket t f s) = inbox a s := rfl
@[simp] theorem findItem_onTicket (t : TicketSlot) (f : Ticket → Ticket) (a : Nat) :
    findItem a (onTicket t f s) = findItem a s := rfl
@[simp] theorem itemAt_onTicket (t : TicketSlot) (f : Ticket → Ticket) (a : Nat) :
    itemAt a (onTicket t f s) = itemAt a s := rfl
@[simp] theorem activeItem_onTicket (t : TicketSlot) (f : Ticket → Ticket) (a : Nat) :
    activeItem a (onTicket t f s) = activeItem a s := rfl
@[simp] theorem dayOpen_onTicket (t : TicketSlot) (f : Ticket → Ticket) : dayOpen (onTicket t f s) = dayOpen s := rfl
@[simp] theorem display_onTicket (t : TicketSlot) (f : Ticket → Ticket) (a : Head) :
    display a (onTicket t f s) = display a s := rfl
@[simp] theorem copyState_onTicket (t : TicketSlot) (f : Ticket → Ticket) (a : Head) (b : Nat) :
    copyState a b (onTicket t f s) = copyState a b s := rfl
@[simp] theorem queueRoom_onTicket (t : TicketSlot) (f : Ticket → Ticket) (a : Printer) :
    queueRoom a (onTicket t f s) = queueRoom a s := rfl
@[simp] theorem printerDown_onTicket (t : TicketSlot) (f : Ticket → Ticket) (a : Printer) :
    printerDown a (onTicket t f s) = printerDown a s := rfl
@[simp] theorem freshTag_onTicket (t : TicketSlot) (f : Ticket → Ticket) : freshTag (onTicket t f s) = freshTag s := rfl

/-! ### `onCopies` -/

@[simp] theorem onCopies_resetLow (h : Head) (f : CopyList → CopyList) : (onCopies h f s).resetLow = s.resetLow := rfl
@[simp] theorem onCopies_sdo (h : Head) (f : CopyList → CopyList) : (onCopies h f s).sdo = s.sdo := rfl
@[simp] theorem onCopies_down (h : Head) (f : CopyList → CopyList) : (onCopies h f s).down = s.down := rfl
@[simp] theorem onCopies_port (h : Head) (f : CopyList → CopyList) : (onCopies h f s).port = s.port := rfl
@[simp] theorem onCopies_lnk (h : Head) (f : CopyList → CopyList) : (onCopies h f s).lnk = s.lnk := rfl
@[simp] theorem onCopies_wge (h : Head) (f : CopyList → CopyList) : (onCopies h f s).wge = s.wge := rfl
@[simp] theorem onCopies_hsu (h : Head) (f : CopyList → CopyList) : (onCopies h f s).hsu = s.hsu := rfl
@[simp] theorem onCopies_itb (h : Head) (f : CopyList → CopyList) : (onCopies h f s).itb = s.itb := rfl
@[simp] theorem onCopies_snu (h : Head) (f : CopyList → CopyList) : (onCopies h f s).snu = s.snu := rfl
@[simp] theorem onCopies_tkp (h : Head) (f : CopyList → CopyList) : (onCopies h f s).tkp = s.tkp := rfl
@[simp] theorem onCopies_lbc (h : Head) (f : CopyList → CopyList) : (onCopies h f s).lbc = s.lbc := rfl
@[simp] theorem onCopies_tot (h : Head) (f : CopyList → CopyList) : (onCopies h f s).tot = s.tot := rfl
@[simp] theorem onCopies_shown (h : Head) (f : CopyList → CopyList) : (onCopies h f s).shown = s.shown := rfl
@[simp] theorem onCopies_hand (h : Head) (f : CopyList → CopyList) : (onCopies h f s).hand = s.hand := rfl
@[simp] theorem onCopies_pending (h : Head) (f : CopyList → CopyList) : (onCopies h f s).pending = s.pending := rfl
@[simp] theorem onCopies_ccu_armed (h : Head) (f : CopyList → CopyList) :
    (onCopies h f s).ccu.armed = s.ccu.armed := rfl
@[simp] theorem settings_onCopies (h : Head) (f : CopyList → CopyList) (a : Head) :
    settings a (onCopies h f s) = settings a s := rfl
@[simp] theorem role_onCopies (h : Head) (f : CopyList → CopyList) (a : Head) :
    role a (onCopies h f s) = role a s := rfl
@[simp] theorem pairSettings_onCopies (h : Head) (f : CopyList → CopyList) (a : Head) :
    pairSettings a (onCopies h f s) = pairSettings a s := rfl
@[simp] theorem chan_onCopies (h : Head) (f : CopyList → CopyList) (a : Head) :
    chan a (onCopies h f s) = chan a s := rfl
@[simp] theorem ctx_onCopies (h : Head) (f : CopyList → CopyList) (a : Head) : ctx a (onCopies h f s) = ctx a s := rfl
@[simp] theorem service_onCopies (h : Head) (f : CopyList → CopyList) (a : Head) :
    service a (onCopies h f s) = service a s := rfl
@[simp] theorem signedOnAt_onCopies (h : Head) (f : CopyList → CopyList) (a : Operator) :
    signedOnAt a (onCopies h f s) = signedOnAt a s := rfl
@[simp] theorem ticket_onCopies (h : Head) (f : CopyList → CopyList) (a : TicketSlot) :
    ticket a (onCopies h f s) = ticket a s := rfl
@[simp] theorem printer_onCopies (h : Head) (f : CopyList → CopyList) (a : Printer) :
    printer a (onCopies h f s) = printer a s := rfl
@[simp] theorem queue_onCopies (h : Head) (f : CopyList → CopyList) (a : Printer) :
    queue a (onCopies h f s) = queue a s := rfl
@[simp] theorem slotLink_onCopies (h : Head) (f : CopyList → CopyList) (a : Slot) :
    slotLink a (onCopies h f s) = slotLink a s := rfl
@[simp] theorem presence_onCopies (h : Head) (f : CopyList → CopyList) (a : Slot) :
    presence a (onCopies h f s) = presence a s := rfl
@[simp] theorem onLink_onCopies (h : Head) (f : CopyList → CopyList) (a : Slot) :
    onLink a (onCopies h f s) = onLink a s := rfl
@[simp] theorem headLink_onCopies (h : Head) (f : CopyList → CopyList) (a : Head) :
    headLink a (onCopies h f s) = headLink a s := rfl
@[simp] theorem inbox_onCopies (h : Head) (f : CopyList → CopyList) (a : Head) :
    inbox a (onCopies h f s) = inbox a s := rfl
@[simp] theorem findItem_onCopies (h : Head) (f : CopyList → CopyList) (a : Nat) :
    findItem a (onCopies h f s) = findItem a s := rfl
@[simp] theorem itemAt_onCopies (h : Head) (f : CopyList → CopyList) (a : Nat) :
    itemAt a (onCopies h f s) = itemAt a s := rfl
@[simp] theorem activeItem_onCopies (h : Head) (f : CopyList → CopyList) (a : Nat) :
    activeItem a (onCopies h f s) = activeItem a s := rfl
@[simp] theorem dayOpen_onCopies (h : Head) (f : CopyList → CopyList) : dayOpen (onCopies h f s) = dayOpen s := rfl
@[simp] theorem display_onCopies (h : Head) (f : CopyList → CopyList) (a : Head) :
    display a (onCopies h f s) = display a s := rfl
@[simp] theorem ticketId_onCopies (h : Head) (f : CopyList → CopyList) (a : TicketSlot) :
    ticketId a (onCopies h f s) = ticketId a s := rfl
@[simp] theorem queueRoom_onCopies (h : Head) (f : CopyList → CopyList) (a : Printer) :
    queueRoom a (onCopies h f s) = queueRoom a s := rfl
@[simp] theorem printerDown_onCopies (h : Head) (f : CopyList → CopyList) (a : Printer) :
    printerDown a (onCopies h f s) = printerDown a s := rfl
@[simp] theorem freshTag_onCopies (h : Head) (f : CopyList → CopyList) : freshTag (onCopies h f s) = freshTag s := rfl

/-! ### `onPrinter` -/

@[simp] theorem onPrinter_resetLow (p : Printer) (f : PrinterCtx → PrinterCtx) :
    (onPrinter p f s).resetLow = s.resetLow := rfl
@[simp] theorem onPrinter_sdo (p : Printer) (f : PrinterCtx → PrinterCtx) : (onPrinter p f s).sdo = s.sdo := rfl
@[simp] theorem onPrinter_down (p : Printer) (f : PrinterCtx → PrinterCtx) : (onPrinter p f s).down = s.down := rfl
@[simp] theorem onPrinter_port (p : Printer) (f : PrinterCtx → PrinterCtx) : (onPrinter p f s).port = s.port := rfl
@[simp] theorem onPrinter_lnk (p : Printer) (f : PrinterCtx → PrinterCtx) : (onPrinter p f s).lnk = s.lnk := rfl
@[simp] theorem onPrinter_wge (p : Printer) (f : PrinterCtx → PrinterCtx) : (onPrinter p f s).wge = s.wge := rfl
@[simp] theorem onPrinter_hsu (p : Printer) (f : PrinterCtx → PrinterCtx) : (onPrinter p f s).hsu = s.hsu := rfl
@[simp] theorem onPrinter_itb (p : Printer) (f : PrinterCtx → PrinterCtx) : (onPrinter p f s).itb = s.itb := rfl
@[simp] theorem onPrinter_ccu (p : Printer) (f : PrinterCtx → PrinterCtx) : (onPrinter p f s).ccu = s.ccu := rfl
@[simp] theorem onPrinter_snu (p : Printer) (f : PrinterCtx → PrinterCtx) : (onPrinter p f s).snu = s.snu := rfl
@[simp] theorem onPrinter_tkp (p : Printer) (f : PrinterCtx → PrinterCtx) : (onPrinter p f s).tkp = s.tkp := rfl
@[simp] theorem onPrinter_tot (p : Printer) (f : PrinterCtx → PrinterCtx) : (onPrinter p f s).tot = s.tot := rfl
@[simp] theorem onPrinter_shown (p : Printer) (f : PrinterCtx → PrinterCtx) : (onPrinter p f s).shown = s.shown := rfl
@[simp] theorem onPrinter_hand (p : Printer) (f : PrinterCtx → PrinterCtx) : (onPrinter p f s).hand = s.hand := rfl
@[simp] theorem onPrinter_pending (p : Printer) (f : PrinterCtx → PrinterCtx) :
    (onPrinter p f s).pending = s.pending := rfl
@[simp] theorem onPrinter_lbc_queues (p : Printer) (f : PrinterCtx → PrinterCtx) :
    (onPrinter p f s).lbc.queues = s.lbc.queues := rfl
@[simp] theorem onPrinter_lbc_candidate (p : Printer) (f : PrinterCtx → PrinterCtx) :
    (onPrinter p f s).lbc.candidate = s.lbc.candidate := rfl
@[simp] theorem onPrinter_lbc_date (p : Printer) (f : PrinterCtx → PrinterCtx) :
    (onPrinter p f s).lbc.date = s.lbc.date := rfl
@[simp] theorem settings_onPrinter (p : Printer) (f : PrinterCtx → PrinterCtx) (a : Head) :
    settings a (onPrinter p f s) = settings a s := rfl
@[simp] theorem role_onPrinter (p : Printer) (f : PrinterCtx → PrinterCtx) (a : Head) :
    role a (onPrinter p f s) = role a s := rfl
@[simp] theorem pairSettings_onPrinter (p : Printer) (f : PrinterCtx → PrinterCtx) (a : Head) :
    pairSettings a (onPrinter p f s) = pairSettings a s := rfl
@[simp] theorem chan_onPrinter (p : Printer) (f : PrinterCtx → PrinterCtx) (a : Head) :
    chan a (onPrinter p f s) = chan a s := rfl
@[simp] theorem ctx_onPrinter (p : Printer) (f : PrinterCtx → PrinterCtx) (a : Head) :
    ctx a (onPrinter p f s) = ctx a s := rfl
@[simp] theorem service_onPrinter (p : Printer) (f : PrinterCtx → PrinterCtx) (a : Head) :
    service a (onPrinter p f s) = service a s := rfl
@[simp] theorem signedOnAt_onPrinter (p : Printer) (f : PrinterCtx → PrinterCtx) (a : Operator) :
    signedOnAt a (onPrinter p f s) = signedOnAt a s := rfl
@[simp] theorem ticket_onPrinter (p : Printer) (f : PrinterCtx → PrinterCtx) (a : TicketSlot) :
    ticket a (onPrinter p f s) = ticket a s := rfl
@[simp] theorem copies_onPrinter (p : Printer) (f : PrinterCtx → PrinterCtx) (a : Head) :
    copies a (onPrinter p f s) = copies a s := rfl
@[simp] theorem queue_onPrinter (p : Printer) (f : PrinterCtx → PrinterCtx) (a : Printer) :
    queue a (onPrinter p f s) = queue a s := rfl
@[simp] theorem slotLink_onPrinter (p : Printer) (f : PrinterCtx → PrinterCtx) (a : Slot) :
    slotLink a (onPrinter p f s) = slotLink a s := rfl
@[simp] theorem presence_onPrinter (p : Printer) (f : PrinterCtx → PrinterCtx) (a : Slot) :
    presence a (onPrinter p f s) = presence a s := rfl
@[simp] theorem onLink_onPrinter (p : Printer) (f : PrinterCtx → PrinterCtx) (a : Slot) :
    onLink a (onPrinter p f s) = onLink a s := rfl
@[simp] theorem headLink_onPrinter (p : Printer) (f : PrinterCtx → PrinterCtx) (a : Head) :
    headLink a (onPrinter p f s) = headLink a s := rfl
@[simp] theorem inbox_onPrinter (p : Printer) (f : PrinterCtx → PrinterCtx) (a : Head) :
    inbox a (onPrinter p f s) = inbox a s := rfl
@[simp] theorem findItem_onPrinter (p : Printer) (f : PrinterCtx → PrinterCtx) (a : Nat) :
    findItem a (onPrinter p f s) = findItem a s := rfl
@[simp] theorem itemAt_onPrinter (p : Printer) (f : PrinterCtx → PrinterCtx) (a : Nat) :
    itemAt a (onPrinter p f s) = itemAt a s := rfl
@[simp] theorem activeItem_onPrinter (p : Printer) (f : PrinterCtx → PrinterCtx) (a : Nat) :
    activeItem a (onPrinter p f s) = activeItem a s := rfl
@[simp] theorem dayOpen_onPrinter (p : Printer) (f : PrinterCtx → PrinterCtx) :
    dayOpen (onPrinter p f s) = dayOpen s := rfl
@[simp] theorem display_onPrinter (p : Printer) (f : PrinterCtx → PrinterCtx) (a : Head) :
    display a (onPrinter p f s) = display a s := rfl
@[simp] theorem copyState_onPrinter (p : Printer) (f : PrinterCtx → PrinterCtx) (a : Head) (b : Nat) :
    copyState a b (onPrinter p f s) = copyState a b s := rfl
@[simp] theorem ticketId_onPrinter (p : Printer) (f : PrinterCtx → PrinterCtx) (a : TicketSlot) :
    ticketId a (onPrinter p f s) = ticketId a s := rfl
@[simp] theorem queueRoom_onPrinter (p : Printer) (f : PrinterCtx → PrinterCtx) (a : Printer) :
    queueRoom a (onPrinter p f s) = queueRoom a s := rfl

/-! ### `onQueue` -/

@[simp] theorem onQueue_resetLow (p : Printer) (f : List Job → List Job) : (onQueue p f s).resetLow = s.resetLow := rfl
@[simp] theorem onQueue_sdo (p : Printer) (f : List Job → List Job) : (onQueue p f s).sdo = s.sdo := rfl
@[simp] theorem onQueue_down (p : Printer) (f : List Job → List Job) : (onQueue p f s).down = s.down := rfl
@[simp] theorem onQueue_port (p : Printer) (f : List Job → List Job) : (onQueue p f s).port = s.port := rfl
@[simp] theorem onQueue_lnk (p : Printer) (f : List Job → List Job) : (onQueue p f s).lnk = s.lnk := rfl
@[simp] theorem onQueue_wge (p : Printer) (f : List Job → List Job) : (onQueue p f s).wge = s.wge := rfl
@[simp] theorem onQueue_hsu (p : Printer) (f : List Job → List Job) : (onQueue p f s).hsu = s.hsu := rfl
@[simp] theorem onQueue_itb (p : Printer) (f : List Job → List Job) : (onQueue p f s).itb = s.itb := rfl
@[simp] theorem onQueue_ccu (p : Printer) (f : List Job → List Job) : (onQueue p f s).ccu = s.ccu := rfl
@[simp] theorem onQueue_snu (p : Printer) (f : List Job → List Job) : (onQueue p f s).snu = s.snu := rfl
@[simp] theorem onQueue_tkp (p : Printer) (f : List Job → List Job) : (onQueue p f s).tkp = s.tkp := rfl
@[simp] theorem onQueue_tot (p : Printer) (f : List Job → List Job) : (onQueue p f s).tot = s.tot := rfl
@[simp] theorem onQueue_shown (p : Printer) (f : List Job → List Job) : (onQueue p f s).shown = s.shown := rfl
@[simp] theorem onQueue_hand (p : Printer) (f : List Job → List Job) : (onQueue p f s).hand = s.hand := rfl
@[simp] theorem onQueue_pending (p : Printer) (f : List Job → List Job) : (onQueue p f s).pending = s.pending := rfl
@[simp] theorem onQueue_lbc_printers (p : Printer) (f : List Job → List Job) :
    (onQueue p f s).lbc.printers = s.lbc.printers := rfl
@[simp] theorem onQueue_lbc_candidate (p : Printer) (f : List Job → List Job) :
    (onQueue p f s).lbc.candidate = s.lbc.candidate := rfl
@[simp] theorem onQueue_lbc_date (p : Printer) (f : List Job → List Job) : (onQueue p f s).lbc.date = s.lbc.date := rfl
@[simp] theorem settings_onQueue (p : Printer) (f : List Job → List Job) (a : Head) :
    settings a (onQueue p f s) = settings a s := rfl
@[simp] theorem role_onQueue (p : Printer) (f : List Job → List Job) (a : Head) :
    role a (onQueue p f s) = role a s := rfl
@[simp] theorem pairSettings_onQueue (p : Printer) (f : List Job → List Job) (a : Head) :
    pairSettings a (onQueue p f s) = pairSettings a s := rfl
@[simp] theorem chan_onQueue (p : Printer) (f : List Job → List Job) (a : Head) :
    chan a (onQueue p f s) = chan a s := rfl
@[simp] theorem ctx_onQueue (p : Printer) (f : List Job → List Job) (a : Head) : ctx a (onQueue p f s) = ctx a s := rfl
@[simp] theorem service_onQueue (p : Printer) (f : List Job → List Job) (a : Head) :
    service a (onQueue p f s) = service a s := rfl
@[simp] theorem signedOnAt_onQueue (p : Printer) (f : List Job → List Job) (a : Operator) :
    signedOnAt a (onQueue p f s) = signedOnAt a s := rfl
@[simp] theorem ticket_onQueue (p : Printer) (f : List Job → List Job) (a : TicketSlot) :
    ticket a (onQueue p f s) = ticket a s := rfl
@[simp] theorem copies_onQueue (p : Printer) (f : List Job → List Job) (a : Head) :
    copies a (onQueue p f s) = copies a s := rfl
@[simp] theorem printer_onQueue (p : Printer) (f : List Job → List Job) (a : Printer) :
    printer a (onQueue p f s) = printer a s := rfl
@[simp] theorem slotLink_onQueue (p : Printer) (f : List Job → List Job) (a : Slot) :
    slotLink a (onQueue p f s) = slotLink a s := rfl
@[simp] theorem presence_onQueue (p : Printer) (f : List Job → List Job) (a : Slot) :
    presence a (onQueue p f s) = presence a s := rfl
@[simp] theorem onLink_onQueue (p : Printer) (f : List Job → List Job) (a : Slot) :
    onLink a (onQueue p f s) = onLink a s := rfl
@[simp] theorem headLink_onQueue (p : Printer) (f : List Job → List Job) (a : Head) :
    headLink a (onQueue p f s) = headLink a s := rfl
@[simp] theorem inbox_onQueue (p : Printer) (f : List Job → List Job) (a : Head) :
    inbox a (onQueue p f s) = inbox a s := rfl
@[simp] theorem findItem_onQueue (p : Printer) (f : List Job → List Job) (a : Nat) :
    findItem a (onQueue p f s) = findItem a s := rfl
@[simp] theorem itemAt_onQueue (p : Printer) (f : List Job → List Job) (a : Nat) :
    itemAt a (onQueue p f s) = itemAt a s := rfl
@[simp] theorem activeItem_onQueue (p : Printer) (f : List Job → List Job) (a : Nat) :
    activeItem a (onQueue p f s) = activeItem a s := rfl
@[simp] theorem dayOpen_onQueue (p : Printer) (f : List Job → List Job) : dayOpen (onQueue p f s) = dayOpen s := rfl
@[simp] theorem display_onQueue (p : Printer) (f : List Job → List Job) (a : Head) :
    display a (onQueue p f s) = display a s := rfl
@[simp] theorem copyState_onQueue (p : Printer) (f : List Job → List Job) (a : Head) (b : Nat) :
    copyState a b (onQueue p f s) = copyState a b s := rfl
@[simp] theorem ticketId_onQueue (p : Printer) (f : List Job → List Job) (a : TicketSlot) :
    ticketId a (onQueue p f s) = ticketId a s := rfl
@[simp] theorem printerDown_onQueue (p : Printer) (f : List Job → List Job) (a : Printer) :
    printerDown a (onQueue p f s) = printerDown a s := rfl

/-! ### `onSlot` -/

@[simp] theorem onSlot_resetLow (i : Slot) (f : SlotLink → SlotLink) : (onSlot i f s).resetLow = s.resetLow := rfl
@[simp] theorem onSlot_sdo (i : Slot) (f : SlotLink → SlotLink) : (onSlot i f s).sdo = s.sdo := rfl
@[simp] theorem onSlot_down (i : Slot) (f : SlotLink → SlotLink) : (onSlot i f s).down = s.down := rfl
@[simp] theorem onSlot_port (i : Slot) (f : SlotLink → SlotLink) : (onSlot i f s).port = s.port := rfl
@[simp] theorem onSlot_wge (i : Slot) (f : SlotLink → SlotLink) : (onSlot i f s).wge = s.wge := rfl
@[simp] theorem onSlot_hsu (i : Slot) (f : SlotLink → SlotLink) : (onSlot i f s).hsu = s.hsu := rfl
@[simp] theorem onSlot_itb (i : Slot) (f : SlotLink → SlotLink) : (onSlot i f s).itb = s.itb := rfl
@[simp] theorem onSlot_ccu (i : Slot) (f : SlotLink → SlotLink) : (onSlot i f s).ccu = s.ccu := rfl
@[simp] theorem onSlot_snu (i : Slot) (f : SlotLink → SlotLink) : (onSlot i f s).snu = s.snu := rfl
@[simp] theorem onSlot_tkp (i : Slot) (f : SlotLink → SlotLink) : (onSlot i f s).tkp = s.tkp := rfl
@[simp] theorem onSlot_lbc (i : Slot) (f : SlotLink → SlotLink) : (onSlot i f s).lbc = s.lbc := rfl
@[simp] theorem onSlot_tot (i : Slot) (f : SlotLink → SlotLink) : (onSlot i f s).tot = s.tot := rfl
@[simp] theorem onSlot_shown (i : Slot) (f : SlotLink → SlotLink) : (onSlot i f s).shown = s.shown := rfl
@[simp] theorem onSlot_hand (i : Slot) (f : SlotLink → SlotLink) : (onSlot i f s).hand = s.hand := rfl
@[simp] theorem onSlot_pending (i : Slot) (f : SlotLink → SlotLink) : (onSlot i f s).pending = s.pending := rfl
@[simp] theorem onSlot_lnk_frame (i : Slot) (f : SlotLink → SlotLink) : (onSlot i f s).lnk.frame = s.lnk.frame := rfl
@[simp] theorem onSlot_lnk_mask (i : Slot) (f : SlotLink → SlotLink) : (onSlot i f s).lnk.mask = s.lnk.mask := rfl
@[simp] theorem onSlot_lnk_pendingMask (i : Slot) (f : SlotLink → SlotLink) :
    (onSlot i f s).lnk.pendingMask = s.lnk.pendingMask := rfl
@[simp] theorem onSlot_lnk_restart (i : Slot) (f : SlotLink → SlotLink) :
    (onSlot i f s).lnk.restart = s.lnk.restart := rfl
@[simp] theorem onSlot_lnk_heads (i : Slot) (f : SlotLink → SlotLink) : (onSlot i f s).lnk.heads = s.lnk.heads := rfl
@[simp] theorem settings_onSlot (i : Slot) (f : SlotLink → SlotLink) (a : Head) :
    settings a (onSlot i f s) = settings a s := rfl
@[simp] theorem role_onSlot (i : Slot) (f : SlotLink → SlotLink) (a : Head) : role a (onSlot i f s) = role a s := rfl
@[simp] theorem pairSettings_onSlot (i : Slot) (f : SlotLink → SlotLink) (a : Head) :
    pairSettings a (onSlot i f s) = pairSettings a s := rfl
@[simp] theorem chan_onSlot (i : Slot) (f : SlotLink → SlotLink) (a : Head) : chan a (onSlot i f s) = chan a s := rfl
@[simp] theorem ctx_onSlot (i : Slot) (f : SlotLink → SlotLink) (a : Head) : ctx a (onSlot i f s) = ctx a s := rfl
@[simp] theorem service_onSlot (i : Slot) (f : SlotLink → SlotLink) (a : Head) :
    service a (onSlot i f s) = service a s := rfl
@[simp] theorem signedOnAt_onSlot (i : Slot) (f : SlotLink → SlotLink) (a : Operator) :
    signedOnAt a (onSlot i f s) = signedOnAt a s := rfl
@[simp] theorem ticket_onSlot (i : Slot) (f : SlotLink → SlotLink) (a : TicketSlot) :
    ticket a (onSlot i f s) = ticket a s := rfl
@[simp] theorem copies_onSlot (i : Slot) (f : SlotLink → SlotLink) (a : Head) :
    copies a (onSlot i f s) = copies a s := rfl
@[simp] theorem printer_onSlot (i : Slot) (f : SlotLink → SlotLink) (a : Printer) :
    printer a (onSlot i f s) = printer a s := rfl
@[simp] theorem queue_onSlot (i : Slot) (f : SlotLink → SlotLink) (a : Printer) :
    queue a (onSlot i f s) = queue a s := rfl
@[simp] theorem headLink_onSlot (i : Slot) (f : SlotLink → SlotLink) (a : Head) :
    headLink a (onSlot i f s) = headLink a s := rfl
@[simp] theorem inbox_onSlot (i : Slot) (f : SlotLink → SlotLink) (a : Head) : inbox a (onSlot i f s) = inbox a s := rfl
@[simp] theorem findItem_onSlot (i : Slot) (f : SlotLink → SlotLink) (a : Nat) :
    findItem a (onSlot i f s) = findItem a s := rfl
@[simp] theorem itemAt_onSlot (i : Slot) (f : SlotLink → SlotLink) (a : Nat) :
    itemAt a (onSlot i f s) = itemAt a s := rfl
@[simp] theorem activeItem_onSlot (i : Slot) (f : SlotLink → SlotLink) (a : Nat) :
    activeItem a (onSlot i f s) = activeItem a s := rfl
@[simp] theorem dayOpen_onSlot (i : Slot) (f : SlotLink → SlotLink) : dayOpen (onSlot i f s) = dayOpen s := rfl
@[simp] theorem display_onSlot (i : Slot) (f : SlotLink → SlotLink) (a : Head) :
    display a (onSlot i f s) = display a s := rfl
@[simp] theorem copyState_onSlot (i : Slot) (f : SlotLink → SlotLink) (a : Head) (b : Nat) :
    copyState a b (onSlot i f s) = copyState a b s := rfl
@[simp] theorem ticketId_onSlot (i : Slot) (f : SlotLink → SlotLink) (a : TicketSlot) :
    ticketId a (onSlot i f s) = ticketId a s := rfl
@[simp] theorem queueRoom_onSlot (i : Slot) (f : SlotLink → SlotLink) (a : Printer) :
    queueRoom a (onSlot i f s) = queueRoom a s := rfl
@[simp] theorem printerDown_onSlot (i : Slot) (f : SlotLink → SlotLink) (a : Printer) :
    printerDown a (onSlot i f s) = printerDown a s := rfl
@[simp] theorem freshTag_onSlot (i : Slot) (f : SlotLink → SlotLink) : freshTag (onSlot i f s) = freshTag s := rfl

/-! ### `onHeadLink` -/

@[simp] theorem onHeadLink_resetLow (h : Head) (f : HeadLink → HeadLink) :
    (onHeadLink h f s).resetLow = s.resetLow := rfl
@[simp] theorem onHeadLink_sdo (h : Head) (f : HeadLink → HeadLink) : (onHeadLink h f s).sdo = s.sdo := rfl
@[simp] theorem onHeadLink_down (h : Head) (f : HeadLink → HeadLink) : (onHeadLink h f s).down = s.down := rfl
@[simp] theorem onHeadLink_port (h : Head) (f : HeadLink → HeadLink) : (onHeadLink h f s).port = s.port := rfl
@[simp] theorem onHeadLink_wge (h : Head) (f : HeadLink → HeadLink) : (onHeadLink h f s).wge = s.wge := rfl
@[simp] theorem onHeadLink_hsu (h : Head) (f : HeadLink → HeadLink) : (onHeadLink h f s).hsu = s.hsu := rfl
@[simp] theorem onHeadLink_itb (h : Head) (f : HeadLink → HeadLink) : (onHeadLink h f s).itb = s.itb := rfl
@[simp] theorem onHeadLink_ccu (h : Head) (f : HeadLink → HeadLink) : (onHeadLink h f s).ccu = s.ccu := rfl
@[simp] theorem onHeadLink_snu (h : Head) (f : HeadLink → HeadLink) : (onHeadLink h f s).snu = s.snu := rfl
@[simp] theorem onHeadLink_tkp (h : Head) (f : HeadLink → HeadLink) : (onHeadLink h f s).tkp = s.tkp := rfl
@[simp] theorem onHeadLink_lbc (h : Head) (f : HeadLink → HeadLink) : (onHeadLink h f s).lbc = s.lbc := rfl
@[simp] theorem onHeadLink_tot (h : Head) (f : HeadLink → HeadLink) : (onHeadLink h f s).tot = s.tot := rfl
@[simp] theorem onHeadLink_shown (h : Head) (f : HeadLink → HeadLink) : (onHeadLink h f s).shown = s.shown := rfl
@[simp] theorem onHeadLink_hand (h : Head) (f : HeadLink → HeadLink) : (onHeadLink h f s).hand = s.hand := rfl
@[simp] theorem onHeadLink_pending (h : Head) (f : HeadLink → HeadLink) : (onHeadLink h f s).pending = s.pending := rfl
@[simp] theorem onHeadLink_lnk_frame (h : Head) (f : HeadLink → HeadLink) :
    (onHeadLink h f s).lnk.frame = s.lnk.frame := rfl
@[simp] theorem onHeadLink_lnk_mask (h : Head) (f : HeadLink → HeadLink) :
    (onHeadLink h f s).lnk.mask = s.lnk.mask := rfl
@[simp] theorem onHeadLink_lnk_pendingMask (h : Head) (f : HeadLink → HeadLink) :
    (onHeadLink h f s).lnk.pendingMask = s.lnk.pendingMask := rfl
@[simp] theorem onHeadLink_lnk_restart (h : Head) (f : HeadLink → HeadLink) :
    (onHeadLink h f s).lnk.restart = s.lnk.restart := rfl
@[simp] theorem onHeadLink_lnk_slots (h : Head) (f : HeadLink → HeadLink) :
    (onHeadLink h f s).lnk.slots = s.lnk.slots := rfl
@[simp] theorem settings_onHeadLink (h : Head) (f : HeadLink → HeadLink) (a : Head) :
    settings a (onHeadLink h f s) = settings a s := rfl
@[simp] theorem role_onHeadLink (h : Head) (f : HeadLink → HeadLink) (a : Head) :
    role a (onHeadLink h f s) = role a s := rfl
@[simp] theorem pairSettings_onHeadLink (h : Head) (f : HeadLink → HeadLink) (a : Head) :
    pairSettings a (onHeadLink h f s) = pairSettings a s := rfl
@[simp] theorem chan_onHeadLink (h : Head) (f : HeadLink → HeadLink) (a : Head) :
    chan a (onHeadLink h f s) = chan a s := rfl
@[simp] theorem ctx_onHeadLink (h : Head) (f : HeadLink → HeadLink) (a : Head) :
    ctx a (onHeadLink h f s) = ctx a s := rfl
@[simp] theorem service_onHeadLink (h : Head) (f : HeadLink → HeadLink) (a : Head) :
    service a (onHeadLink h f s) = service a s := rfl
@[simp] theorem signedOnAt_onHeadLink (h : Head) (f : HeadLink → HeadLink) (a : Operator) :
    signedOnAt a (onHeadLink h f s) = signedOnAt a s := rfl
@[simp] theorem ticket_onHeadLink (h : Head) (f : HeadLink → HeadLink) (a : TicketSlot) :
    ticket a (onHeadLink h f s) = ticket a s := rfl
@[simp] theorem copies_onHeadLink (h : Head) (f : HeadLink → HeadLink) (a : Head) :
    copies a (onHeadLink h f s) = copies a s := rfl
@[simp] theorem printer_onHeadLink (h : Head) (f : HeadLink → HeadLink) (a : Printer) :
    printer a (onHeadLink h f s) = printer a s := rfl
@[simp] theorem queue_onHeadLink (h : Head) (f : HeadLink → HeadLink) (a : Printer) :
    queue a (onHeadLink h f s) = queue a s := rfl
@[simp] theorem slotLink_onHeadLink (h : Head) (f : HeadLink → HeadLink) (a : Slot) :
    slotLink a (onHeadLink h f s) = slotLink a s := rfl
@[simp] theorem presence_onHeadLink (h : Head) (f : HeadLink → HeadLink) (a : Slot) :
    presence a (onHeadLink h f s) = presence a s := rfl
@[simp] theorem onLink_onHeadLink (h : Head) (f : HeadLink → HeadLink) (a : Slot) :
    onLink a (onHeadLink h f s) = onLink a s := rfl
@[simp] theorem inbox_onHeadLink (h : Head) (f : HeadLink → HeadLink) (a : Head) :
    inbox a (onHeadLink h f s) = inbox a s := rfl
@[simp] theorem findItem_onHeadLink (h : Head) (f : HeadLink → HeadLink) (a : Nat) :
    findItem a (onHeadLink h f s) = findItem a s := rfl
@[simp] theorem itemAt_onHeadLink (h : Head) (f : HeadLink → HeadLink) (a : Nat) :
    itemAt a (onHeadLink h f s) = itemAt a s := rfl
@[simp] theorem activeItem_onHeadLink (h : Head) (f : HeadLink → HeadLink) (a : Nat) :
    activeItem a (onHeadLink h f s) = activeItem a s := rfl
@[simp] theorem dayOpen_onHeadLink (h : Head) (f : HeadLink → HeadLink) : dayOpen (onHeadLink h f s) = dayOpen s := rfl
@[simp] theorem display_onHeadLink (h : Head) (f : HeadLink → HeadLink) (a : Head) :
    display a (onHeadLink h f s) = display a s := rfl
@[simp] theorem copyState_onHeadLink (h : Head) (f : HeadLink → HeadLink) (a : Head) (b : Nat) :
    copyState a b (onHeadLink h f s) = copyState a b s := rfl
@[simp] theorem ticketId_onHeadLink (h : Head) (f : HeadLink → HeadLink) (a : TicketSlot) :
    ticketId a (onHeadLink h f s) = ticketId a s := rfl
@[simp] theorem queueRoom_onHeadLink (h : Head) (f : HeadLink → HeadLink) (a : Printer) :
    queueRoom a (onHeadLink h f s) = queueRoom a s := rfl
@[simp] theorem printerDown_onHeadLink (h : Head) (f : HeadLink → HeadLink) (a : Printer) :
    printerDown a (onHeadLink h f s) = printerDown a s := rfl
@[simp] theorem freshTag_onHeadLink (h : Head) (f : HeadLink → HeadLink) :
    freshTag (onHeadLink h f s) = freshTag s := rfl

/-! ### `onInbox` -/

@[simp] theorem onInbox_resetLow (h : Head) (f : Inbox → Inbox) : (onInbox h f s).resetLow = s.resetLow := rfl
@[simp] theorem onInbox_sdo (h : Head) (f : Inbox → Inbox) : (onInbox h f s).sdo = s.sdo := rfl
@[simp] theorem onInbox_down (h : Head) (f : Inbox → Inbox) : (onInbox h f s).down = s.down := rfl
@[simp] theorem onInbox_port (h : Head) (f : Inbox → Inbox) : (onInbox h f s).port = s.port := rfl
@[simp] theorem onInbox_lnk (h : Head) (f : Inbox → Inbox) : (onInbox h f s).lnk = s.lnk := rfl
@[simp] theorem onInbox_wge (h : Head) (f : Inbox → Inbox) : (onInbox h f s).wge = s.wge := rfl
@[simp] theorem onInbox_hsu (h : Head) (f : Inbox → Inbox) : (onInbox h f s).hsu = s.hsu := rfl
@[simp] theorem onInbox_itb (h : Head) (f : Inbox → Inbox) : (onInbox h f s).itb = s.itb := rfl
@[simp] theorem onInbox_ccu (h : Head) (f : Inbox → Inbox) : (onInbox h f s).ccu = s.ccu := rfl
@[simp] theorem onInbox_snu (h : Head) (f : Inbox → Inbox) : (onInbox h f s).snu = s.snu := rfl
@[simp] theorem onInbox_tkp (h : Head) (f : Inbox → Inbox) : (onInbox h f s).tkp = s.tkp := rfl
@[simp] theorem onInbox_lbc (h : Head) (f : Inbox → Inbox) : (onInbox h f s).lbc = s.lbc := rfl
@[simp] theorem onInbox_tot (h : Head) (f : Inbox → Inbox) : (onInbox h f s).tot = s.tot := rfl
@[simp] theorem onInbox_shown (h : Head) (f : Inbox → Inbox) : (onInbox h f s).shown = s.shown := rfl
@[simp] theorem onInbox_pending (h : Head) (f : Inbox → Inbox) : (onInbox h f s).pending = s.pending := rfl
@[simp] theorem onInbox_hand_hsu (h : Head) (f : Inbox → Inbox) : (onInbox h f s).hand.hsu = s.hand.hsu := rfl
@[simp] theorem onInbox_hand_ccu (h : Head) (f : Inbox → Inbox) : (onInbox h f s).hand.ccu = s.hand.ccu := rfl
@[simp] theorem onInbox_hand_tkp (h : Head) (f : Inbox → Inbox) : (onInbox h f s).hand.tkp = s.hand.tkp := rfl
@[simp] theorem settings_onInbox (h : Head) (f : Inbox → Inbox) (a : Head) :
    settings a (onInbox h f s) = settings a s := rfl
@[simp] theorem role_onInbox (h : Head) (f : Inbox → Inbox) (a : Head) : role a (onInbox h f s) = role a s := rfl
@[simp] theorem pairSettings_onInbox (h : Head) (f : Inbox → Inbox) (a : Head) :
    pairSettings a (onInbox h f s) = pairSettings a s := rfl
@[simp] theorem chan_onInbox (h : Head) (f : Inbox → Inbox) (a : Head) : chan a (onInbox h f s) = chan a s := rfl
@[simp] theorem ctx_onInbox (h : Head) (f : Inbox → Inbox) (a : Head) : ctx a (onInbox h f s) = ctx a s := rfl
@[simp] theorem service_onInbox (h : Head) (f : Inbox → Inbox) (a : Head) :
    service a (onInbox h f s) = service a s := rfl
@[simp] theorem signedOnAt_onInbox (h : Head) (f : Inbox → Inbox) (a : Operator) :
    signedOnAt a (onInbox h f s) = signedOnAt a s := rfl
@[simp] theorem ticket_onInbox (h : Head) (f : Inbox → Inbox) (a : TicketSlot) :
    ticket a (onInbox h f s) = ticket a s := rfl
@[simp] theorem copies_onInbox (h : Head) (f : Inbox → Inbox) (a : Head) : copies a (onInbox h f s) = copies a s := rfl
@[simp] theorem printer_onInbox (h : Head) (f : Inbox → Inbox) (a : Printer) :
    printer a (onInbox h f s) = printer a s := rfl
@[simp] theorem queue_onInbox (h : Head) (f : Inbox → Inbox) (a : Printer) : queue a (onInbox h f s) = queue a s := rfl
@[simp] theorem slotLink_onInbox (h : Head) (f : Inbox → Inbox) (a : Slot) :
    slotLink a (onInbox h f s) = slotLink a s := rfl
@[simp] theorem presence_onInbox (h : Head) (f : Inbox → Inbox) (a : Slot) :
    presence a (onInbox h f s) = presence a s := rfl
@[simp] theorem onLink_onInbox (h : Head) (f : Inbox → Inbox) (a : Slot) : onLink a (onInbox h f s) = onLink a s := rfl
@[simp] theorem headLink_onInbox (h : Head) (f : Inbox → Inbox) (a : Head) :
    headLink a (onInbox h f s) = headLink a s := rfl
@[simp] theorem findItem_onInbox (h : Head) (f : Inbox → Inbox) (a : Nat) :
    findItem a (onInbox h f s) = findItem a s := rfl
@[simp] theorem itemAt_onInbox (h : Head) (f : Inbox → Inbox) (a : Nat) : itemAt a (onInbox h f s) = itemAt a s := rfl
@[simp] theorem activeItem_onInbox (h : Head) (f : Inbox → Inbox) (a : Nat) :
    activeItem a (onInbox h f s) = activeItem a s := rfl
@[simp] theorem dayOpen_onInbox (h : Head) (f : Inbox → Inbox) : dayOpen (onInbox h f s) = dayOpen s := rfl
@[simp] theorem display_onInbox (h : Head) (f : Inbox → Inbox) (a : Head) :
    display a (onInbox h f s) = display a s := rfl
@[simp] theorem copyState_onInbox (h : Head) (f : Inbox → Inbox) (a : Head) (b : Nat) :
    copyState a b (onInbox h f s) = copyState a b s := rfl
@[simp] theorem ticketId_onInbox (h : Head) (f : Inbox → Inbox) (a : TicketSlot) :
    ticketId a (onInbox h f s) = ticketId a s := rfl
@[simp] theorem queueRoom_onInbox (h : Head) (f : Inbox → Inbox) (a : Printer) :
    queueRoom a (onInbox h f s) = queueRoom a s := rfl
@[simp] theorem printerDown_onInbox (h : Head) (f : Inbox → Inbox) (a : Printer) :
    printerDown a (onInbox h f s) = printerDown a s := rfl
@[simp] theorem freshTag_onInbox (h : Head) (f : Inbox → Inbox) : freshTag (onInbox h f s) = freshTag s := rfl

/-! ### `onItems` -/

@[simp] theorem onItems_resetLow (f : List Item → List Item) : (onItems f s).resetLow = s.resetLow := rfl
@[simp] theorem onItems_sdo (f : List Item → List Item) : (onItems f s).sdo = s.sdo := rfl
@[simp] theorem onItems_down (f : List Item → List Item) : (onItems f s).down = s.down := rfl
@[simp] theorem onItems_port (f : List Item → List Item) : (onItems f s).port = s.port := rfl
@[simp] theorem onItems_lnk (f : List Item → List Item) : (onItems f s).lnk = s.lnk := rfl
@[simp] theorem onItems_wge (f : List Item → List Item) : (onItems f s).wge = s.wge := rfl
@[simp] theorem onItems_hsu (f : List Item → List Item) : (onItems f s).hsu = s.hsu := rfl
@[simp] theorem onItems_ccu (f : List Item → List Item) : (onItems f s).ccu = s.ccu := rfl
@[simp] theorem onItems_snu (f : List Item → List Item) : (onItems f s).snu = s.snu := rfl
@[simp] theorem onItems_tkp (f : List Item → List Item) : (onItems f s).tkp = s.tkp := rfl
@[simp] theorem onItems_lbc (f : List Item → List Item) : (onItems f s).lbc = s.lbc := rfl
@[simp] theorem onItems_tot (f : List Item → List Item) : (onItems f s).tot = s.tot := rfl
@[simp] theorem onItems_shown (f : List Item → List Item) : (onItems f s).shown = s.shown := rfl
@[simp] theorem onItems_hand (f : List Item → List Item) : (onItems f s).hand = s.hand := rfl
@[simp] theorem onItems_pending (f : List Item → List Item) : (onItems f s).pending = s.pending := rfl
@[simp] theorem onItems_itb_generation (f : List Item → List Item) :
    (onItems f s).itb.generation = s.itb.generation := rfl
@[simp] theorem settings_onItems (f : List Item → List Item) (a : Head) : settings a (onItems f s) = settings a s := rfl
@[simp] theorem role_onItems (f : List Item → List Item) (a : Head) : role a (onItems f s) = role a s := rfl
@[simp] theorem pairSettings_onItems (f : List Item → List Item) (a : Head) :
    pairSettings a (onItems f s) = pairSettings a s := rfl
@[simp] theorem chan_onItems (f : List Item → List Item) (a : Head) : chan a (onItems f s) = chan a s := rfl
@[simp] theorem ctx_onItems (f : List Item → List Item) (a : Head) : ctx a (onItems f s) = ctx a s := rfl
@[simp] theorem service_onItems (f : List Item → List Item) (a : Head) : service a (onItems f s) = service a s := rfl
@[simp] theorem signedOnAt_onItems (f : List Item → List Item) (a : Operator) :
    signedOnAt a (onItems f s) = signedOnAt a s := rfl
@[simp] theorem ticket_onItems (f : List Item → List Item) (a : TicketSlot) : ticket a (onItems f s) = ticket a s := rfl
@[simp] theorem copies_onItems (f : List Item → List Item) (a : Head) : copies a (onItems f s) = copies a s := rfl
@[simp] theorem printer_onItems (f : List Item → List Item) (a : Printer) : printer a (onItems f s) = printer a s := rfl
@[simp] theorem queue_onItems (f : List Item → List Item) (a : Printer) : queue a (onItems f s) = queue a s := rfl
@[simp] theorem slotLink_onItems (f : List Item → List Item) (a : Slot) : slotLink a (onItems f s) = slotLink a s := rfl
@[simp] theorem presence_onItems (f : List Item → List Item) (a : Slot) : presence a (onItems f s) = presence a s := rfl
@[simp] theorem onLink_onItems (f : List Item → List Item) (a : Slot) : onLink a (onItems f s) = onLink a s := rfl
@[simp] theorem headLink_onItems (f : List Item → List Item) (a : Head) : headLink a (onItems f s) = headLink a s := rfl
@[simp] theorem inbox_onItems (f : List Item → List Item) (a : Head) : inbox a (onItems f s) = inbox a s := rfl
@[simp] theorem dayOpen_onItems (f : List Item → List Item) : dayOpen (onItems f s) = dayOpen s := rfl
@[simp] theorem display_onItems (f : List Item → List Item) (a : Head) : display a (onItems f s) = display a s := rfl
@[simp] theorem copyState_onItems (f : List Item → List Item) (a : Head) (b : Nat) :
    copyState a b (onItems f s) = copyState a b s := rfl
@[simp] theorem ticketId_onItems (f : List Item → List Item) (a : TicketSlot) :
    ticketId a (onItems f s) = ticketId a s := rfl
@[simp] theorem queueRoom_onItems (f : List Item → List Item) (a : Printer) :
    queueRoom a (onItems f s) = queueRoom a s := rfl
@[simp] theorem printerDown_onItems (f : List Item → List Item) (a : Printer) :
    printerDown a (onItems f s) = printerDown a s := rfl
@[simp] theorem freshTag_onItems (f : List Item → List Item) : freshTag (onItems f s) = freshTag s := rfl

/-! ### `onSnu` -/

@[simp] theorem onSnu_resetLow (f : Snu → Snu) : (onSnu f s).resetLow = s.resetLow := rfl
@[simp] theorem onSnu_sdo (f : Snu → Snu) : (onSnu f s).sdo = s.sdo := rfl
@[simp] theorem onSnu_down (f : Snu → Snu) : (onSnu f s).down = s.down := rfl
@[simp] theorem onSnu_port (f : Snu → Snu) : (onSnu f s).port = s.port := rfl
@[simp] theorem onSnu_lnk (f : Snu → Snu) : (onSnu f s).lnk = s.lnk := rfl
@[simp] theorem onSnu_wge (f : Snu → Snu) : (onSnu f s).wge = s.wge := rfl
@[simp] theorem onSnu_hsu (f : Snu → Snu) : (onSnu f s).hsu = s.hsu := rfl
@[simp] theorem onSnu_itb (f : Snu → Snu) : (onSnu f s).itb = s.itb := rfl
@[simp] theorem onSnu_ccu (f : Snu → Snu) : (onSnu f s).ccu = s.ccu := rfl
@[simp] theorem onSnu_tkp (f : Snu → Snu) : (onSnu f s).tkp = s.tkp := rfl
@[simp] theorem onSnu_lbc (f : Snu → Snu) : (onSnu f s).lbc = s.lbc := rfl
@[simp] theorem onSnu_tot (f : Snu → Snu) : (onSnu f s).tot = s.tot := rfl
@[simp] theorem onSnu_shown (f : Snu → Snu) : (onSnu f s).shown = s.shown := rfl
@[simp] theorem onSnu_hand (f : Snu → Snu) : (onSnu f s).hand = s.hand := rfl
@[simp] theorem onSnu_pending (f : Snu → Snu) : (onSnu f s).pending = s.pending := rfl
@[simp] theorem settings_onSnu (f : Snu → Snu) (a : Head) : settings a (onSnu f s) = settings a s := rfl
@[simp] theorem role_onSnu (f : Snu → Snu) (a : Head) : role a (onSnu f s) = role a s := rfl
@[simp] theorem pairSettings_onSnu (f : Snu → Snu) (a : Head) : pairSettings a (onSnu f s) = pairSettings a s := rfl
@[simp] theorem chan_onSnu (f : Snu → Snu) (a : Head) : chan a (onSnu f s) = chan a s := rfl
@[simp] theorem ctx_onSnu (f : Snu → Snu) (a : Head) : ctx a (onSnu f s) = ctx a s := rfl
@[simp] theorem service_onSnu (f : Snu → Snu) (a : Head) : service a (onSnu f s) = service a s := rfl
@[simp] theorem signedOnAt_onSnu (f : Snu → Snu) (a : Operator) : signedOnAt a (onSnu f s) = signedOnAt a s := rfl
@[simp] theorem ticket_onSnu (f : Snu → Snu) (a : TicketSlot) : ticket a (onSnu f s) = ticket a s := rfl
@[simp] theorem copies_onSnu (f : Snu → Snu) (a : Head) : copies a (onSnu f s) = copies a s := rfl
@[simp] theorem printer_onSnu (f : Snu → Snu) (a : Printer) : printer a (onSnu f s) = printer a s := rfl
@[simp] theorem queue_onSnu (f : Snu → Snu) (a : Printer) : queue a (onSnu f s) = queue a s := rfl
@[simp] theorem slotLink_onSnu (f : Snu → Snu) (a : Slot) : slotLink a (onSnu f s) = slotLink a s := rfl
@[simp] theorem presence_onSnu (f : Snu → Snu) (a : Slot) : presence a (onSnu f s) = presence a s := rfl
@[simp] theorem onLink_onSnu (f : Snu → Snu) (a : Slot) : onLink a (onSnu f s) = onLink a s := rfl
@[simp] theorem headLink_onSnu (f : Snu → Snu) (a : Head) : headLink a (onSnu f s) = headLink a s := rfl
@[simp] theorem inbox_onSnu (f : Snu → Snu) (a : Head) : inbox a (onSnu f s) = inbox a s := rfl
@[simp] theorem findItem_onSnu (f : Snu → Snu) (a : Nat) : findItem a (onSnu f s) = findItem a s := rfl
@[simp] theorem itemAt_onSnu (f : Snu → Snu) (a : Nat) : itemAt a (onSnu f s) = itemAt a s := rfl
@[simp] theorem activeItem_onSnu (f : Snu → Snu) (a : Nat) : activeItem a (onSnu f s) = activeItem a s := rfl
@[simp] theorem dayOpen_onSnu (f : Snu → Snu) : dayOpen (onSnu f s) = dayOpen s := rfl
@[simp] theorem display_onSnu (f : Snu → Snu) (a : Head) : display a (onSnu f s) = display a s := rfl
@[simp] theorem copyState_onSnu (f : Snu → Snu) (a : Head) (b : Nat) :
    copyState a b (onSnu f s) = copyState a b s := rfl
@[simp] theorem ticketId_onSnu (f : Snu → Snu) (a : TicketSlot) : ticketId a (onSnu f s) = ticketId a s := rfl
@[simp] theorem queueRoom_onSnu (f : Snu → Snu) (a : Printer) : queueRoom a (onSnu f s) = queueRoom a s := rfl
@[simp] theorem printerDown_onSnu (f : Snu → Snu) (a : Printer) : printerDown a (onSnu f s) = printerDown a s := rfl
@[simp] theorem freshTag_onSnu (f : Snu → Snu) : freshTag (onSnu f s) = freshTag s := rfl

/-! ### `latch` -/

@[simp] theorem latch_resetLow (f : Latched → Latched) : (latch f s).resetLow = s.resetLow := rfl
@[simp] theorem latch_sdo (f : Latched → Latched) : (latch f s).sdo = s.sdo := rfl
@[simp] theorem latch_down (f : Latched → Latched) : (latch f s).down = s.down := rfl
@[simp] theorem latch_lnk (f : Latched → Latched) : (latch f s).lnk = s.lnk := rfl
@[simp] theorem latch_wge (f : Latched → Latched) : (latch f s).wge = s.wge := rfl
@[simp] theorem latch_hsu (f : Latched → Latched) : (latch f s).hsu = s.hsu := rfl
@[simp] theorem latch_itb (f : Latched → Latched) : (latch f s).itb = s.itb := rfl
@[simp] theorem latch_ccu (f : Latched → Latched) : (latch f s).ccu = s.ccu := rfl
@[simp] theorem latch_snu (f : Latched → Latched) : (latch f s).snu = s.snu := rfl
@[simp] theorem latch_tkp (f : Latched → Latched) : (latch f s).tkp = s.tkp := rfl
@[simp] theorem latch_lbc (f : Latched → Latched) : (latch f s).lbc = s.lbc := rfl
@[simp] theorem latch_tot (f : Latched → Latched) : (latch f s).tot = s.tot := rfl
@[simp] theorem latch_shown (f : Latched → Latched) : (latch f s).shown = s.shown := rfl
@[simp] theorem latch_hand (f : Latched → Latched) : (latch f s).hand = s.hand := rfl
@[simp] theorem latch_pending (f : Latched → Latched) : (latch f s).pending = s.pending := rfl
@[simp] theorem latch_port_inProcess (f : Latched → Latched) : (latch f s).port.inProcess = s.port.inProcess := rfl
@[simp] theorem latch_port_buffer (f : Latched → Latched) : (latch f s).port.buffer = s.port.buffer := rfl
@[simp] theorem latch_port_serial (f : Latched → Latched) : (latch f s).port.serial = s.port.serial := rfl
@[simp] theorem settings_latch (f : Latched → Latched) (a : Head) : settings a (latch f s) = settings a s := rfl
@[simp] theorem role_latch (f : Latched → Latched) (a : Head) : role a (latch f s) = role a s := rfl
@[simp] theorem pairSettings_latch (f : Latched → Latched) (a : Head) :
    pairSettings a (latch f s) = pairSettings a s := rfl
@[simp] theorem chan_latch (f : Latched → Latched) (a : Head) : chan a (latch f s) = chan a s := rfl
@[simp] theorem ctx_latch (f : Latched → Latched) (a : Head) : ctx a (latch f s) = ctx a s := rfl
@[simp] theorem service_latch (f : Latched → Latched) (a : Head) : service a (latch f s) = service a s := rfl
@[simp] theorem signedOnAt_latch (f : Latched → Latched) (a : Operator) :
    signedOnAt a (latch f s) = signedOnAt a s := rfl
@[simp] theorem ticket_latch (f : Latched → Latched) (a : TicketSlot) : ticket a (latch f s) = ticket a s := rfl
@[simp] theorem copies_latch (f : Latched → Latched) (a : Head) : copies a (latch f s) = copies a s := rfl
@[simp] theorem printer_latch (f : Latched → Latched) (a : Printer) : printer a (latch f s) = printer a s := rfl
@[simp] theorem queue_latch (f : Latched → Latched) (a : Printer) : queue a (latch f s) = queue a s := rfl
@[simp] theorem slotLink_latch (f : Latched → Latched) (a : Slot) : slotLink a (latch f s) = slotLink a s := rfl
@[simp] theorem presence_latch (f : Latched → Latched) (a : Slot) : presence a (latch f s) = presence a s := rfl
@[simp] theorem onLink_latch (f : Latched → Latched) (a : Slot) : onLink a (latch f s) = onLink a s := rfl
@[simp] theorem headLink_latch (f : Latched → Latched) (a : Head) : headLink a (latch f s) = headLink a s := rfl
@[simp] theorem inbox_latch (f : Latched → Latched) (a : Head) : inbox a (latch f s) = inbox a s := rfl
@[simp] theorem findItem_latch (f : Latched → Latched) (a : Nat) : findItem a (latch f s) = findItem a s := rfl
@[simp] theorem itemAt_latch (f : Latched → Latched) (a : Nat) : itemAt a (latch f s) = itemAt a s := rfl
@[simp] theorem activeItem_latch (f : Latched → Latched) (a : Nat) : activeItem a (latch f s) = activeItem a s := rfl
@[simp] theorem dayOpen_latch (f : Latched → Latched) : dayOpen (latch f s) = dayOpen s := rfl
@[simp] theorem display_latch (f : Latched → Latched) (a : Head) : display a (latch f s) = display a s := rfl
@[simp] theorem copyState_latch (f : Latched → Latched) (a : Head) (b : Nat) :
    copyState a b (latch f s) = copyState a b s := rfl
@[simp] theorem ticketId_latch (f : Latched → Latched) (a : TicketSlot) : ticketId a (latch f s) = ticketId a s := rfl
@[simp] theorem queueRoom_latch (f : Latched → Latched) (a : Printer) : queueRoom a (latch f s) = queueRoom a s := rfl
@[simp] theorem printerDown_latch (f : Latched → Latched) (a : Printer) :
    printerDown a (latch f s) = printerDown a s := rfl
@[simp] theorem freshTag_latch (f : Latched → Latched) : freshTag (latch f s) = freshTag s := rfl

/-! ### `send` -/

@[simp] theorem send_resetLow (i : Fin 12) (m : Downstream) : (send i m s).resetLow = s.resetLow := rfl
@[simp] theorem send_sdo (i : Fin 12) (m : Downstream) : (send i m s).sdo = s.sdo := rfl
@[simp] theorem send_port (i : Fin 12) (m : Downstream) : (send i m s).port = s.port := rfl
@[simp] theorem send_lnk (i : Fin 12) (m : Downstream) : (send i m s).lnk = s.lnk := rfl
@[simp] theorem send_wge (i : Fin 12) (m : Downstream) : (send i m s).wge = s.wge := rfl
@[simp] theorem send_hsu (i : Fin 12) (m : Downstream) : (send i m s).hsu = s.hsu := rfl
@[simp] theorem send_itb (i : Fin 12) (m : Downstream) : (send i m s).itb = s.itb := rfl
@[simp] theorem send_ccu (i : Fin 12) (m : Downstream) : (send i m s).ccu = s.ccu := rfl
@[simp] theorem send_snu (i : Fin 12) (m : Downstream) : (send i m s).snu = s.snu := rfl
@[simp] theorem send_tkp (i : Fin 12) (m : Downstream) : (send i m s).tkp = s.tkp := rfl
@[simp] theorem send_lbc (i : Fin 12) (m : Downstream) : (send i m s).lbc = s.lbc := rfl
@[simp] theorem send_tot (i : Fin 12) (m : Downstream) : (send i m s).tot = s.tot := rfl
@[simp] theorem send_shown (i : Fin 12) (m : Downstream) : (send i m s).shown = s.shown := rfl
@[simp] theorem send_hand (i : Fin 12) (m : Downstream) : (send i m s).hand = s.hand := rfl
@[simp] theorem send_pending (i : Fin 12) (m : Downstream) : (send i m s).pending = s.pending := rfl
@[simp] theorem settings_send (i : Fin 12) (m : Downstream) (a : Head) : settings a (send i m s) = settings a s := rfl
@[simp] theorem role_send (i : Fin 12) (m : Downstream) (a : Head) : role a (send i m s) = role a s := rfl
@[simp] theorem pairSettings_send (i : Fin 12) (m : Downstream) (a : Head) :
    pairSettings a (send i m s) = pairSettings a s := rfl
@[simp] theorem chan_send (i : Fin 12) (m : Downstream) (a : Head) : chan a (send i m s) = chan a s := rfl
@[simp] theorem ctx_send (i : Fin 12) (m : Downstream) (a : Head) : ctx a (send i m s) = ctx a s := rfl
@[simp] theorem service_send (i : Fin 12) (m : Downstream) (a : Head) : service a (send i m s) = service a s := rfl
@[simp] theorem signedOnAt_send (i : Fin 12) (m : Downstream) (a : Operator) :
    signedOnAt a (send i m s) = signedOnAt a s := rfl
@[simp] theorem ticket_send (i : Fin 12) (m : Downstream) (a : TicketSlot) : ticket a (send i m s) = ticket a s := rfl
@[simp] theorem copies_send (i : Fin 12) (m : Downstream) (a : Head) : copies a (send i m s) = copies a s := rfl
@[simp] theorem printer_send (i : Fin 12) (m : Downstream) (a : Printer) : printer a (send i m s) = printer a s := rfl
@[simp] theorem queue_send (i : Fin 12) (m : Downstream) (a : Printer) : queue a (send i m s) = queue a s := rfl
@[simp] theorem slotLink_send (i : Fin 12) (m : Downstream) (a : Slot) : slotLink a (send i m s) = slotLink a s := rfl
@[simp] theorem presence_send (i : Fin 12) (m : Downstream) (a : Slot) : presence a (send i m s) = presence a s := rfl
@[simp] theorem onLink_send (i : Fin 12) (m : Downstream) (a : Slot) : onLink a (send i m s) = onLink a s := rfl
@[simp] theorem headLink_send (i : Fin 12) (m : Downstream) (a : Head) : headLink a (send i m s) = headLink a s := rfl
@[simp] theorem inbox_send (i : Fin 12) (m : Downstream) (a : Head) : inbox a (send i m s) = inbox a s := rfl
@[simp] theorem findItem_send (i : Fin 12) (m : Downstream) (a : Nat) : findItem a (send i m s) = findItem a s := rfl
@[simp] theorem itemAt_send (i : Fin 12) (m : Downstream) (a : Nat) : itemAt a (send i m s) = itemAt a s := rfl
@[simp] theorem activeItem_send (i : Fin 12) (m : Downstream) (a : Nat) :
    activeItem a (send i m s) = activeItem a s := rfl
@[simp] theorem dayOpen_send (i : Fin 12) (m : Downstream) : dayOpen (send i m s) = dayOpen s := rfl
@[simp] theorem display_send (i : Fin 12) (m : Downstream) (a : Head) : display a (send i m s) = display a s := rfl
@[simp] theorem copyState_send (i : Fin 12) (m : Downstream) (a : Head) (b : Nat) :
    copyState a b (send i m s) = copyState a b s := rfl
@[simp] theorem ticketId_send (i : Fin 12) (m : Downstream) (a : TicketSlot) :
    ticketId a (send i m s) = ticketId a s := rfl
@[simp] theorem queueRoom_send (i : Fin 12) (m : Downstream) (a : Printer) :
    queueRoom a (send i m s) = queueRoom a s := rfl
@[simp] theorem printerDown_send (i : Fin 12) (m : Downstream) (a : Printer) :
    printerDown a (send i m s) = printerDown a s := rfl
@[simp] theorem freshTag_send (i : Fin 12) (m : Downstream) : freshTag (send i m s) = freshTag s := rfl

/-! ### `setWatch` -/

@[simp] theorem setWatch_resetLow (w : Bool) : (setWatch w s).resetLow = s.resetLow := rfl
@[simp] theorem setWatch_sdo (w : Bool) : (setWatch w s).sdo = s.sdo := rfl
@[simp] theorem setWatch_down (w : Bool) : (setWatch w s).down = s.down := rfl
@[simp] theorem setWatch_port (w : Bool) : (setWatch w s).port = s.port := rfl
@[simp] theorem setWatch_lnk (w : Bool) : (setWatch w s).lnk = s.lnk := rfl
@[simp] theorem setWatch_wge (w : Bool) : (setWatch w s).wge = s.wge := rfl
@[simp] theorem setWatch_hsu (w : Bool) : (setWatch w s).hsu = s.hsu := rfl
@[simp] theorem setWatch_itb (w : Bool) : (setWatch w s).itb = s.itb := rfl
@[simp] theorem setWatch_snu (w : Bool) : (setWatch w s).snu = s.snu := rfl
@[simp] theorem setWatch_tkp (w : Bool) : (setWatch w s).tkp = s.tkp := rfl
@[simp] theorem setWatch_lbc (w : Bool) : (setWatch w s).lbc = s.lbc := rfl
@[simp] theorem setWatch_tot (w : Bool) : (setWatch w s).tot = s.tot := rfl
@[simp] theorem setWatch_shown (w : Bool) : (setWatch w s).shown = s.shown := rfl
@[simp] theorem setWatch_hand (w : Bool) : (setWatch w s).hand = s.hand := rfl
@[simp] theorem setWatch_pending (w : Bool) : (setWatch w s).pending = s.pending := rfl
@[simp] theorem setWatch_ccu_lists (w : Bool) : (setWatch w s).ccu.lists = s.ccu.lists := rfl
@[simp] theorem settings_setWatch (w : Bool) (a : Head) : settings a (setWatch w s) = settings a s := rfl
@[simp] theorem role_setWatch (w : Bool) (a : Head) : role a (setWatch w s) = role a s := rfl
@[simp] theorem pairSettings_setWatch (w : Bool) (a : Head) : pairSettings a (setWatch w s) = pairSettings a s := rfl
@[simp] theorem chan_setWatch (w : Bool) (a : Head) : chan a (setWatch w s) = chan a s := rfl
@[simp] theorem ctx_setWatch (w : Bool) (a : Head) : ctx a (setWatch w s) = ctx a s := rfl
@[simp] theorem service_setWatch (w : Bool) (a : Head) : service a (setWatch w s) = service a s := rfl
@[simp] theorem signedOnAt_setWatch (w : Bool) (a : Operator) : signedOnAt a (setWatch w s) = signedOnAt a s := rfl
@[simp] theorem ticket_setWatch (w : Bool) (a : TicketSlot) : ticket a (setWatch w s) = ticket a s := rfl
@[simp] theorem copies_setWatch (w : Bool) (a : Head) : copies a (setWatch w s) = copies a s := rfl
@[simp] theorem printer_setWatch (w : Bool) (a : Printer) : printer a (setWatch w s) = printer a s := rfl
@[simp] theorem queue_setWatch (w : Bool) (a : Printer) : queue a (setWatch w s) = queue a s := rfl
@[simp] theorem slotLink_setWatch (w : Bool) (a : Slot) : slotLink a (setWatch w s) = slotLink a s := rfl
@[simp] theorem presence_setWatch (w : Bool) (a : Slot) : presence a (setWatch w s) = presence a s := rfl
@[simp] theorem onLink_setWatch (w : Bool) (a : Slot) : onLink a (setWatch w s) = onLink a s := rfl
@[simp] theorem headLink_setWatch (w : Bool) (a : Head) : headLink a (setWatch w s) = headLink a s := rfl
@[simp] theorem inbox_setWatch (w : Bool) (a : Head) : inbox a (setWatch w s) = inbox a s := rfl
@[simp] theorem findItem_setWatch (w : Bool) (a : Nat) : findItem a (setWatch w s) = findItem a s := rfl
@[simp] theorem itemAt_setWatch (w : Bool) (a : Nat) : itemAt a (setWatch w s) = itemAt a s := rfl
@[simp] theorem activeItem_setWatch (w : Bool) (a : Nat) : activeItem a (setWatch w s) = activeItem a s := rfl
@[simp] theorem dayOpen_setWatch (w : Bool) : dayOpen (setWatch w s) = dayOpen s := rfl
@[simp] theorem display_setWatch (w : Bool) (a : Head) : display a (setWatch w s) = display a s := rfl
@[simp] theorem copyState_setWatch (w : Bool) (a : Head) (b : Nat) :
    copyState a b (setWatch w s) = copyState a b s := rfl
@[simp] theorem ticketId_setWatch (w : Bool) (a : TicketSlot) : ticketId a (setWatch w s) = ticketId a s := rfl
@[simp] theorem queueRoom_setWatch (w : Bool) (a : Printer) : queueRoom a (setWatch w s) = queueRoom a s := rfl
@[simp] theorem printerDown_setWatch (w : Bool) (a : Printer) : printerDown a (setWatch w s) = printerDown a s := rfl
@[simp] theorem freshTag_setWatch (w : Bool) : freshTag (setWatch w s) = freshTag s := rfl

/-! ### `setDay` -/

@[simp] theorem setDay_resetLow (d : DayState) : (setDay d s).resetLow = s.resetLow := rfl
@[simp] theorem setDay_sdo (d : DayState) : (setDay d s).sdo = s.sdo := rfl
@[simp] theorem setDay_down (d : DayState) : (setDay d s).down = s.down := rfl
@[simp] theorem setDay_port (d : DayState) : (setDay d s).port = s.port := rfl
@[simp] theorem setDay_lnk (d : DayState) : (setDay d s).lnk = s.lnk := rfl
@[simp] theorem setDay_wge (d : DayState) : (setDay d s).wge = s.wge := rfl
@[simp] theorem setDay_hsu (d : DayState) : (setDay d s).hsu = s.hsu := rfl
@[simp] theorem setDay_itb (d : DayState) : (setDay d s).itb = s.itb := rfl
@[simp] theorem setDay_ccu (d : DayState) : (setDay d s).ccu = s.ccu := rfl
@[simp] theorem setDay_snu (d : DayState) : (setDay d s).snu = s.snu := rfl
@[simp] theorem setDay_tkp (d : DayState) : (setDay d s).tkp = s.tkp := rfl
@[simp] theorem setDay_lbc (d : DayState) : (setDay d s).lbc = s.lbc := rfl
@[simp] theorem setDay_shown (d : DayState) : (setDay d s).shown = s.shown := rfl
@[simp] theorem setDay_hand (d : DayState) : (setDay d s).hand = s.hand := rfl
@[simp] theorem setDay_pending (d : DayState) : (setDay d s).pending = s.pending := rfl
@[simp] theorem setDay_tot_grand (d : DayState) : (setDay d s).tot.grand = s.tot.grand := rfl
@[simp] theorem setDay_tot_heads (d : DayState) : (setDay d s).tot.heads = s.tot.heads := rfl
@[simp] theorem setDay_tot_operators (d : DayState) : (setDay d s).tot.operators = s.tot.operators := rfl
@[simp] theorem setDay_tot_departments (d : DayState) : (setDay d s).tot.departments = s.tot.departments := rfl
@[simp] theorem setDay_tot_cursor (d : DayState) : (setDay d s).tot.cursor = s.tot.cursor := rfl
@[simp] theorem setDay_tot_drained (d : DayState) : (setDay d s).tot.drained = s.tot.drained := rfl
@[simp] theorem setDay_tot_lastEntry (d : DayState) : (setDay d s).tot.lastEntry = s.tot.lastEntry := rfl
@[simp] theorem setDay_tot_hold (d : DayState) : (setDay d s).tot.hold = s.tot.hold := rfl
@[simp] theorem setDay_tot_holdSerial (d : DayState) : (setDay d s).tot.holdSerial = s.tot.holdSerial := rfl
@[simp] theorem settings_setDay (d : DayState) (a : Head) : settings a (setDay d s) = settings a s := rfl
@[simp] theorem role_setDay (d : DayState) (a : Head) : role a (setDay d s) = role a s := rfl
@[simp] theorem pairSettings_setDay (d : DayState) (a : Head) : pairSettings a (setDay d s) = pairSettings a s := rfl
@[simp] theorem chan_setDay (d : DayState) (a : Head) : chan a (setDay d s) = chan a s := rfl
@[simp] theorem ctx_setDay (d : DayState) (a : Head) : ctx a (setDay d s) = ctx a s := rfl
@[simp] theorem service_setDay (d : DayState) (a : Head) : service a (setDay d s) = service a s := rfl
@[simp] theorem signedOnAt_setDay (d : DayState) (a : Operator) : signedOnAt a (setDay d s) = signedOnAt a s := rfl
@[simp] theorem ticket_setDay (d : DayState) (a : TicketSlot) : ticket a (setDay d s) = ticket a s := rfl
@[simp] theorem copies_setDay (d : DayState) (a : Head) : copies a (setDay d s) = copies a s := rfl
@[simp] theorem printer_setDay (d : DayState) (a : Printer) : printer a (setDay d s) = printer a s := rfl
@[simp] theorem queue_setDay (d : DayState) (a : Printer) : queue a (setDay d s) = queue a s := rfl
@[simp] theorem slotLink_setDay (d : DayState) (a : Slot) : slotLink a (setDay d s) = slotLink a s := rfl
@[simp] theorem presence_setDay (d : DayState) (a : Slot) : presence a (setDay d s) = presence a s := rfl
@[simp] theorem onLink_setDay (d : DayState) (a : Slot) : onLink a (setDay d s) = onLink a s := rfl
@[simp] theorem headLink_setDay (d : DayState) (a : Head) : headLink a (setDay d s) = headLink a s := rfl
@[simp] theorem inbox_setDay (d : DayState) (a : Head) : inbox a (setDay d s) = inbox a s := rfl
@[simp] theorem findItem_setDay (d : DayState) (a : Nat) : findItem a (setDay d s) = findItem a s := rfl
@[simp] theorem itemAt_setDay (d : DayState) (a : Nat) : itemAt a (setDay d s) = itemAt a s := rfl
@[simp] theorem activeItem_setDay (d : DayState) (a : Nat) : activeItem a (setDay d s) = activeItem a s := rfl
@[simp] theorem display_setDay (d : DayState) (a : Head) : display a (setDay d s) = display a s := rfl
@[simp] theorem copyState_setDay (d : DayState) (a : Head) (b : Nat) :
    copyState a b (setDay d s) = copyState a b s := rfl
@[simp] theorem ticketId_setDay (d : DayState) (a : TicketSlot) : ticketId a (setDay d s) = ticketId a s := rfl
@[simp] theorem queueRoom_setDay (d : DayState) (a : Printer) : queueRoom a (setDay d s) = queueRoom a s := rfl
@[simp] theorem printerDown_setDay (d : DayState) (a : Printer) : printerDown a (setDay d s) = printerDown a s := rfl
@[simp] theorem freshTag_setDay (d : DayState) : freshTag (setDay d s) = freshTag s := rfl

/-! ### `setDate` -/

@[simp] theorem setDate_resetLow (d : Option Date) : (setDate d s).resetLow = s.resetLow := rfl
@[simp] theorem setDate_sdo (d : Option Date) : (setDate d s).sdo = s.sdo := rfl
@[simp] theorem setDate_down (d : Option Date) : (setDate d s).down = s.down := rfl
@[simp] theorem setDate_port (d : Option Date) : (setDate d s).port = s.port := rfl
@[simp] theorem setDate_lnk (d : Option Date) : (setDate d s).lnk = s.lnk := rfl
@[simp] theorem setDate_wge (d : Option Date) : (setDate d s).wge = s.wge := rfl
@[simp] theorem setDate_hsu (d : Option Date) : (setDate d s).hsu = s.hsu := rfl
@[simp] theorem setDate_itb (d : Option Date) : (setDate d s).itb = s.itb := rfl
@[simp] theorem setDate_ccu (d : Option Date) : (setDate d s).ccu = s.ccu := rfl
@[simp] theorem setDate_snu (d : Option Date) : (setDate d s).snu = s.snu := rfl
@[simp] theorem setDate_tkp (d : Option Date) : (setDate d s).tkp = s.tkp := rfl
@[simp] theorem setDate_tot (d : Option Date) : (setDate d s).tot = s.tot := rfl
@[simp] theorem setDate_shown (d : Option Date) : (setDate d s).shown = s.shown := rfl
@[simp] theorem setDate_hand (d : Option Date) : (setDate d s).hand = s.hand := rfl
@[simp] theorem setDate_pending (d : Option Date) : (setDate d s).pending = s.pending := rfl
@[simp] theorem setDate_lbc_printers (d : Option Date) : (setDate d s).lbc.printers = s.lbc.printers := rfl
@[simp] theorem setDate_lbc_queues (d : Option Date) : (setDate d s).lbc.queues = s.lbc.queues := rfl
@[simp] theorem setDate_lbc_candidate (d : Option Date) : (setDate d s).lbc.candidate = s.lbc.candidate := rfl
@[simp] theorem settings_setDate (d : Option Date) (a : Head) : settings a (setDate d s) = settings a s := rfl
@[simp] theorem role_setDate (d : Option Date) (a : Head) : role a (setDate d s) = role a s := rfl
@[simp] theorem pairSettings_setDate (d : Option Date) (a : Head) :
    pairSettings a (setDate d s) = pairSettings a s := rfl
@[simp] theorem chan_setDate (d : Option Date) (a : Head) : chan a (setDate d s) = chan a s := rfl
@[simp] theorem ctx_setDate (d : Option Date) (a : Head) : ctx a (setDate d s) = ctx a s := rfl
@[simp] theorem service_setDate (d : Option Date) (a : Head) : service a (setDate d s) = service a s := rfl
@[simp] theorem signedOnAt_setDate (d : Option Date) (a : Operator) : signedOnAt a (setDate d s) = signedOnAt a s := rfl
@[simp] theorem ticket_setDate (d : Option Date) (a : TicketSlot) : ticket a (setDate d s) = ticket a s := rfl
@[simp] theorem copies_setDate (d : Option Date) (a : Head) : copies a (setDate d s) = copies a s := rfl
@[simp] theorem printer_setDate (d : Option Date) (a : Printer) : printer a (setDate d s) = printer a s := rfl
@[simp] theorem queue_setDate (d : Option Date) (a : Printer) : queue a (setDate d s) = queue a s := rfl
@[simp] theorem slotLink_setDate (d : Option Date) (a : Slot) : slotLink a (setDate d s) = slotLink a s := rfl
@[simp] theorem presence_setDate (d : Option Date) (a : Slot) : presence a (setDate d s) = presence a s := rfl
@[simp] theorem onLink_setDate (d : Option Date) (a : Slot) : onLink a (setDate d s) = onLink a s := rfl
@[simp] theorem headLink_setDate (d : Option Date) (a : Head) : headLink a (setDate d s) = headLink a s := rfl
@[simp] theorem inbox_setDate (d : Option Date) (a : Head) : inbox a (setDate d s) = inbox a s := rfl
@[simp] theorem findItem_setDate (d : Option Date) (a : Nat) : findItem a (setDate d s) = findItem a s := rfl
@[simp] theorem itemAt_setDate (d : Option Date) (a : Nat) : itemAt a (setDate d s) = itemAt a s := rfl
@[simp] theorem activeItem_setDate (d : Option Date) (a : Nat) : activeItem a (setDate d s) = activeItem a s := rfl
@[simp] theorem dayOpen_setDate (d : Option Date) : dayOpen (setDate d s) = dayOpen s := rfl
@[simp] theorem display_setDate (d : Option Date) (a : Head) : display a (setDate d s) = display a s := rfl
@[simp] theorem copyState_setDate (d : Option Date) (a : Head) (b : Nat) :
    copyState a b (setDate d s) = copyState a b s := rfl
@[simp] theorem ticketId_setDate (d : Option Date) (a : TicketSlot) : ticketId a (setDate d s) = ticketId a s := rfl
@[simp] theorem queueRoom_setDate (d : Option Date) (a : Printer) : queueRoom a (setDate d s) = queueRoom a s := rfl
@[simp] theorem printerDown_setDate (d : Option Date) (a : Printer) :
    printerDown a (setDate d s) = printerDown a s := rfl
@[simp] theorem freshTag_setDate (d : Option Date) : freshTag (setDate d s) = freshTag s := rfl

/-! ### `storeSettings` -/

@[simp] theorem storeSettings_resetLow (h : Head) (c : HeadSettings) :
    (storeSettings h c s).resetLow = s.resetLow := rfl
@[simp] theorem storeSettings_sdo (h : Head) (c : HeadSettings) : (storeSettings h c s).sdo = s.sdo := rfl
@[simp] theorem storeSettings_down (h : Head) (c : HeadSettings) : (storeSettings h c s).down = s.down := rfl
@[simp] theorem storeSettings_port (h : Head) (c : HeadSettings) : (storeSettings h c s).port = s.port := rfl
@[simp] theorem storeSettings_lnk (h : Head) (c : HeadSettings) : (storeSettings h c s).lnk = s.lnk := rfl
@[simp] theorem storeSettings_hsu (h : Head) (c : HeadSettings) : (storeSettings h c s).hsu = s.hsu := rfl
@[simp] theorem storeSettings_itb (h : Head) (c : HeadSettings) : (storeSettings h c s).itb = s.itb := rfl
@[simp] theorem storeSettings_ccu (h : Head) (c : HeadSettings) : (storeSettings h c s).ccu = s.ccu := rfl
@[simp] theorem storeSettings_snu (h : Head) (c : HeadSettings) : (storeSettings h c s).snu = s.snu := rfl
@[simp] theorem storeSettings_tkp (h : Head) (c : HeadSettings) : (storeSettings h c s).tkp = s.tkp := rfl
@[simp] theorem storeSettings_lbc (h : Head) (c : HeadSettings) : (storeSettings h c s).lbc = s.lbc := rfl
@[simp] theorem storeSettings_tot (h : Head) (c : HeadSettings) : (storeSettings h c s).tot = s.tot := rfl
@[simp] theorem storeSettings_shown (h : Head) (c : HeadSettings) : (storeSettings h c s).shown = s.shown := rfl
@[simp] theorem storeSettings_hand (h : Head) (c : HeadSettings) : (storeSettings h c s).hand = s.hand := rfl
@[simp] theorem storeSettings_pending (h : Head) (c : HeadSettings) : (storeSettings h c s).pending = s.pending := rfl
@[simp] theorem storeSettings_wge_pairs (h : Head) (c : HeadSettings) :
    (storeSettings h c s).wge.pairs = s.wge.pairs := rfl
@[simp] theorem storeSettings_wge_chans (h : Head) (c : HeadSettings) :
    (storeSettings h c s).wge.chans = s.wge.chans := rfl
@[simp] theorem pairSettings_storeSettings (h : Head) (c : HeadSettings) (a : Head) :
    pairSettings a (storeSettings h c s) = pairSettings a s := rfl
@[simp] theorem chan_storeSettings (h : Head) (c : HeadSettings) (a : Head) :
    chan a (storeSettings h c s) = chan a s := rfl
@[simp] theorem ctx_storeSettings (h : Head) (c : HeadSettings) (a : Head) :
    ctx a (storeSettings h c s) = ctx a s := rfl
@[simp] theorem service_storeSettings (h : Head) (c : HeadSettings) (a : Head) :
    service a (storeSettings h c s) = service a s := rfl
@[simp] theorem signedOnAt_storeSettings (h : Head) (c : HeadSettings) (a : Operator) :
    signedOnAt a (storeSettings h c s) = signedOnAt a s := rfl
@[simp] theorem ticket_storeSettings (h : Head) (c : HeadSettings) (a : TicketSlot) :
    ticket a (storeSettings h c s) = ticket a s := rfl
@[simp] theorem copies_storeSettings (h : Head) (c : HeadSettings) (a : Head) :
    copies a (storeSettings h c s) = copies a s := rfl
@[simp] theorem printer_storeSettings (h : Head) (c : HeadSettings) (a : Printer) :
    printer a (storeSettings h c s) = printer a s := rfl
@[simp] theorem queue_storeSettings (h : Head) (c : HeadSettings) (a : Printer) :
    queue a (storeSettings h c s) = queue a s := rfl
@[simp] theorem slotLink_storeSettings (h : Head) (c : HeadSettings) (a : Slot) :
    slotLink a (storeSettings h c s) = slotLink a s := rfl
@[simp] theorem presence_storeSettings (h : Head) (c : HeadSettings) (a : Slot) :
    presence a (storeSettings h c s) = presence a s := rfl
@[simp] theorem onLink_storeSettings (h : Head) (c : HeadSettings) (a : Slot) :
    onLink a (storeSettings h c s) = onLink a s := rfl
@[simp] theorem headLink_storeSettings (h : Head) (c : HeadSettings) (a : Head) :
    headLink a (storeSettings h c s) = headLink a s := rfl
@[simp] theorem inbox_storeSettings (h : Head) (c : HeadSettings) (a : Head) :
    inbox a (storeSettings h c s) = inbox a s := rfl
@[simp] theorem findItem_storeSettings (h : Head) (c : HeadSettings) (a : Nat) :
    findItem a (storeSettings h c s) = findItem a s := rfl
@[simp] theorem itemAt_storeSettings (h : Head) (c : HeadSettings) (a : Nat) :
    itemAt a (storeSettings h c s) = itemAt a s := rfl
@[simp] theorem activeItem_storeSettings (h : Head) (c : HeadSettings) (a : Nat) :
    activeItem a (storeSettings h c s) = activeItem a s := rfl
@[simp] theorem dayOpen_storeSettings (h : Head) (c : HeadSettings) : dayOpen (storeSettings h c s) = dayOpen s := rfl
@[simp] theorem display_storeSettings (h : Head) (c : HeadSettings) (a : Head) :
    display a (storeSettings h c s) = display a s := rfl
@[simp] theorem copyState_storeSettings (h : Head) (c : HeadSettings) (a : Head) (b : Nat) :
    copyState a b (storeSettings h c s) = copyState a b s := rfl
@[simp] theorem ticketId_storeSettings (h : Head) (c : HeadSettings) (a : TicketSlot) :
    ticketId a (storeSettings h c s) = ticketId a s := rfl
@[simp] theorem queueRoom_storeSettings (h : Head) (c : HeadSettings) (a : Printer) :
    queueRoom a (storeSettings h c s) = queueRoom a s := rfl
@[simp] theorem printerDown_storeSettings (h : Head) (c : HeadSettings) (a : Printer) :
    printerDown a (storeSettings h c s) = printerDown a s := rfl
@[simp] theorem freshTag_storeSettings (h : Head) (c : HeadSettings) :
    freshTag (storeSettings h c s) = freshTag s := rfl

/-! ### `storePair` -/

@[simp] theorem storePair_resetLow (p : PairIndex) (c : PairSettings) : (storePair p c s).resetLow = s.resetLow := rfl
@[simp] theorem storePair_sdo (p : PairIndex) (c : PairSettings) : (storePair p c s).sdo = s.sdo := rfl
@[simp] theorem storePair_down (p : PairIndex) (c : PairSettings) : (storePair p c s).down = s.down := rfl
@[simp] theorem storePair_port (p : PairIndex) (c : PairSettings) : (storePair p c s).port = s.port := rfl
@[simp] theorem storePair_lnk (p : PairIndex) (c : PairSettings) : (storePair p c s).lnk = s.lnk := rfl
@[simp] theorem storePair_hsu (p : PairIndex) (c : PairSettings) : (storePair p c s).hsu = s.hsu := rfl
@[simp] theorem storePair_itb (p : PairIndex) (c : PairSettings) : (storePair p c s).itb = s.itb := rfl
@[simp] theorem storePair_ccu (p : PairIndex) (c : PairSettings) : (storePair p c s).ccu = s.ccu := rfl
@[simp] theorem storePair_snu (p : PairIndex) (c : PairSettings) : (storePair p c s).snu = s.snu := rfl
@[simp] theorem storePair_tkp (p : PairIndex) (c : PairSettings) : (storePair p c s).tkp = s.tkp := rfl
@[simp] theorem storePair_lbc (p : PairIndex) (c : PairSettings) : (storePair p c s).lbc = s.lbc := rfl
@[simp] theorem storePair_tot (p : PairIndex) (c : PairSettings) : (storePair p c s).tot = s.tot := rfl
@[simp] theorem storePair_shown (p : PairIndex) (c : PairSettings) : (storePair p c s).shown = s.shown := rfl
@[simp] theorem storePair_hand (p : PairIndex) (c : PairSettings) : (storePair p c s).hand = s.hand := rfl
@[simp] theorem storePair_pending (p : PairIndex) (c : PairSettings) : (storePair p c s).pending = s.pending := rfl
@[simp] theorem storePair_wge_settings (p : PairIndex) (c : PairSettings) :
    (storePair p c s).wge.settings = s.wge.settings := rfl
@[simp] theorem storePair_wge_chans (p : PairIndex) (c : PairSettings) :
    (storePair p c s).wge.chans = s.wge.chans := rfl
@[simp] theorem settings_storePair (p : PairIndex) (c : PairSettings) (a : Head) :
    settings a (storePair p c s) = settings a s := rfl
@[simp] theorem role_storePair (p : PairIndex) (c : PairSettings) (a : Head) :
    role a (storePair p c s) = role a s := rfl
@[simp] theorem chan_storePair (p : PairIndex) (c : PairSettings) (a : Head) :
    chan a (storePair p c s) = chan a s := rfl
@[simp] theorem ctx_storePair (p : PairIndex) (c : PairSettings) (a : Head) : ctx a (storePair p c s) = ctx a s := rfl
@[simp] theorem service_storePair (p : PairIndex) (c : PairSettings) (a : Head) :
    service a (storePair p c s) = service a s := rfl
@[simp] theorem signedOnAt_storePair (p : PairIndex) (c : PairSettings) (a : Operator) :
    signedOnAt a (storePair p c s) = signedOnAt a s := rfl
@[simp] theorem ticket_storePair (p : PairIndex) (c : PairSettings) (a : TicketSlot) :
    ticket a (storePair p c s) = ticket a s := rfl
@[simp] theorem copies_storePair (p : PairIndex) (c : PairSettings) (a : Head) :
    copies a (storePair p c s) = copies a s := rfl
@[simp] theorem printer_storePair (p : PairIndex) (c : PairSettings) (a : Printer) :
    printer a (storePair p c s) = printer a s := rfl
@[simp] theorem queue_storePair (p : PairIndex) (c : PairSettings) (a : Printer) :
    queue a (storePair p c s) = queue a s := rfl
@[simp] theorem slotLink_storePair (p : PairIndex) (c : PairSettings) (a : Slot) :
    slotLink a (storePair p c s) = slotLink a s := rfl
@[simp] theorem presence_storePair (p : PairIndex) (c : PairSettings) (a : Slot) :
    presence a (storePair p c s) = presence a s := rfl
@[simp] theorem onLink_storePair (p : PairIndex) (c : PairSettings) (a : Slot) :
    onLink a (storePair p c s) = onLink a s := rfl
@[simp] theorem headLink_storePair (p : PairIndex) (c : PairSettings) (a : Head) :
    headLink a (storePair p c s) = headLink a s := rfl
@[simp] theorem inbox_storePair (p : PairIndex) (c : PairSettings) (a : Head) :
    inbox a (storePair p c s) = inbox a s := rfl
@[simp] theorem findItem_storePair (p : PairIndex) (c : PairSettings) (a : Nat) :
    findItem a (storePair p c s) = findItem a s := rfl
@[simp] theorem itemAt_storePair (p : PairIndex) (c : PairSettings) (a : Nat) :
    itemAt a (storePair p c s) = itemAt a s := rfl
@[simp] theorem activeItem_storePair (p : PairIndex) (c : PairSettings) (a : Nat) :
    activeItem a (storePair p c s) = activeItem a s := rfl
@[simp] theorem dayOpen_storePair (p : PairIndex) (c : PairSettings) : dayOpen (storePair p c s) = dayOpen s := rfl
@[simp] theorem display_storePair (p : PairIndex) (c : PairSettings) (a : Head) :
    display a (storePair p c s) = display a s := rfl
@[simp] theorem copyState_storePair (p : PairIndex) (c : PairSettings) (a : Head) (b : Nat) :
    copyState a b (storePair p c s) = copyState a b s := rfl
@[simp] theorem ticketId_storePair (p : PairIndex) (c : PairSettings) (a : TicketSlot) :
    ticketId a (storePair p c s) = ticketId a s := rfl
@[simp] theorem queueRoom_storePair (p : PairIndex) (c : PairSettings) (a : Printer) :
    queueRoom a (storePair p c s) = queueRoom a s := rfl
@[simp] theorem printerDown_storePair (p : PairIndex) (c : PairSettings) (a : Printer) :
    printerDown a (storePair p c s) = printerDown a s := rfl
@[simp] theorem freshTag_storePair (p : PairIndex) (c : PairSettings) : freshTag (storePair p c s) = freshTag s := rfl

/-! ### `recompose` -/

@[simp] theorem recompose_resetLow (h : Head) : (recompose h s).resetLow = s.resetLow := rfl
@[simp] theorem recompose_sdo (h : Head) : (recompose h s).sdo = s.sdo := rfl
@[simp] theorem recompose_down (h : Head) : (recompose h s).down = s.down := rfl
@[simp] theorem recompose_port (h : Head) : (recompose h s).port = s.port := rfl
@[simp] theorem recompose_lnk (h : Head) : (recompose h s).lnk = s.lnk := rfl
@[simp] theorem recompose_wge (h : Head) : (recompose h s).wge = s.wge := rfl
@[simp] theorem recompose_itb (h : Head) : (recompose h s).itb = s.itb := rfl
@[simp] theorem recompose_ccu (h : Head) : (recompose h s).ccu = s.ccu := rfl
@[simp] theorem recompose_snu (h : Head) : (recompose h s).snu = s.snu := rfl
@[simp] theorem recompose_tkp (h : Head) : (recompose h s).tkp = s.tkp := rfl
@[simp] theorem recompose_lbc (h : Head) : (recompose h s).lbc = s.lbc := rfl
@[simp] theorem recompose_tot (h : Head) : (recompose h s).tot = s.tot := rfl
@[simp] theorem recompose_shown (h : Head) : (recompose h s).shown = s.shown := rfl
@[simp] theorem recompose_hand (h : Head) : (recompose h s).hand = s.hand := rfl
@[simp] theorem recompose_pending (h : Head) : (recompose h s).pending = s.pending := rfl
@[simp] theorem recompose_hsu_heads (h : Head) : (recompose h s).hsu.heads = s.hsu.heads := rfl
@[simp] theorem recompose_hsu_signOn (h : Head) : (recompose h s).hsu.signOn = s.hsu.signOn := rfl
@[simp] theorem settings_recompose (h : Head) (a : Head) : settings a (recompose h s) = settings a s := rfl
@[simp] theorem role_recompose (h : Head) (a : Head) : role a (recompose h s) = role a s := rfl
@[simp] theorem pairSettings_recompose (h : Head) (a : Head) : pairSettings a (recompose h s) = pairSettings a s := rfl
@[simp] theorem chan_recompose (h : Head) (a : Head) : chan a (recompose h s) = chan a s := rfl
@[simp] theorem ctx_recompose (h : Head) (a : Head) : ctx a (recompose h s) = ctx a s := rfl
@[simp] theorem service_recompose (h : Head) (a : Head) : service a (recompose h s) = service a s := rfl
@[simp] theorem signedOnAt_recompose (h : Head) (a : Operator) : signedOnAt a (recompose h s) = signedOnAt a s := rfl
@[simp] theorem ticket_recompose (h : Head) (a : TicketSlot) : ticket a (recompose h s) = ticket a s := rfl
@[simp] theorem copies_recompose (h : Head) (a : Head) : copies a (recompose h s) = copies a s := rfl
@[simp] theorem printer_recompose (h : Head) (a : Printer) : printer a (recompose h s) = printer a s := rfl
@[simp] theorem queue_recompose (h : Head) (a : Printer) : queue a (recompose h s) = queue a s := rfl
@[simp] theorem slotLink_recompose (h : Head) (a : Slot) : slotLink a (recompose h s) = slotLink a s := rfl
@[simp] theorem presence_recompose (h : Head) (a : Slot) : presence a (recompose h s) = presence a s := rfl
@[simp] theorem onLink_recompose (h : Head) (a : Slot) : onLink a (recompose h s) = onLink a s := rfl
@[simp] theorem headLink_recompose (h : Head) (a : Head) : headLink a (recompose h s) = headLink a s := rfl
@[simp] theorem inbox_recompose (h : Head) (a : Head) : inbox a (recompose h s) = inbox a s := rfl
@[simp] theorem findItem_recompose (h : Head) (a : Nat) : findItem a (recompose h s) = findItem a s := rfl
@[simp] theorem itemAt_recompose (h : Head) (a : Nat) : itemAt a (recompose h s) = itemAt a s := rfl
@[simp] theorem activeItem_recompose (h : Head) (a : Nat) : activeItem a (recompose h s) = activeItem a s := rfl
@[simp] theorem dayOpen_recompose (h : Head) : dayOpen (recompose h s) = dayOpen s := rfl
@[simp] theorem copyState_recompose (h : Head) (a : Head) (b : Nat) :
    copyState a b (recompose h s) = copyState a b s := rfl
@[simp] theorem ticketId_recompose (h : Head) (a : TicketSlot) : ticketId a (recompose h s) = ticketId a s := rfl
@[simp] theorem queueRoom_recompose (h : Head) (a : Printer) : queueRoom a (recompose h s) = queueRoom a s := rfl
@[simp] theorem printerDown_recompose (h : Head) (a : Printer) : printerDown a (recompose h s) = printerDown a s := rfl
@[simp] theorem freshTag_recompose (h : Head) : freshTag (recompose h s) = freshTag s := rfl

/-! ### Reading what an update wrote -/

@[simp] theorem chan_onChan_same (i : Head) (f : Channel → Channel) : chan i (onChan i f s) = f (chan i s) := by
  simp [chan, onChan]
@[simp] theorem chan_onChan_ne {i j : Head} (f : Channel → Channel) (h : j ≠ i) : chan j (onChan i f s) = chan j s := by
  simp [chan, onChan, h]
theorem chan_onChan (i j : Head) (f : Channel → Channel) :
    chan j (onChan i f s) = if j = i then f (chan i s) else chan j s := Table.look_change ..
@[simp] theorem ctx_onCtx_same (i : Head) (f : HeadCtx → HeadCtx) : ctx i (onCtx i f s) = f (ctx i s) := by
  simp [ctx, onCtx]
@[simp] theorem ctx_onCtx_ne {i j : Head} (f : HeadCtx → HeadCtx) (h : j ≠ i) : ctx j (onCtx i f s) = ctx j s := by
  simp [ctx, onCtx, h]
theorem ctx_onCtx (i j : Head) (f : HeadCtx → HeadCtx) :
    ctx j (onCtx i f s) = if j = i then f (ctx i s) else ctx j s := Table.look_change ..
@[simp] theorem ticket_onTicket_same (i : TicketSlot) (f : Ticket → Ticket) : ticket i (onTicket i f s) = f (ticket i s) := by
  simp [ticket, onTicket]
@[simp] theorem ticket_onTicket_ne {i j : TicketSlot} (f : Ticket → Ticket) (h : j ≠ i) : ticket j (onTicket i f s) = ticket j s := by
  simp [ticket, onTicket, h]
theorem ticket_onTicket (i j : TicketSlot) (f : Ticket → Ticket) :
    ticket j (onTicket i f s) = if j = i then f (ticket i s) else ticket j s := Table.look_change ..
@[simp] theorem copies_onCopies_same (i : Head) (f : CopyList → CopyList) : copies i (onCopies i f s) = f (copies i s) := by
  simp [copies, onCopies]
@[simp] theorem copies_onCopies_ne {i j : Head} (f : CopyList → CopyList) (h : j ≠ i) : copies j (onCopies i f s) = copies j s := by
  simp [copies, onCopies, h]
theorem copies_onCopies (i j : Head) (f : CopyList → CopyList) :
    copies j (onCopies i f s) = if j = i then f (copies i s) else copies j s := Table.look_change ..
@[simp] theorem printer_onPrinter_same (i : Printer) (f : PrinterCtx → PrinterCtx) : printer i (onPrinter i f s) = f (printer i s) := by
  simp [printer, onPrinter]
@[simp] theorem printer_onPrinter_ne {i j : Printer} (f : PrinterCtx → PrinterCtx) (h : j ≠ i) : printer j (onPrinter i f s) = printer j s := by
  simp [printer, onPrinter, h]
theorem printer_onPrinter (i j : Printer) (f : PrinterCtx → PrinterCtx) :
    printer j (onPrinter i f s) = if j = i then f (printer i s) else printer j s := Table.look_change ..
@[simp] theorem queue_onQueue_same (i : Printer) (f : List Job → List Job) : queue i (onQueue i f s) = f (queue i s) := by
  simp [queue, onQueue]
@[simp] theorem queue_onQueue_ne {i j : Printer} (f : List Job → List Job) (h : j ≠ i) : queue j (onQueue i f s) = queue j s := by
  simp [queue, onQueue, h]
theorem queue_onQueue (i j : Printer) (f : List Job → List Job) :
    queue j (onQueue i f s) = if j = i then f (queue i s) else queue j s := Table.look_change ..
@[simp] theorem slotLink_onSlot_same (i : Slot) (f : SlotLink → SlotLink) : slotLink i (onSlot i f s) = f (slotLink i s) := by
  simp [slotLink, onSlot]
@[simp] theorem slotLink_onSlot_ne {i j : Slot} (f : SlotLink → SlotLink) (h : j ≠ i) : slotLink j (onSlot i f s) = slotLink j s := by
  simp [slotLink, onSlot, h]
theorem slotLink_onSlot (i j : Slot) (f : SlotLink → SlotLink) :
    slotLink j (onSlot i f s) = if j = i then f (slotLink i s) else slotLink j s := Table.look_change ..
@[simp] theorem headLink_onHeadLink_same (i : Head) (f : HeadLink → HeadLink) : headLink i (onHeadLink i f s) = f (headLink i s) := by
  simp [headLink, onHeadLink]
@[simp] theorem headLink_onHeadLink_ne {i j : Head} (f : HeadLink → HeadLink) (h : j ≠ i) : headLink j (onHeadLink i f s) = headLink j s := by
  simp [headLink, onHeadLink, h]
theorem headLink_onHeadLink (i j : Head) (f : HeadLink → HeadLink) :
    headLink j (onHeadLink i f s) = if j = i then f (headLink i s) else headLink j s := Table.look_change ..
@[simp] theorem inbox_onInbox_same (i : Head) (f : Inbox → Inbox) : inbox i (onInbox i f s) = f (inbox i s) := by
  simp [inbox, onInbox]
@[simp] theorem inbox_onInbox_ne {i j : Head} (f : Inbox → Inbox) (h : j ≠ i) : inbox j (onInbox i f s) = inbox j s := by
  simp [inbox, onInbox, h]
theorem inbox_onInbox (i j : Head) (f : Inbox → Inbox) :
    inbox j (onInbox i f s) = if j = i then f (inbox i s) else inbox j s := Table.look_change ..
@[simp] theorem signedOnAt_setSignOn_same (i : Operator) (x : Option Head) : signedOnAt i (setSignOn i x s) = x := by
  simp [signedOnAt, setSignOn]
theorem signedOnAt_setSignOn (i j : Operator) (x : Option Head) :
    signedOnAt j (setSignOn i x s) = if j = i then x else signedOnAt j s := Table.look_put ..
@[simp] theorem settings_storeSettings_same (i : Head) (x : HeadSettings) : settings i (storeSettings i x s) = x := by
  simp [settings, storeSettings]
theorem settings_storeSettings (i j : Head) (x : HeadSettings) :
    settings j (storeSettings i x s) = if j = i then x else settings j s := Table.look_put ..
@[simp] theorem display_recompose_same (h : Head) : display h (recompose h s) = composeDisplay h s := by
  simp [display, recompose]
theorem display_recompose (h j : Head) :
    display j (recompose h s) = if j = h then composeDisplay h s else display j s := Table.look_put ..
@[simp] theorem onItems_items (f : List Item → List Item) : (onItems f s).itb.items = f s.itb.items := rfl
@[simp] theorem onSnu_snu (f : Snu → Snu) : (onSnu f s).snu = f s.snu := rfl
@[simp] theorem latch_latched (f : Latched → Latched) : (latch f s).port.latched = f s.port.latched := rfl
@[simp] theorem send_down (i : Fin 12) (m : Downstream) : (send i m s).down = s.down.put i (some m) := rfl
@[simp] theorem setWatch_armed (w : Bool) : (setWatch w s).ccu.armed = w := rfl
@[simp] theorem setDay_day (d : DayState) : (setDay d s).tot.day = d := rfl
@[simp] theorem setDate_date (d : Option Date) : (setDate d s).lbc.date = d := rfl
theorem role_eq (h : Head) : role h s = (settings h s).role := rfl
theorem presence_eq (i : Slot) : presence i s = (slotLink i s).presence := rfl

end Machine

end Sys2Proof
end

