-- ==== Sys2Proof/Laws/Frames.lean ====
section
/-! SUPPORT. What each operation leaves alone: for every operation that is not a plain update, the blocks it does not write. -/

namespace Sys2Proof.Machine

/-- A fold of events keeps what each event keeps. -/
theorem foldl_keeps {α β : Type} (g : State → β) {f : State → α → State} (hf : ∀ s a, g (f s a) = g s) :
    ∀ (xs : List α) (s : State), g (xs.foldl f s) = g s
  | [], _ => rfl
  | x :: xs, s => (foldl_keeps g hf xs (f s x)).trans (hf s x)

theorem eachHead_keeps {β : Type} (g : State → β) {f : Head → State → State} (hf : ∀ h s, g (f h s) = g s) (s : State) :
    g (eachHead f s) = g s := foldl_keeps g (fun s h => hf h s) _ s

theorem eachSlot_keeps {β : Type} (g : State → β) {f : Slot → State → State} (hf : ∀ i s, g (f i s) = g s) (s : State) :
    g (eachSlot f s) = g s := foldl_keeps g (fun s h => hf h s) _ s

theorem eachSlotDown_keeps {β : Type} (g : State → β) {f : Slot → State → State} (hf : ∀ i s, g (f i s) = g s)
    (s : State) : g (eachSlotDown f s) = g s := foldl_keeps g (fun s h => hf h s) _ s

variable (s : State)

@[simp] theorem setMessage_frame (h : Head) (code : Code) :
    (setMessage h code s).resetLow = s.resetLow ∧ (setMessage h code s).sdo = s.sdo
      ∧ (setMessage h code s).down = s.down ∧ (setMessage h code s).port = s.port
      ∧ (setMessage h code s).lnk = s.lnk ∧ (setMessage h code s).wge = s.wge
      ∧ (setMessage h code s).itb = s.itb ∧ (setMessage h code s).ccu = s.ccu
      ∧ (setMessage h code s).snu = s.snu ∧ (setMessage h code s).tkp = s.tkp
      ∧ (setMessage h code s).lbc = s.lbc ∧ (setMessage h code s).tot = s.tot
      ∧ (setMessage h code s).shown = s.shown ∧ (setMessage h code s).hand = s.hand
      ∧ (setMessage h code s).pending = s.pending := by
  unfold setMessage
  simp

@[simp] theorem clearMessage_frame (h : Head) :
    (clearMessage h s).resetLow = s.resetLow ∧ (clearMessage h s).sdo = s.sdo ∧ (clearMessage h s).down = s.down
      ∧ (clearMessage h s).port = s.port ∧ (clearMessage h s).lnk = s.lnk ∧ (clearMessage h s).wge = s.wge
      ∧ (clearMessage h s).itb = s.itb ∧ (clearMessage h s).ccu = s.ccu ∧ (clearMessage h s).snu = s.snu
      ∧ (clearMessage h s).tkp = s.tkp ∧ (clearMessage h s).lbc = s.lbc ∧ (clearMessage h s).tot = s.tot
      ∧ (clearMessage h s).shown = s.shown ∧ (clearMessage h s).hand = s.hand
      ∧ (clearMessage h s).pending = s.pending := by
  unfold clearMessage
  simp

@[simp] theorem dropRequest_frame (h : Head) :
    (dropRequest h s).resetLow = s.resetLow ∧ (dropRequest h s).sdo = s.sdo ∧ (dropRequest h s).down = s.down
      ∧ (dropRequest h s).port = s.port ∧ (dropRequest h s).lnk = s.lnk ∧ (dropRequest h s).wge = s.wge
      ∧ (dropRequest h s).itb = s.itb ∧ (dropRequest h s).ccu = s.ccu ∧ (dropRequest h s).snu = s.snu
      ∧ (dropRequest h s).tkp = s.tkp ∧ (dropRequest h s).lbc = s.lbc ∧ (dropRequest h s).tot = s.tot
      ∧ (dropRequest h s).shown = s.shown ∧ (dropRequest h s).hand = s.hand
      ∧ (dropRequest h s).pending = s.pending := by
  unfold dropRequest
  simp

@[simp] theorem leaveTicket_frame (h : Head) (id : TicketId) :
    (leaveTicket h id s).resetLow = s.resetLow ∧ (leaveTicket h id s).sdo = s.sdo
      ∧ (leaveTicket h id s).down = s.down ∧ (leaveTicket h id s).port = s.port
      ∧ (leaveTicket h id s).lnk = s.lnk ∧ (leaveTicket h id s).wge = s.wge ∧ (leaveTicket h id s).itb = s.itb
      ∧ (leaveTicket h id s).ccu = s.ccu ∧ (leaveTicket h id s).snu = s.snu ∧ (leaveTicket h id s).tkp = s.tkp
      ∧ (leaveTicket h id s).lbc = s.lbc ∧ (leaveTicket h id s).tot = s.tot
      ∧ (leaveTicket h id s).shown = s.shown ∧ (leaveTicket h id s).hand = s.hand
      ∧ (leaveTicket h id s).pending = s.pending := by
  unfold leaveTicket
  simp

@[simp] theorem endRequest_frame (h : Head) :
    (endRequest h s).resetLow = s.resetLow ∧ (endRequest h s).sdo = s.sdo ∧ (endRequest h s).down = s.down
      ∧ (endRequest h s).port = s.port ∧ (endRequest h s).lnk = s.lnk ∧ (endRequest h s).wge = s.wge
      ∧ (endRequest h s).itb = s.itb ∧ (endRequest h s).ccu = s.ccu ∧ (endRequest h s).snu = s.snu
      ∧ (endRequest h s).tkp = s.tkp ∧ (endRequest h s).lbc = s.lbc ∧ (endRequest h s).tot = s.tot
      ∧ (endRequest h s).shown = s.shown ∧ (endRequest h s).hand = s.hand ∧ (endRequest h s).pending = s.pending := by
  unfold endRequest
  simp

@[simp] theorem frameMessage_frame (h : Head) :
    (frameMessage h s).resetLow = s.resetLow ∧ (frameMessage h s).sdo = s.sdo ∧ (frameMessage h s).down = s.down
      ∧ (frameMessage h s).port = s.port ∧ (frameMessage h s).lnk = s.lnk ∧ (frameMessage h s).wge = s.wge
      ∧ (frameMessage h s).itb = s.itb ∧ (frameMessage h s).ccu = s.ccu ∧ (frameMessage h s).snu = s.snu
      ∧ (frameMessage h s).tkp = s.tkp ∧ (frameMessage h s).lbc = s.lbc ∧ (frameMessage h s).tot = s.tot
      ∧ (frameMessage h s).shown = s.shown ∧ (frameMessage h s).hand = s.hand
      ∧ (frameMessage h s).pending = s.pending := by
  unfold frameMessage
  simp

@[simp] theorem refuseRequest_frame (h : Head) (code : Code) :
    (refuseRequest h code s).resetLow = s.resetLow ∧ (refuseRequest h code s).sdo = s.sdo
      ∧ (refuseRequest h code s).down = s.down ∧ (refuseRequest h code s).port = s.port
      ∧ (refuseRequest h code s).lnk = s.lnk ∧ (refuseRequest h code s).wge = s.wge
      ∧ (refuseRequest h code s).itb = s.itb ∧ (refuseRequest h code s).ccu = s.ccu
      ∧ (refuseRequest h code s).snu = s.snu ∧ (refuseRequest h code s).tkp = s.tkp
      ∧ (refuseRequest h code s).lbc = s.lbc ∧ (refuseRequest h code s).tot = s.tot
      ∧ (refuseRequest h code s).shown = s.shown ∧ (refuseRequest h code s).hand = s.hand
      ∧ (refuseRequest h code s).pending = s.pending := by
  unfold refuseRequest
  simp

@[simp] theorem cancelRequest_frame (h : Head) (code : Code) :
    (cancelRequest h code s).resetLow = s.resetLow ∧ (cancelRequest h code s).sdo = s.sdo
      ∧ (cancelRequest h code s).down = s.down ∧ (cancelRequest h code s).port = s.port
      ∧ (cancelRequest h code s).lnk = s.lnk ∧ (cancelRequest h code s).wge = s.wge
      ∧ (cancelRequest h code s).itb = s.itb ∧ (cancelRequest h code s).ccu = s.ccu
      ∧ (cancelRequest h code s).snu = s.snu ∧ (cancelRequest h code s).tkp = s.tkp
      ∧ (cancelRequest h code s).lbc = s.lbc ∧ (cancelRequest h code s).tot = s.tot
      ∧ (cancelRequest h code s).shown = s.shown ∧ (cancelRequest h code s).hand = s.hand
      ∧ (cancelRequest h code s).pending = s.pending := by
  unfold cancelRequest
  try dsimp only
  (repeat' split) <;> simp

@[simp] theorem renewOffer_frame (h : Head) :
    (renewOffer h s).resetLow = s.resetLow ∧ (renewOffer h s).sdo = s.sdo ∧ (renewOffer h s).down = s.down
      ∧ (renewOffer h s).port = s.port ∧ (renewOffer h s).lnk = s.lnk ∧ (renewOffer h s).hsu = s.hsu
      ∧ (renewOffer h s).itb = s.itb ∧ (renewOffer h s).ccu = s.ccu ∧ (renewOffer h s).snu = s.snu
      ∧ (renewOffer h s).tkp = s.tkp ∧ (renewOffer h s).lbc = s.lbc ∧ (renewOffer h s).tot = s.tot
      ∧ (renewOffer h s).shown = s.shown ∧ (renewOffer h s).hand = s.hand ∧ (renewOffer h s).pending = s.pending := by
  unfold renewOffer
  simp

@[simp] theorem settleHead_frame (old : State) (h : Head) :
    (settleHead old h s).resetLow = s.resetLow ∧ (settleHead old h s).sdo = s.sdo
      ∧ (settleHead old h s).down = s.down ∧ (settleHead old h s).port = s.port
      ∧ (settleHead old h s).lnk = s.lnk ∧ (settleHead old h s).itb = s.itb ∧ (settleHead old h s).ccu = s.ccu
      ∧ (settleHead old h s).snu = s.snu ∧ (settleHead old h s).tkp = s.tkp ∧ (settleHead old h s).lbc = s.lbc
      ∧ (settleHead old h s).tot = s.tot ∧ (settleHead old h s).shown = s.shown
      ∧ (settleHead old h s).hand = s.hand ∧ (settleHead old h s).pending = s.pending := by
  unfold settleHead
  try dsimp only
  (repeat' split) <;> simp

@[simp] theorem settle_frame (old : State) :
    (settle old s).resetLow = s.resetLow ∧ (settle old s).sdo = s.sdo ∧ (settle old s).down = s.down
      ∧ (settle old s).port = s.port ∧ (settle old s).lnk = s.lnk ∧ (settle old s).itb = s.itb
      ∧ (settle old s).ccu = s.ccu ∧ (settle old s).snu = s.snu ∧ (settle old s).tkp = s.tkp
      ∧ (settle old s).lbc = s.lbc ∧ (settle old s).tot = s.tot ∧ (settle old s).shown = s.shown
      ∧ (settle old s).hand = s.hand ∧ (settle old s).pending = s.pending := by
  unfold settle
  refine ⟨?_, ?_, ?_, ?_, ?_, ?_, ?_, ?_, ?_, ?_, ?_, ?_, ?_, ?_⟩
  · exact eachHead_keeps (fun s => s.resetLow) (fun _ _ => by simp) _
  · exact eachHead_keeps (fun s => s.sdo) (fun _ _ => by simp) _
  · exact eachHead_keeps (fun s => s.down) (fun _ _ => by simp) _
  · exact eachHead_keeps (fun s => s.port) (fun _ _ => by simp) _
  · exact eachHead_keeps (fun s => s.lnk) (fun _ _ => by simp) _
  · exact eachHead_keeps (fun s => s.itb) (fun _ _ => by simp) _
  · exact eachHead_keeps (fun s => s.ccu) (fun _ _ => by simp) _
  · exact eachHead_keeps (fun s => s.snu) (fun _ _ => by simp) _
  · exact eachHead_keeps (fun s => s.tkp) (fun _ _ => by simp) _
  · exact eachHead_keeps (fun s => s.lbc) (fun _ _ => by simp) _
  · exact eachHead_keeps (fun s => s.tot) (fun _ _ => by simp) _
  · exact eachHead_keeps (fun s => s.shown) (fun _ _ => by simp) _
  · exact eachHead_keeps (fun s => s.hand) (fun _ _ => by simp) _
  · exact eachHead_keeps (fun s => s.pending) (fun _ _ => by simp) _

@[simp] theorem flagHeadLost_frame (h : Head) :
    (flagHeadLost h s).resetLow = s.resetLow ∧ (flagHeadLost h s).sdo = s.sdo ∧ (flagHeadLost h s).down = s.down
      ∧ (flagHeadLost h s).lnk = s.lnk ∧ (flagHeadLost h s).wge = s.wge ∧ (flagHeadLost h s).hsu = s.hsu
      ∧ (flagHeadLost h s).itb = s.itb ∧ (flagHeadLost h s).ccu = s.ccu ∧ (flagHeadLost h s).snu = s.snu
      ∧ (flagHeadLost h s).tkp = s.tkp ∧ (flagHeadLost h s).lbc = s.lbc ∧ (flagHeadLost h s).tot = s.tot
      ∧ (flagHeadLost h s).shown = s.shown ∧ (flagHeadLost h s).hand = s.hand
      ∧ (flagHeadLost h s).pending = s.pending := by
  unfold flagHeadLost
  simp

@[simp] theorem flagPrinterLost_frame (p : Printer) :
    (flagPrinterLost p s).resetLow = s.resetLow ∧ (flagPrinterLost p s).sdo = s.sdo
      ∧ (flagPrinterLost p s).down = s.down ∧ (flagPrinterLost p s).lnk = s.lnk
      ∧ (flagPrinterLost p s).wge = s.wge ∧ (flagPrinterLost p s).hsu = s.hsu
      ∧ (flagPrinterLost p s).itb = s.itb ∧ (flagPrinterLost p s).ccu = s.ccu
      ∧ (flagPrinterLost p s).snu = s.snu ∧ (flagPrinterLost p s).tkp = s.tkp
      ∧ (flagPrinterLost p s).lbc = s.lbc ∧ (flagPrinterLost p s).tot = s.tot
      ∧ (flagPrinterLost p s).shown = s.shown ∧ (flagPrinterLost p s).hand = s.hand
      ∧ (flagPrinterLost p s).pending = s.pending := by
  unfold flagPrinterLost
  simp

@[simp] theorem flagDispenserLost_frame :
    (flagDispenserLost s).resetLow = s.resetLow ∧ (flagDispenserLost s).sdo = s.sdo
      ∧ (flagDispenserLost s).down = s.down ∧ (flagDispenserLost s).lnk = s.lnk
      ∧ (flagDispenserLost s).wge = s.wge ∧ (flagDispenserLost s).hsu = s.hsu
      ∧ (flagDispenserLost s).itb = s.itb ∧ (flagDispenserLost s).ccu = s.ccu
      ∧ (flagDispenserLost s).snu = s.snu ∧ (flagDispenserLost s).tkp = s.tkp
      ∧ (flagDispenserLost s).lbc = s.lbc ∧ (flagDispenserLost s).tot = s.tot
      ∧ (flagDispenserLost s).shown = s.shown ∧ (flagDispenserLost s).hand = s.hand
      ∧ (flagDispenserLost s).pending = s.pending := by
  unfold flagDispenserLost
  simp

@[simp] theorem flagPrinterStopped_frame (p : Printer) :
    (flagPrinterStopped p s).resetLow = s.resetLow ∧ (flagPrinterStopped p s).sdo = s.sdo
      ∧ (flagPrinterStopped p s).down = s.down ∧ (flagPrinterStopped p s).lnk = s.lnk
      ∧ (flagPrinterStopped p s).wge = s.wge ∧ (flagPrinterStopped p s).hsu = s.hsu
      ∧ (flagPrinterStopped p s).itb = s.itb ∧ (flagPrinterStopped p s).ccu = s.ccu
      ∧ (flagPrinterStopped p s).snu = s.snu ∧ (flagPrinterStopped p s).tkp = s.tkp
      ∧ (flagPrinterStopped p s).lbc = s.lbc ∧ (flagPrinterStopped p s).tot = s.tot
      ∧ (flagPrinterStopped p s).shown = s.shown ∧ (flagPrinterStopped p s).hand = s.hand
      ∧ (flagPrinterStopped p s).pending = s.pending := by
  unfold flagPrinterStopped
  simp

@[simp] theorem flagCellFault_frame (h : Head) :
    (flagCellFault h s).resetLow = s.resetLow ∧ (flagCellFault h s).sdo = s.sdo
      ∧ (flagCellFault h s).down = s.down ∧ (flagCellFault h s).lnk = s.lnk ∧ (flagCellFault h s).wge = s.wge
      ∧ (flagCellFault h s).hsu = s.hsu ∧ (flagCellFault h s).itb = s.itb ∧ (flagCellFault h s).ccu = s.ccu
      ∧ (flagCellFault h s).snu = s.snu ∧ (flagCellFault h s).tkp = s.tkp ∧ (flagCellFault h s).lbc = s.lbc
      ∧ (flagCellFault h s).tot = s.tot ∧ (flagCellFault h s).shown = s.shown
      ∧ (flagCellFault h s).hand = s.hand ∧ (flagCellFault h s).pending = s.pending := by
  unfold flagCellFault
  simp

@[simp] theorem flagZeroLimit_frame (h : Head) :
    (flagZeroLimit h s).resetLow = s.resetLow ∧ (flagZeroLimit h s).sdo = s.sdo
      ∧ (flagZeroLimit h s).down = s.down ∧ (flagZeroLimit h s).lnk = s.lnk ∧ (flagZeroLimit h s).wge = s.wge
      ∧ (flagZeroLimit h s).hsu = s.hsu ∧ (flagZeroLimit h s).itb = s.itb ∧ (flagZeroLimit h s).ccu = s.ccu
      ∧ (flagZeroLimit h s).snu = s.snu ∧ (flagZeroLimit h s).tkp = s.tkp ∧ (flagZeroLimit h s).lbc = s.lbc
      ∧ (flagZeroLimit h s).tot = s.tot ∧ (flagZeroLimit h s).shown = s.shown
      ∧ (flagZeroLimit h s).hand = s.hand ∧ (flagZeroLimit h s).pending = s.pending := by
  unfold flagZeroLimit
  simp

@[simp] theorem flagSaturated_frame :
    (flagSaturated s).resetLow = s.resetLow ∧ (flagSaturated s).sdo = s.sdo ∧ (flagSaturated s).down = s.down
      ∧ (flagSaturated s).lnk = s.lnk ∧ (flagSaturated s).wge = s.wge ∧ (flagSaturated s).hsu = s.hsu
      ∧ (flagSaturated s).itb = s.itb ∧ (flagSaturated s).ccu = s.ccu ∧ (flagSaturated s).snu = s.snu
      ∧ (flagSaturated s).tkp = s.tkp ∧ (flagSaturated s).lbc = s.lbc ∧ (flagSaturated s).tot = s.tot
      ∧ (flagSaturated s).shown = s.shown ∧ (flagSaturated s).hand = s.hand
      ∧ (flagSaturated s).pending = s.pending := by
  unfold flagSaturated
  simp

@[simp] theorem flagInStep_frame :
    (flagInStep s).resetLow = s.resetLow ∧ (flagInStep s).sdo = s.sdo ∧ (flagInStep s).down = s.down
      ∧ (flagInStep s).lnk = s.lnk ∧ (flagInStep s).wge = s.wge ∧ (flagInStep s).hsu = s.hsu
      ∧ (flagInStep s).itb = s.itb ∧ (flagInStep s).ccu = s.ccu ∧ (flagInStep s).snu = s.snu
      ∧ (flagInStep s).tkp = s.tkp ∧ (flagInStep s).lbc = s.lbc ∧ (flagInStep s).tot = s.tot
      ∧ (flagInStep s).shown = s.shown ∧ (flagInStep s).hand = s.hand ∧ (flagInStep s).pending = s.pending := by
  unfold flagInStep
  simp

@[simp] theorem flagRefused_frame :
    (flagRefused s).resetLow = s.resetLow ∧ (flagRefused s).sdo = s.sdo ∧ (flagRefused s).down = s.down
      ∧ (flagRefused s).lnk = s.lnk ∧ (flagRefused s).wge = s.wge ∧ (flagRefused s).hsu = s.hsu
      ∧ (flagRefused s).itb = s.itb ∧ (flagRefused s).ccu = s.ccu ∧ (flagRefused s).snu = s.snu
      ∧ (flagRefused s).tkp = s.tkp ∧ (flagRefused s).lbc = s.lbc ∧ (flagRefused s).tot = s.tot
      ∧ (flagRefused s).shown = s.shown ∧ (flagRefused s).hand = s.hand ∧ (flagRefused s).pending = s.pending := by
  unfold flagRefused
  simp

@[simp] theorem flagOverrun_frame :
    (flagOverrun s).resetLow = s.resetLow ∧ (flagOverrun s).sdo = s.sdo ∧ (flagOverrun s).down = s.down
      ∧ (flagOverrun s).lnk = s.lnk ∧ (flagOverrun s).wge = s.wge ∧ (flagOverrun s).hsu = s.hsu
      ∧ (flagOverrun s).itb = s.itb ∧ (flagOverrun s).ccu = s.ccu ∧ (flagOverrun s).snu = s.snu
      ∧ (flagOverrun s).tkp = s.tkp ∧ (flagOverrun s).lbc = s.lbc ∧ (flagOverrun s).tot = s.tot
      ∧ (flagOverrun s).shown = s.shown ∧ (flagOverrun s).hand = s.hand ∧ (flagOverrun s).pending = s.pending := by
  unfold flagOverrun
  simp

@[simp] theorem examineWatch_frame :
    (examineWatch s).resetLow = s.resetLow ∧ (examineWatch s).sdo = s.sdo ∧ (examineWatch s).down = s.down
      ∧ (examineWatch s).lnk = s.lnk ∧ (examineWatch s).wge = s.wge ∧ (examineWatch s).hsu = s.hsu
      ∧ (examineWatch s).itb = s.itb ∧ (examineWatch s).snu = s.snu ∧ (examineWatch s).tkp = s.tkp
      ∧ (examineWatch s).lbc = s.lbc ∧ (examineWatch s).tot = s.tot ∧ (examineWatch s).shown = s.shown
      ∧ (examineWatch s).hand = s.hand ∧ (examineWatch s).pending = s.pending := by
  unfold examineWatch
  try dsimp only
  (repeat' split) <;> simp

@[simp] theorem selectItem_frame (h : Head) (i : Item) :
    (selectItem h i s).resetLow = s.resetLow ∧ (selectItem h i s).sdo = s.sdo ∧ (selectItem h i s).down = s.down
      ∧ (selectItem h i s).lnk = s.lnk ∧ (selectItem h i s).wge = s.wge ∧ (selectItem h i s).hsu = s.hsu
      ∧ (selectItem h i s).itb = s.itb ∧ (selectItem h i s).snu = s.snu ∧ (selectItem h i s).tkp = s.tkp
      ∧ (selectItem h i s).lbc = s.lbc ∧ (selectItem h i s).tot = s.tot ∧ (selectItem h i s).shown = s.shown
      ∧ (selectItem h i s).hand = s.hand ∧ (selectItem h i s).pending = s.pending := by
  unfold selectItem
  try dsimp only
  (repeat' split) <;> simp

@[simp] theorem ageCopies_frame :
    (ageCopies s).resetLow = s.resetLow ∧ (ageCopies s).sdo = s.sdo ∧ (ageCopies s).down = s.down
      ∧ (ageCopies s).port = s.port ∧ (ageCopies s).lnk = s.lnk ∧ (ageCopies s).wge = s.wge
      ∧ (ageCopies s).hsu = s.hsu ∧ (ageCopies s).itb = s.itb ∧ (ageCopies s).snu = s.snu
      ∧ (ageCopies s).tkp = s.tkp ∧ (ageCopies s).lbc = s.lbc ∧ (ageCopies s).tot = s.tot
      ∧ (ageCopies s).shown = s.shown ∧ (ageCopies s).hand = s.hand ∧ (ageCopies s).pending = s.pending := by
  unfold ageCopies
  refine ⟨?_, ?_, ?_, ?_, ?_, ?_, ?_, ?_, ?_, ?_, ?_, ?_, ?_, ?_, ?_⟩
  · exact eachHead_keeps (fun s => s.resetLow) (fun _ _ => by simp) _
  · exact eachHead_keeps (fun s => s.sdo) (fun _ _ => by simp) _
  · exact eachHead_keeps (fun s => s.down) (fun _ _ => by simp) _
  · exact eachHead_keeps (fun s => s.port) (fun _ _ => by simp) _
  · exact eachHead_keeps (fun s => s.lnk) (fun _ _ => by simp) _
  · exact eachHead_keeps (fun s => s.wge) (fun _ _ => by simp) _
  · exact eachHead_keeps (fun s => s.hsu) (fun _ _ => by simp) _
  · exact eachHead_keeps (fun s => s.itb) (fun _ _ => by simp) _
  · exact eachHead_keeps (fun s => s.snu) (fun _ _ => by simp) _
  · exact eachHead_keeps (fun s => s.tkp) (fun _ _ => by simp) _
  · exact eachHead_keeps (fun s => s.lbc) (fun _ _ => by simp) _
  · exact eachHead_keeps (fun s => s.tot) (fun _ _ => by simp) _
  · exact eachHead_keeps (fun s => s.shown) (fun _ _ => by simp) _
  · exact eachHead_keeps (fun s => s.hand) (fun _ _ => by simp) _
  · exact eachHead_keeps (fun s => s.pending) (fun _ _ => by simp) _

@[simp] theorem staleCopies_frame (c : Nat → Bool) :
    (staleCopies c s).resetLow = s.resetLow ∧ (staleCopies c s).sdo = s.sdo ∧ (staleCopies c s).down = s.down
      ∧ (staleCopies c s).port = s.port ∧ (staleCopies c s).lnk = s.lnk ∧ (staleCopies c s).wge = s.wge
      ∧ (staleCopies c s).hsu = s.hsu ∧ (staleCopies c s).itb = s.itb ∧ (staleCopies c s).snu = s.snu
      ∧ (staleCopies c s).tkp = s.tkp ∧ (staleCopies c s).lbc = s.lbc ∧ (staleCopies c s).tot = s.tot
      ∧ (staleCopies c s).shown = s.shown ∧ (staleCopies c s).hand = s.hand
      ∧ (staleCopies c s).pending = s.pending := by
  unfold staleCopies
  refine ⟨?_, ?_, ?_, ?_, ?_, ?_, ?_, ?_, ?_, ?_, ?_, ?_, ?_, ?_, ?_⟩
  · exact eachHead_keeps (fun s => s.resetLow) (fun _ _ => by simp) _
  · exact eachHead_keeps (fun s => s.sdo) (fun _ _ => by simp) _
  · exact eachHead_keeps (fun s => s.down) (fun _ _ => by simp) _
  · exact eachHead_keeps (fun s => s.port) (fun _ _ => by simp) _
  · exact eachHead_keeps (fun s => s.lnk) (fun _ _ => by simp) _
  · exact eachHead_keeps (fun s => s.wge) (fun _ _ => by simp) _
  · exact eachHead_keeps (fun s => s.hsu) (fun _ _ => by simp) _
  · exact eachHead_keeps (fun s => s.itb) (fun _ _ => by simp) _
  · exact eachHead_keeps (fun s => s.snu) (fun _ _ => by simp) _
  · exact eachHead_keeps (fun s => s.tkp) (fun _ _ => by simp) _
  · exact eachHead_keeps (fun s => s.lbc) (fun _ _ => by simp) _
  · exact eachHead_keeps (fun s => s.tot) (fun _ _ => by simp) _
  · exact eachHead_keeps (fun s => s.shown) (fun _ _ => by simp) _
  · exact eachHead_keeps (fun s => s.hand) (fun _ _ => by simp) _
  · exact eachHead_keeps (fun s => s.pending) (fun _ _ => by simp) _

@[simp] theorem clearCopies_frame (h : Head) :
    (clearCopies h s).resetLow = s.resetLow ∧ (clearCopies h s).sdo = s.sdo ∧ (clearCopies h s).down = s.down
      ∧ (clearCopies h s).port = s.port ∧ (clearCopies h s).lnk = s.lnk ∧ (clearCopies h s).wge = s.wge
      ∧ (clearCopies h s).hsu = s.hsu ∧ (clearCopies h s).itb = s.itb ∧ (clearCopies h s).snu = s.snu
      ∧ (clearCopies h s).tkp = s.tkp ∧ (clearCopies h s).lbc = s.lbc ∧ (clearCopies h s).tot = s.tot
      ∧ (clearCopies h s).shown = s.shown ∧ (clearCopies h s).hand = s.hand
      ∧ (clearCopies h s).pending = s.pending := by
  unfold clearCopies
  simp

@[simp] theorem withdrawCopies_frame (n : Nat) :
    (withdrawCopies n s).resetLow = s.resetLow ∧ (withdrawCopies n s).sdo = s.sdo
      ∧ (withdrawCopies n s).down = s.down ∧ (withdrawCopies n s).lnk = s.lnk ∧ (withdrawCopies n s).wge = s.wge
      ∧ (withdrawCopies n s).hsu = s.hsu ∧ (withdrawCopies n s).itb = s.itb ∧ (withdrawCopies n s).snu = s.snu
      ∧ (withdrawCopies n s).tkp = s.tkp ∧ (withdrawCopies n s).lbc = s.lbc ∧ (withdrawCopies n s).tot = s.tot
      ∧ (withdrawCopies n s).shown = s.shown ∧ (withdrawCopies n s).hand = s.hand
      ∧ (withdrawCopies n s).pending = s.pending := by
  unfold withdrawCopies
  try dsimp only
  have h_resetLow := fun s : State => eachHead_keeps (fun s => s.resetLow) (f := (fun h => onCopies h (withdrawIn n))) (fun _ _ => by simp) s
  have h_sdo := fun s : State => eachHead_keeps (fun s => s.sdo) (f := (fun h => onCopies h (withdrawIn n))) (fun _ _ => by simp) s
  have h_down := fun s : State => eachHead_keeps (fun s => s.down) (f := (fun h => onCopies h (withdrawIn n))) (fun _ _ => by simp) s
  have h_lnk := fun s : State => eachHead_keeps (fun s => s.lnk) (f := (fun h => onCopies h (withdrawIn n))) (fun _ _ => by simp) s
  have h_wge := fun s : State => eachHead_keeps (fun s => s.wge) (f := (fun h => onCopies h (withdrawIn n))) (fun _ _ => by simp) s
  have h_hsu := fun s : State => eachHead_keeps (fun s => s.hsu) (f := (fun h => onCopies h (withdrawIn n))) (fun _ _ => by simp) s
  have h_itb := fun s : State => eachHead_keeps (fun s => s.itb) (f := (fun h => onCopies h (withdrawIn n))) (fun _ _ => by simp) s
  have h_snu := fun s : State => eachHead_keeps (fun s => s.snu) (f := (fun h => onCopies h (withdrawIn n))) (fun _ _ => by simp) s
  have h_tkp := fun s : State => eachHead_keeps (fun s => s.tkp) (f := (fun h => onCopies h (withdrawIn n))) (fun _ _ => by simp) s
  have h_lbc := fun s : State => eachHead_keeps (fun s => s.lbc) (f := (fun h => onCopies h (withdrawIn n))) (fun _ _ => by simp) s
  have h_tot := fun s : State => eachHead_keeps (fun s => s.tot) (f := (fun h => onCopies h (withdrawIn n))) (fun _ _ => by simp) s
  have h_shown := fun s : State => eachHead_keeps (fun s => s.shown) (f := (fun h => onCopies h (withdrawIn n))) (fun _ _ => by simp) s
  have h_hand := fun s : State => eachHead_keeps (fun s => s.hand) (f := (fun h => onCopies h (withdrawIn n))) (fun _ _ => by simp) s
  have h_pending := fun s : State => eachHead_keeps (fun s => s.pending) (f := (fun h => onCopies h (withdrawIn n))) (fun _ _ => by simp) s
  (repeat' split) <;> simp [h_resetLow, h_sdo, h_down, h_lnk, h_wge, h_hsu, h_itb, h_snu, h_tkp, h_lbc, h_tot, h_shown, h_hand, h_pending]

@[simp] theorem openRecord_frame (t : TicketSlot) (h : Head) (o : Operator) (n : Nat) :
    (openRecord t h o n s).resetLow = s.resetLow ∧ (openRecord t h o n s).sdo = s.sdo
      ∧ (openRecord t h o n s).down = s.down ∧ (openRecord t h o n s).port = s.port
      ∧ (openRecord t h o n s).lnk = s.lnk ∧ (openRecord t h o n s).wge = s.wge
      ∧ (openRecord t h o n s).hsu = s.hsu ∧ (openRecord t h o n s).itb = s.itb
      ∧ (openRecord t h o n s).ccu = s.ccu ∧ (openRecord t h o n s).snu = s.snu
      ∧ (openRecord t h o n s).lbc = s.lbc ∧ (openRecord t h o n s).tot = s.tot
      ∧ (openRecord t h o n s).shown = s.shown ∧ (openRecord t h o n s).hand = s.hand
      ∧ (openRecord t h o n s).pending = s.pending := by
  unfold openRecord
  simp

@[simp] theorem parkRecord_frame (t : TicketSlot) :
    (parkRecord t s).resetLow = s.resetLow ∧ (parkRecord t s).sdo = s.sdo ∧ (parkRecord t s).down = s.down
      ∧ (parkRecord t s).port = s.port ∧ (parkRecord t s).lnk = s.lnk ∧ (parkRecord t s).wge = s.wge
      ∧ (parkRecord t s).hsu = s.hsu ∧ (parkRecord t s).itb = s.itb ∧ (parkRecord t s).ccu = s.ccu
      ∧ (parkRecord t s).snu = s.snu ∧ (parkRecord t s).lbc = s.lbc ∧ (parkRecord t s).tot = s.tot
      ∧ (parkRecord t s).shown = s.shown ∧ (parkRecord t s).hand = s.hand ∧ (parkRecord t s).pending = s.pending := by
  unfold parkRecord
  simp

@[simp] theorem restartIdle_frame (t : TicketSlot) :
    (restartIdle t s).resetLow = s.resetLow ∧ (restartIdle t s).sdo = s.sdo ∧ (restartIdle t s).down = s.down
      ∧ (restartIdle t s).port = s.port ∧ (restartIdle t s).lnk = s.lnk ∧ (restartIdle t s).wge = s.wge
      ∧ (restartIdle t s).hsu = s.hsu ∧ (restartIdle t s).itb = s.itb ∧ (restartIdle t s).ccu = s.ccu
      ∧ (restartIdle t s).snu = s.snu ∧ (restartIdle t s).lbc = s.lbc ∧ (restartIdle t s).tot = s.tot
      ∧ (restartIdle t s).shown = s.shown ∧ (restartIdle t s).hand = s.hand
      ∧ (restartIdle t s).pending = s.pending := by
  unfold restartIdle
  simp

@[simp] theorem pickRecord_frame (t : TicketSlot) (h : Head) :
    (pickRecord t h s).resetLow = s.resetLow ∧ (pickRecord t h s).sdo = s.sdo ∧ (pickRecord t h s).down = s.down
      ∧ (pickRecord t h s).port = s.port ∧ (pickRecord t h s).lnk = s.lnk ∧ (pickRecord t h s).wge = s.wge
      ∧ (pickRecord t h s).hsu = s.hsu ∧ (pickRecord t h s).itb = s.itb ∧ (pickRecord t h s).ccu = s.ccu
      ∧ (pickRecord t h s).snu = s.snu ∧ (pickRecord t h s).lbc = s.lbc ∧ (pickRecord t h s).tot = s.tot
      ∧ (pickRecord t h s).shown = s.shown ∧ (pickRecord t h s).hand = s.hand
      ∧ (pickRecord t h s).pending = s.pending := by
  unfold pickRecord
  simp

@[simp] theorem freeRecord_frame (t : TicketSlot) :
    (freeRecord t s).resetLow = s.resetLow ∧ (freeRecord t s).sdo = s.sdo ∧ (freeRecord t s).down = s.down
      ∧ (freeRecord t s).port = s.port ∧ (freeRecord t s).lnk = s.lnk ∧ (freeRecord t s).wge = s.wge
      ∧ (freeRecord t s).hsu = s.hsu ∧ (freeRecord t s).itb = s.itb ∧ (freeRecord t s).ccu = s.ccu
      ∧ (freeRecord t s).snu = s.snu ∧ (freeRecord t s).lbc = s.lbc ∧ (freeRecord t s).tot = s.tot
      ∧ (freeRecord t s).shown = s.shown ∧ (freeRecord t s).hand = s.hand ∧ (freeRecord t s).pending = s.pending := by
  unfold freeRecord
  simp

@[simp] theorem onItemAt_frame (k : Nat) (f : Item → Item) :
    (onItemAt k f s).resetLow = s.resetLow ∧ (onItemAt k f s).sdo = s.sdo ∧ (onItemAt k f s).down = s.down
      ∧ (onItemAt k f s).port = s.port ∧ (onItemAt k f s).lnk = s.lnk ∧ (onItemAt k f s).wge = s.wge
      ∧ (onItemAt k f s).hsu = s.hsu ∧ (onItemAt k f s).ccu = s.ccu ∧ (onItemAt k f s).snu = s.snu
      ∧ (onItemAt k f s).tkp = s.tkp ∧ (onItemAt k f s).lbc = s.lbc ∧ (onItemAt k f s).tot = s.tot
      ∧ (onItemAt k f s).shown = s.shown ∧ (onItemAt k f s).hand = s.hand ∧ (onItemAt k f s).pending = s.pending := by
  unfold onItemAt
  simp

@[simp] theorem onItemNumber_frame (n : Nat) (f : Item → Item) :
    (onItemNumber n f s).resetLow = s.resetLow ∧ (onItemNumber n f s).sdo = s.sdo
      ∧ (onItemNumber n f s).down = s.down ∧ (onItemNumber n f s).port = s.port
      ∧ (onItemNumber n f s).lnk = s.lnk ∧ (onItemNumber n f s).wge = s.wge ∧ (onItemNumber n f s).hsu = s.hsu
      ∧ (onItemNumber n f s).ccu = s.ccu ∧ (onItemNumber n f s).snu = s.snu ∧ (onItemNumber n f s).tkp = s.tkp
      ∧ (onItemNumber n f s).lbc = s.lbc ∧ (onItemNumber n f s).tot = s.tot
      ∧ (onItemNumber n f s).shown = s.shown ∧ (onItemNumber n f s).hand = s.hand
      ∧ (onItemNumber n f s).pending = s.pending := by
  unfold onItemNumber
  simp

@[simp] theorem addRef_frame (k : Nat) :
    (addRef k s).resetLow = s.resetLow ∧ (addRef k s).sdo = s.sdo ∧ (addRef k s).down = s.down
      ∧ (addRef k s).port = s.port ∧ (addRef k s).lnk = s.lnk ∧ (addRef k s).wge = s.wge
      ∧ (addRef k s).hsu = s.hsu ∧ (addRef k s).ccu = s.ccu ∧ (addRef k s).snu = s.snu
      ∧ (addRef k s).tkp = s.tkp ∧ (addRef k s).lbc = s.lbc ∧ (addRef k s).tot = s.tot
      ∧ (addRef k s).shown = s.shown ∧ (addRef k s).hand = s.hand ∧ (addRef k s).pending = s.pending := by
  unfold addRef
  simp

@[simp] theorem foldInto_frame (f : Acc → Acc × Bool) (k : FoldKeys) :
    (foldInto f k s).resetLow = s.resetLow ∧ (foldInto f k s).sdo = s.sdo ∧ (foldInto f k s).down = s.down
      ∧ (foldInto f k s).lnk = s.lnk ∧ (foldInto f k s).wge = s.wge ∧ (foldInto f k s).hsu = s.hsu
      ∧ (foldInto f k s).ccu = s.ccu ∧ (foldInto f k s).snu = s.snu ∧ (foldInto f k s).tkp = s.tkp
      ∧ (foldInto f k s).lbc = s.lbc ∧ (foldInto f k s).shown = s.shown ∧ (foldInto f k s).hand = s.hand
      ∧ (foldInto f k s).pending = s.pending := by
  unfold foldInto
  try dsimp only
  (repeat' split) <;> simp

@[simp] theorem foldLineSale_frame (l : Line) :
    (foldLineSale l s).resetLow = s.resetLow ∧ (foldLineSale l s).sdo = s.sdo ∧ (foldLineSale l s).down = s.down
      ∧ (foldLineSale l s).lnk = s.lnk ∧ (foldLineSale l s).wge = s.wge ∧ (foldLineSale l s).hsu = s.hsu
      ∧ (foldLineSale l s).ccu = s.ccu ∧ (foldLineSale l s).snu = s.snu ∧ (foldLineSale l s).tkp = s.tkp
      ∧ (foldLineSale l s).lbc = s.lbc ∧ (foldLineSale l s).shown = s.shown ∧ (foldLineSale l s).hand = s.hand
      ∧ (foldLineSale l s).pending = s.pending := by
  unfold foldLineSale
  simp

@[simp] theorem foldLineVoid_frame (l : Line) :
    (foldLineVoid l s).resetLow = s.resetLow ∧ (foldLineVoid l s).sdo = s.sdo ∧ (foldLineVoid l s).down = s.down
      ∧ (foldLineVoid l s).lnk = s.lnk ∧ (foldLineVoid l s).wge = s.wge ∧ (foldLineVoid l s).hsu = s.hsu
      ∧ (foldLineVoid l s).ccu = s.ccu ∧ (foldLineVoid l s).snu = s.snu ∧ (foldLineVoid l s).tkp = s.tkp
      ∧ (foldLineVoid l s).lbc = s.lbc ∧ (foldLineVoid l s).shown = s.shown ∧ (foldLineVoid l s).hand = s.hand
      ∧ (foldLineVoid l s).pending = s.pending := by
  unfold foldLineVoid
  simp

@[simp] theorem startIfIdle_frame (p : Printer) :
    (startIfIdle p s).resetLow = s.resetLow ∧ (startIfIdle p s).sdo = s.sdo ∧ (startIfIdle p s).down = s.down
      ∧ (startIfIdle p s).port = s.port ∧ (startIfIdle p s).lnk = s.lnk ∧ (startIfIdle p s).wge = s.wge
      ∧ (startIfIdle p s).hsu = s.hsu ∧ (startIfIdle p s).itb = s.itb ∧ (startIfIdle p s).ccu = s.ccu
      ∧ (startIfIdle p s).snu = s.snu ∧ (startIfIdle p s).tkp = s.tkp ∧ (startIfIdle p s).tot = s.tot
      ∧ (startIfIdle p s).shown = s.shown ∧ (startIfIdle p s).hand = s.hand
      ∧ (startIfIdle p s).pending = s.pending := by
  unfold startIfIdle
  try dsimp only
  (repeat' split) <;> simp

@[simp] theorem removeJob_frame (p : Printer) (g : Tag) :
    (removeJob p g s).resetLow = s.resetLow ∧ (removeJob p g s).sdo = s.sdo ∧ (removeJob p g s).down = s.down
      ∧ (removeJob p g s).port = s.port ∧ (removeJob p g s).lnk = s.lnk ∧ (removeJob p g s).wge = s.wge
      ∧ (removeJob p g s).hsu = s.hsu ∧ (removeJob p g s).itb = s.itb ∧ (removeJob p g s).ccu = s.ccu
      ∧ (removeJob p g s).snu = s.snu ∧ (removeJob p g s).tkp = s.tkp ∧ (removeJob p g s).tot = s.tot
      ∧ (removeJob p g s).shown = s.shown ∧ (removeJob p g s).hand = s.hand
      ∧ (removeJob p g s).pending = s.pending := by
  unfold removeJob
  try dsimp only
  (repeat' split) <;> simp

@[simp] theorem removePurged_frame (k : Nat) :
    (removePurged k s).resetLow = s.resetLow ∧ (removePurged k s).sdo = s.sdo ∧ (removePurged k s).down = s.down
      ∧ (removePurged k s).port = s.port ∧ (removePurged k s).lnk = s.lnk ∧ (removePurged k s).wge = s.wge
      ∧ (removePurged k s).hsu = s.hsu ∧ (removePurged k s).itb = s.itb ∧ (removePurged k s).ccu = s.ccu
      ∧ (removePurged k s).snu = s.snu ∧ (removePurged k s).tkp = s.tkp ∧ (removePurged k s).tot = s.tot
      ∧ (removePurged k s).shown = s.shown ∧ (removePurged k s).hand = s.hand
      ∧ (removePurged k s).pending = s.pending := by
  unfold removePurged
  dsimp only
  have h_resetLow := fun (p : Printer) (s : State) (js : List Job) =>
    foldl_keeps (fun s => s.resetLow) (f := fun s (j : Job) => removeJob p j.tag s) (fun _ _ => by simp) js s
  have h_sdo := fun (p : Printer) (s : State) (js : List Job) =>
    foldl_keeps (fun s => s.sdo) (f := fun s (j : Job) => removeJob p j.tag s) (fun _ _ => by simp) js s
  have h_down := fun (p : Printer) (s : State) (js : List Job) =>
    foldl_keeps (fun s => s.down) (f := fun s (j : Job) => removeJob p j.tag s) (fun _ _ => by simp) js s
  have h_port := fun (p : Printer) (s : State) (js : List Job) =>
    foldl_keeps (fun s => s.port) (f := fun s (j : Job) => removeJob p j.tag s) (fun _ _ => by simp) js s
  have h_lnk := fun (p : Printer) (s : State) (js : List Job) =>
    foldl_keeps (fun s => s.lnk) (f := fun s (j : Job) => removeJob p j.tag s) (fun _ _ => by simp) js s
  have h_wge := fun (p : Printer) (s : State) (js : List Job) =>
    foldl_keeps (fun s => s.wge) (f := fun s (j : Job) => removeJob p j.tag s) (fun _ _ => by simp) js s
  have h_hsu := fun (p : Printer) (s : State) (js : List Job) =>
    foldl_keeps (fun s => s.hsu) (f := fun s (j : Job) => removeJob p j.tag s) (fun _ _ => by simp) js s
  have h_itb := fun (p : Printer) (s : State) (js : List Job) =>
    foldl_keeps (fun s => s.itb) (f := fun s (j : Job) => removeJob p j.tag s) (fun _ _ => by simp) js s
  have h_ccu := fun (p : Printer) (s : State) (js : List Job) =>
    foldl_keeps (fun s => s.ccu) (f := fun s (j : Job) => removeJob p j.tag s) (fun _ _ => by simp) js s
  have h_snu := fun (p : Printer) (s : State) (js : List Job) =>
    foldl_keeps (fun s => s.snu) (f := fun s (j : Job) => removeJob p j.tag s) (fun _ _ => by simp) js s
  have h_tkp := fun (p : Printer) (s : State) (js : List Job) =>
    foldl_keeps (fun s => s.tkp) (f := fun s (j : Job) => removeJob p j.tag s) (fun _ _ => by simp) js s
  have h_tot := fun (p : Printer) (s : State) (js : List Job) =>
    foldl_keeps (fun s => s.tot) (f := fun s (j : Job) => removeJob p j.tag s) (fun _ _ => by simp) js s
  have h_shown := fun (p : Printer) (s : State) (js : List Job) =>
    foldl_keeps (fun s => s.shown) (f := fun s (j : Job) => removeJob p j.tag s) (fun _ _ => by simp) js s
  have h_hand := fun (p : Printer) (s : State) (js : List Job) =>
    foldl_keeps (fun s => s.hand) (f := fun s (j : Job) => removeJob p j.tag s) (fun _ _ => by simp) js s
  have h_pending := fun (p : Printer) (s : State) (js : List Job) =>
    foldl_keeps (fun s => s.pending) (f := fun s (j : Job) => removeJob p j.tag s) (fun _ _ => by simp) js s
  simp only [h_resetLow, h_sdo, h_down, h_port, h_lnk, h_wge, h_hsu, h_itb, h_ccu, h_snu, h_tkp, h_tot, h_shown, h_hand, h_pending, and_self]

@[simp] theorem purge_frame (i : Item) :
    (purge i s).resetLow = s.resetLow ∧ (purge i s).sdo = s.sdo ∧ (purge i s).down = s.down
      ∧ (purge i s).port = s.port ∧ (purge i s).lnk = s.lnk ∧ (purge i s).wge = s.wge ∧ (purge i s).hsu = s.hsu
      ∧ (purge i s).ccu = s.ccu ∧ (purge i s).snu = s.snu ∧ (purge i s).tkp = s.tkp ∧ (purge i s).tot = s.tot
      ∧ (purge i s).shown = s.shown ∧ (purge i s).hand = s.hand ∧ (purge i s).pending = s.pending := by
  unfold purge
  simp

@[simp] theorem purgeCheck_frame (k : Nat) :
    (purgeCheck k s).resetLow = s.resetLow ∧ (purgeCheck k s).sdo = s.sdo ∧ (purgeCheck k s).down = s.down
      ∧ (purgeCheck k s).port = s.port ∧ (purgeCheck k s).lnk = s.lnk ∧ (purgeCheck k s).wge = s.wge
      ∧ (purgeCheck k s).hsu = s.hsu ∧ (purgeCheck k s).ccu = s.ccu ∧ (purgeCheck k s).snu = s.snu
      ∧ (purgeCheck k s).tkp = s.tkp ∧ (purgeCheck k s).tot = s.tot ∧ (purgeCheck k s).shown = s.shown
      ∧ (purgeCheck k s).hand = s.hand ∧ (purgeCheck k s).pending = s.pending := by
  unfold purgeCheck
  try dsimp only
  (repeat' split) <;> simp

@[simp] theorem releaseRef_frame (k : Nat) :
    (releaseRef k s).resetLow = s.resetLow ∧ (releaseRef k s).sdo = s.sdo ∧ (releaseRef k s).down = s.down
      ∧ (releaseRef k s).port = s.port ∧ (releaseRef k s).lnk = s.lnk ∧ (releaseRef k s).wge = s.wge
      ∧ (releaseRef k s).hsu = s.hsu ∧ (releaseRef k s).ccu = s.ccu ∧ (releaseRef k s).snu = s.snu
      ∧ (releaseRef k s).tkp = s.tkp ∧ (releaseRef k s).tot = s.tot ∧ (releaseRef k s).shown = s.shown
      ∧ (releaseRef k s).hand = s.hand ∧ (releaseRef k s).pending = s.pending := by
  unfold releaseRef
  simp

@[simp] theorem walkLinesSale_frame (ls : List Line) :
    (walkLines foldLineSale ls s).resetLow = s.resetLow ∧ (walkLines foldLineSale ls s).sdo = s.sdo
      ∧ (walkLines foldLineSale ls s).down = s.down ∧ (walkLines foldLineSale ls s).lnk = s.lnk
      ∧ (walkLines foldLineSale ls s).wge = s.wge ∧ (walkLines foldLineSale ls s).hsu = s.hsu
      ∧ (walkLines foldLineSale ls s).ccu = s.ccu ∧ (walkLines foldLineSale ls s).snu = s.snu
      ∧ (walkLines foldLineSale ls s).tkp = s.tkp ∧ (walkLines foldLineSale ls s).shown = s.shown
      ∧ (walkLines foldLineSale ls s).hand = s.hand ∧ (walkLines foldLineSale ls s).pending = s.pending := by
  unfold walkLines walkLine
  refine ⟨?_, ?_, ?_, ?_, ?_, ?_, ?_, ?_, ?_, ?_, ?_, ?_⟩
  · exact foldl_keeps (fun s => s.resetLow) (fun _ _ => by simp) _ _
  · exact foldl_keeps (fun s => s.sdo) (fun _ _ => by simp) _ _
  · exact foldl_keeps (fun s => s.down) (fun _ _ => by simp) _ _
  · exact foldl_keeps (fun s => s.lnk) (fun _ _ => by simp) _ _
  · exact foldl_keeps (fun s => s.wge) (fun _ _ => by simp) _ _
  · exact foldl_keeps (fun s => s.hsu) (fun _ _ => by simp) _ _
  · exact foldl_keeps (fun s => s.ccu) (fun _ _ => by simp) _ _
  · exact foldl_keeps (fun s => s.snu) (fun _ _ => by simp) _ _
  · exact foldl_keeps (fun s => s.tkp) (fun _ _ => by simp) _ _
  · exact foldl_keeps (fun s => s.shown) (fun _ _ => by simp) _ _
  · exact foldl_keeps (fun s => s.hand) (fun _ _ => by simp) _ _
  · exact foldl_keeps (fun s => s.pending) (fun _ _ => by simp) _ _

@[simp] theorem walkLinesVoid_frame (ls : List Line) :
    (walkLines foldLineVoid ls s).resetLow = s.resetLow ∧ (walkLines foldLineVoid ls s).sdo = s.sdo
      ∧ (walkLines foldLineVoid ls s).down = s.down ∧ (walkLines foldLineVoid ls s).lnk = s.lnk
      ∧ (walkLines foldLineVoid ls s).wge = s.wge ∧ (walkLines foldLineVoid ls s).hsu = s.hsu
      ∧ (walkLines foldLineVoid ls s).ccu = s.ccu ∧ (walkLines foldLineVoid ls s).snu = s.snu
      ∧ (walkLines foldLineVoid ls s).tkp = s.tkp ∧ (walkLines foldLineVoid ls s).shown = s.shown
      ∧ (walkLines foldLineVoid ls s).hand = s.hand ∧ (walkLines foldLineVoid ls s).pending = s.pending := by
  unfold walkLines walkLine
  refine ⟨?_, ?_, ?_, ?_, ?_, ?_, ?_, ?_, ?_, ?_, ?_, ?_⟩
  · exact foldl_keeps (fun s => s.resetLow) (fun _ _ => by simp) _ _
  · exact foldl_keeps (fun s => s.sdo) (fun _ _ => by simp) _ _
  · exact foldl_keeps (fun s => s.down) (fun _ _ => by simp) _ _
  · exact foldl_keeps (fun s => s.lnk) (fun _ _ => by simp) _ _
  · exact foldl_keeps (fun s => s.wge) (fun _ _ => by simp) _ _
  · exact foldl_keeps (fun s => s.hsu) (fun _ _ => by simp) _ _
  · exact foldl_keeps (fun s => s.ccu) (fun _ _ => by simp) _ _
  · exact foldl_keeps (fun s => s.snu) (fun _ _ => by simp) _ _
  · exact foldl_keeps (fun s => s.tkp) (fun _ _ => by simp) _ _
  · exact foldl_keeps (fun s => s.shown) (fun _ _ => by simp) _ _
  · exact foldl_keeps (fun s => s.hand) (fun _ _ => by simp) _ _
  · exact foldl_keeps (fun s => s.pending) (fun _ _ => by simp) _ _

@[simp] theorem queueJob_frame (p : Printer) (o : Option Head) (n : Nat) (c : Content) :
    (queueJob p o n c s).resetLow = s.resetLow ∧ (queueJob p o n c s).sdo = s.sdo
      ∧ (queueJob p o n c s).down = s.down ∧ (queueJob p o n c s).port = s.port
      ∧ (queueJob p o n c s).lnk = s.lnk ∧ (queueJob p o n c s).wge = s.wge ∧ (queueJob p o n c s).hsu = s.hsu
      ∧ (queueJob p o n c s).itb = s.itb ∧ (queueJob p o n c s).ccu = s.ccu ∧ (queueJob p o n c s).snu = s.snu
      ∧ (queueJob p o n c s).tkp = s.tkp ∧ (queueJob p o n c s).tot = s.tot
      ∧ (queueJob p o n c s).shown = s.shown ∧ (queueJob p o n c s).hand = s.hand
      ∧ (queueJob p o n c s).pending = s.pending := by
  unfold queueJob
  simp

@[simp] theorem voidRecord_frame (t : TicketSlot) :
    (voidRecord t s).resetLow = s.resetLow ∧ (voidRecord t s).sdo = s.sdo ∧ (voidRecord t s).down = s.down
      ∧ (voidRecord t s).lnk = s.lnk ∧ (voidRecord t s).wge = s.wge ∧ (voidRecord t s).hsu = s.hsu
      ∧ (voidRecord t s).ccu = s.ccu ∧ (voidRecord t s).snu = s.snu ∧ (voidRecord t s).shown = s.shown
      ∧ (voidRecord t s).hand = s.hand ∧ (voidRecord t s).pending = s.pending := by
  unfold voidRecord
  simp

@[simp] theorem closeRecord_frame (t : TicketSlot) (h : Head) (p : Printer) :
    (closeRecord t h p s).resetLow = s.resetLow ∧ (closeRecord t h p s).sdo = s.sdo
      ∧ (closeRecord t h p s).down = s.down ∧ (closeRecord t h p s).lnk = s.lnk
      ∧ (closeRecord t h p s).wge = s.wge ∧ (closeRecord t h p s).hsu = s.hsu
      ∧ (closeRecord t h p s).ccu = s.ccu ∧ (closeRecord t h p s).snu = s.snu
      ∧ (closeRecord t h p s).shown = s.shown ∧ (closeRecord t h p s).hand = s.hand
      ∧ (closeRecord t h p s).pending = s.pending := by
  unfold closeRecord
  simp

@[simp] theorem appendLine_frame (t : TicketSlot) (l : Line) :
    (appendLine t l s).resetLow = s.resetLow ∧ (appendLine t l s).sdo = s.sdo ∧ (appendLine t l s).down = s.down
      ∧ (appendLine t l s).port = s.port ∧ (appendLine t l s).lnk = s.lnk ∧ (appendLine t l s).wge = s.wge
      ∧ (appendLine t l s).hsu = s.hsu ∧ (appendLine t l s).ccu = s.ccu ∧ (appendLine t l s).snu = s.snu
      ∧ (appendLine t l s).lbc = s.lbc ∧ (appendLine t l s).tot = s.tot ∧ (appendLine t l s).shown = s.shown
      ∧ (appendLine t l s).hand = s.hand ∧ (appendLine t l s).pending = s.pending := by
  unfold appendLine
  simp

@[simp] theorem voidNewest_frame (t : TicketSlot) :
    (voidNewest t s).resetLow = s.resetLow ∧ (voidNewest t s).sdo = s.sdo ∧ (voidNewest t s).down = s.down
      ∧ (voidNewest t s).lnk = s.lnk ∧ (voidNewest t s).wge = s.wge ∧ (voidNewest t s).hsu = s.hsu
      ∧ (voidNewest t s).ccu = s.ccu ∧ (voidNewest t s).snu = s.snu ∧ (voidNewest t s).shown = s.shown
      ∧ (voidNewest t s).hand = s.hand ∧ (voidNewest t s).pending = s.pending := by
  unfold voidNewest
  try dsimp only
  (repeat' split) <;> simp

@[simp] theorem endSummary_frame (t : TicketId) :
    (endSummary t s).resetLow = s.resetLow ∧ (endSummary t s).sdo = s.sdo ∧ (endSummary t s).down = s.down
      ∧ (endSummary t s).port = s.port ∧ (endSummary t s).lnk = s.lnk ∧ (endSummary t s).wge = s.wge
      ∧ (endSummary t s).hsu = s.hsu ∧ (endSummary t s).itb = s.itb ∧ (endSummary t s).ccu = s.ccu
      ∧ (endSummary t s).snu = s.snu ∧ (endSummary t s).lbc = s.lbc ∧ (endSummary t s).tot = s.tot
      ∧ (endSummary t s).shown = s.shown ∧ (endSummary t s).hand = s.hand ∧ (endSummary t s).pending = s.pending := by
  unfold endSummary
  try dsimp only
  (repeat' split) <;> simp

@[simp] theorem jobLeft_frame (c : Content) :
    (jobLeft c s).resetLow = s.resetLow ∧ (jobLeft c s).sdo = s.sdo ∧ (jobLeft c s).down = s.down
      ∧ (jobLeft c s).port = s.port ∧ (jobLeft c s).lnk = s.lnk ∧ (jobLeft c s).wge = s.wge
      ∧ (jobLeft c s).hsu = s.hsu ∧ (jobLeft c s).itb = s.itb ∧ (jobLeft c s).ccu = s.ccu
      ∧ (jobLeft c s).snu = s.snu ∧ (jobLeft c s).lbc = s.lbc ∧ (jobLeft c s).tot = s.tot
      ∧ (jobLeft c s).shown = s.shown ∧ (jobLeft c s).hand = s.hand ∧ (jobLeft c s).pending = s.pending := by
  unfold jobLeft
  try dsimp only
  (repeat' split) <;> simp

@[simp] theorem foldPack_frame (p : Printer) (j : Job) :
    (foldPack p j s).resetLow = s.resetLow ∧ (foldPack p j s).sdo = s.sdo ∧ (foldPack p j s).down = s.down
      ∧ (foldPack p j s).lnk = s.lnk ∧ (foldPack p j s).wge = s.wge ∧ (foldPack p j s).hsu = s.hsu
      ∧ (foldPack p j s).ccu = s.ccu ∧ (foldPack p j s).snu = s.snu ∧ (foldPack p j s).tkp = s.tkp
      ∧ (foldPack p j s).shown = s.shown ∧ (foldPack p j s).hand = s.hand ∧ (foldPack p j s).pending = s.pending := by
  unfold foldPack
  try dsimp only
  (repeat' split) <;> simp

@[simp] theorem completeJob_frame (p : Printer) (j : Job) :
    (completeJob p j s).resetLow = s.resetLow ∧ (completeJob p j s).sdo = s.sdo
      ∧ (completeJob p j s).down = s.down ∧ (completeJob p j s).port = s.port ∧ (completeJob p j s).lnk = s.lnk
      ∧ (completeJob p j s).wge = s.wge ∧ (completeJob p j s).hsu = s.hsu ∧ (completeJob p j s).itb = s.itb
      ∧ (completeJob p j s).ccu = s.ccu ∧ (completeJob p j s).snu = s.snu ∧ (completeJob p j s).tot = s.tot
      ∧ (completeJob p j s).shown = s.shown ∧ (completeJob p j s).hand = s.hand
      ∧ (completeJob p j s).pending = s.pending := by
  unfold completeJob
  simp

@[simp] theorem countCopies_frame (p : Printer) (n : Nat) :
    (countCopies p n s).resetLow = s.resetLow ∧ (countCopies p n s).sdo = s.sdo
      ∧ (countCopies p n s).down = s.down ∧ (countCopies p n s).lnk = s.lnk ∧ (countCopies p n s).wge = s.wge
      ∧ (countCopies p n s).hsu = s.hsu ∧ (countCopies p n s).ccu = s.ccu ∧ (countCopies p n s).snu = s.snu
      ∧ (countCopies p n s).shown = s.shown ∧ (countCopies p n s).hand = s.hand
      ∧ (countCopies p n s).pending = s.pending := by
  unfold countCopies
  try dsimp only
  (repeat' split) <;> simp

@[simp] theorem stopPrinter_frame (p : Printer) :
    (stopPrinter p s).resetLow = s.resetLow ∧ (stopPrinter p s).sdo = s.sdo ∧ (stopPrinter p s).down = s.down
      ∧ (stopPrinter p s).lnk = s.lnk ∧ (stopPrinter p s).wge = s.wge ∧ (stopPrinter p s).hsu = s.hsu
      ∧ (stopPrinter p s).itb = s.itb ∧ (stopPrinter p s).ccu = s.ccu ∧ (stopPrinter p s).snu = s.snu
      ∧ (stopPrinter p s).tkp = s.tkp ∧ (stopPrinter p s).tot = s.tot ∧ (stopPrinter p s).shown = s.shown
      ∧ (stopPrinter p s).hand = s.hand ∧ (stopPrinter p s).pending = s.pending := by
  unfold stopPrinter
  simp

@[simp] theorem recoverPrinter_frame (p : Printer) :
    (recoverPrinter p s).resetLow = s.resetLow ∧ (recoverPrinter p s).sdo = s.sdo
      ∧ (recoverPrinter p s).down = s.down ∧ (recoverPrinter p s).port = s.port
      ∧ (recoverPrinter p s).lnk = s.lnk ∧ (recoverPrinter p s).wge = s.wge ∧ (recoverPrinter p s).hsu = s.hsu
      ∧ (recoverPrinter p s).itb = s.itb ∧ (recoverPrinter p s).ccu = s.ccu ∧ (recoverPrinter p s).snu = s.snu
      ∧ (recoverPrinter p s).tkp = s.tkp ∧ (recoverPrinter p s).tot = s.tot
      ∧ (recoverPrinter p s).shown = s.shown ∧ (recoverPrinter p s).hand = s.hand
      ∧ (recoverPrinter p s).pending = s.pending := by
  unfold recoverPrinter
  try dsimp only
  (repeat' split) <;> simp

@[simp] theorem reloadPrinter_frame (p : Printer) :
    (reloadPrinter p s).resetLow = s.resetLow ∧ (reloadPrinter p s).sdo = s.sdo
      ∧ (reloadPrinter p s).down = s.down ∧ (reloadPrinter p s).port = s.port ∧ (reloadPrinter p s).lnk = s.lnk
      ∧ (reloadPrinter p s).wge = s.wge ∧ (reloadPrinter p s).hsu = s.hsu ∧ (reloadPrinter p s).itb = s.itb
      ∧ (reloadPrinter p s).ccu = s.ccu ∧ (reloadPrinter p s).snu = s.snu ∧ (reloadPrinter p s).tkp = s.tkp
      ∧ (reloadPrinter p s).tot = s.tot ∧ (reloadPrinter p s).shown = s.shown
      ∧ (reloadPrinter p s).hand = s.hand ∧ (reloadPrinter p s).pending = s.pending := by
  unfold reloadPrinter
  try dsimp only
  (repeat' split) <;> simp

@[simp] theorem stopOrRecover_frame (p : Printer) (c : Condition) :
    (stopOrRecover p c s).resetLow = s.resetLow ∧ (stopOrRecover p c s).sdo = s.sdo
      ∧ (stopOrRecover p c s).down = s.down ∧ (stopOrRecover p c s).lnk = s.lnk
      ∧ (stopOrRecover p c s).wge = s.wge ∧ (stopOrRecover p c s).hsu = s.hsu
      ∧ (stopOrRecover p c s).itb = s.itb ∧ (stopOrRecover p c s).ccu = s.ccu
      ∧ (stopOrRecover p c s).snu = s.snu ∧ (stopOrRecover p c s).tkp = s.tkp
      ∧ (stopOrRecover p c s).tot = s.tot ∧ (stopOrRecover p c s).shown = s.shown
      ∧ (stopOrRecover p c s).hand = s.hand ∧ (stopOrRecover p c s).pending = s.pending := by
  unfold stopOrRecover
  try dsimp only
  (repeat' split) <;> simp

@[simp] theorem takePrinterReport_frame (p : Printer) (r : PrinterReport) :
    (takePrinterReport p r s).resetLow = s.resetLow ∧ (takePrinterReport p r s).sdo = s.sdo
      ∧ (takePrinterReport p r s).down = s.down ∧ (takePrinterReport p r s).lnk = s.lnk
      ∧ (takePrinterReport p r s).wge = s.wge ∧ (takePrinterReport p r s).hsu = s.hsu
      ∧ (takePrinterReport p r s).ccu = s.ccu ∧ (takePrinterReport p r s).snu = s.snu
      ∧ (takePrinterReport p r s).shown = s.shown ∧ (takePrinterReport p r s).hand = s.hand
      ∧ (takePrinterReport p r s).pending = s.pending := by
  unfold takePrinterReport
  try dsimp only
  (repeat' split) <;> simp

@[simp] theorem printerOnline_frame (p : Printer) (r : PrinterReport) :
    (printerOnline p r s).resetLow = s.resetLow ∧ (printerOnline p r s).sdo = s.sdo
      ∧ (printerOnline p r s).down = s.down ∧ (printerOnline p r s).lnk = s.lnk
      ∧ (printerOnline p r s).wge = s.wge ∧ (printerOnline p r s).hsu = s.hsu
      ∧ (printerOnline p r s).ccu = s.ccu ∧ (printerOnline p r s).snu = s.snu
      ∧ (printerOnline p r s).shown = s.shown ∧ (printerOnline p r s).hand = s.hand
      ∧ (printerOnline p r s).pending = s.pending := by
  unfold printerOnline
  simp

@[simp] theorem printerOffline_frame (p : Printer) :
    (printerOffline p s).resetLow = s.resetLow ∧ (printerOffline p s).sdo = s.sdo
      ∧ (printerOffline p s).down = s.down ∧ (printerOffline p s).port = s.port
      ∧ (printerOffline p s).lnk = s.lnk ∧ (printerOffline p s).wge = s.wge ∧ (printerOffline p s).hsu = s.hsu
      ∧ (printerOffline p s).itb = s.itb ∧ (printerOffline p s).ccu = s.ccu ∧ (printerOffline p s).snu = s.snu
      ∧ (printerOffline p s).tkp = s.tkp ∧ (printerOffline p s).tot = s.tot
      ∧ (printerOffline p s).shown = s.shown ∧ (printerOffline p s).hand = s.hand
      ∧ (printerOffline p s).pending = s.pending := by
  unfold printerOffline
  simp

@[simp] theorem queueAtHead_frame (h : Head) (c : Content) :
    (queueAtHead h c s).resetLow = s.resetLow ∧ (queueAtHead h c s).sdo = s.sdo
      ∧ (queueAtHead h c s).down = s.down ∧ (queueAtHead h c s).port = s.port ∧ (queueAtHead h c s).lnk = s.lnk
      ∧ (queueAtHead h c s).wge = s.wge ∧ (queueAtHead h c s).itb = s.itb ∧ (queueAtHead h c s).ccu = s.ccu
      ∧ (queueAtHead h c s).snu = s.snu ∧ (queueAtHead h c s).tkp = s.tkp ∧ (queueAtHead h c s).tot = s.tot
      ∧ (queueAtHead h c s).shown = s.shown ∧ (queueAtHead h c s).hand = s.hand
      ∧ (queueAtHead h c s).pending = s.pending := by
  unfold queueAtHead
  try dsimp only
  (repeat' split) <;> simp

@[simp] theorem lockFor_frame (k : Capture) :
    (lockFor k s).resetLow = s.resetLow ∧ (lockFor k s).sdo = s.sdo ∧ (lockFor k s).down = s.down
      ∧ (lockFor k s).port = s.port ∧ (lockFor k s).lnk = s.lnk ∧ (lockFor k s).hsu = s.hsu
      ∧ (lockFor k s).itb = s.itb ∧ (lockFor k s).ccu = s.ccu ∧ (lockFor k s).snu = s.snu
      ∧ (lockFor k s).tkp = s.tkp ∧ (lockFor k s).lbc = s.lbc ∧ (lockFor k s).tot = s.tot
      ∧ (lockFor k s).shown = s.shown ∧ (lockFor k s).hand = s.hand ∧ (lockFor k s).pending = s.pending := by
  unfold lockFor
  try dsimp only
  (repeat' split) <;> simp

@[simp] theorem completeLine_frame (k : Capture) (id : TicketId) :
    (completeLine k id s).resetLow = s.resetLow ∧ (completeLine k id s).sdo = s.sdo
      ∧ (completeLine k id s).down = s.down ∧ (completeLine k id s).port = s.port
      ∧ (completeLine k id s).lnk = s.lnk ∧ (completeLine k id s).ccu = s.ccu
      ∧ (completeLine k id s).snu = s.snu ∧ (completeLine k id s).tot = s.tot
      ∧ (completeLine k id s).shown = s.shown ∧ (completeLine k id s).hand = s.hand
      ∧ (completeLine k id s).pending = s.pending := by
  unfold completeLine
  try dsimp only
  (repeat' split) <;> simp

@[simp] theorem countBatch_frame (h : Head) :
    (countBatch h s).resetLow = s.resetLow ∧ (countBatch h s).sdo = s.sdo ∧ (countBatch h s).down = s.down
      ∧ (countBatch h s).port = s.port ∧ (countBatch h s).lnk = s.lnk ∧ (countBatch h s).wge = s.wge
      ∧ (countBatch h s).itb = s.itb ∧ (countBatch h s).ccu = s.ccu ∧ (countBatch h s).snu = s.snu
      ∧ (countBatch h s).tkp = s.tkp ∧ (countBatch h s).lbc = s.lbc ∧ (countBatch h s).tot = s.tot
      ∧ (countBatch h s).shown = s.shown ∧ (countBatch h s).hand = s.hand ∧ (countBatch h s).pending = s.pending := by
  unfold countBatch
  try dsimp only
  (repeat' split) <;> simp

@[simp] theorem completeLabel_frame (k : Capture) (u : Purpose) :
    (completeLabel k u s).resetLow = s.resetLow ∧ (completeLabel k u s).sdo = s.sdo
      ∧ (completeLabel k u s).down = s.down ∧ (completeLabel k u s).port = s.port
      ∧ (completeLabel k u s).lnk = s.lnk ∧ (completeLabel k u s).itb = s.itb
      ∧ (completeLabel k u s).ccu = s.ccu ∧ (completeLabel k u s).snu = s.snu
      ∧ (completeLabel k u s).tkp = s.tkp ∧ (completeLabel k u s).tot = s.tot
      ∧ (completeLabel k u s).shown = s.shown ∧ (completeLabel k u s).hand = s.hand
      ∧ (completeLabel k u s).pending = s.pending := by
  unfold completeLabel
  try dsimp only
  (repeat' split) <;> simp

@[simp] theorem finish_frame (k : Capture) (q : Request) :
    (finish k q s).resetLow = s.resetLow ∧ (finish k q s).sdo = s.sdo ∧ (finish k q s).down = s.down
      ∧ (finish k q s).port = s.port ∧ (finish k q s).lnk = s.lnk ∧ (finish k q s).ccu = s.ccu
      ∧ (finish k q s).snu = s.snu ∧ (finish k q s).tot = s.tot ∧ (finish k q s).shown = s.shown
      ∧ (finish k q s).hand = s.hand ∧ (finish k q s).pending = s.pending := by
  unfold finish
  try dsimp only
  (repeat' split) <;> simp

@[simp] theorem complete_frame (h : Head) (q : Request) (i : Item) :
    (complete h q i s).resetLow = s.resetLow ∧ (complete h q i s).sdo = s.sdo ∧ (complete h q i s).down = s.down
      ∧ (complete h q i s).port = s.port ∧ (complete h q i s).lnk = s.lnk ∧ (complete h q i s).ccu = s.ccu
      ∧ (complete h q i s).snu = s.snu ∧ (complete h q i s).tot = s.tot ∧ (complete h q i s).shown = s.shown
      ∧ (complete h q i s).hand = s.hand ∧ (complete h q i s).pending = s.pending := by
  unfold complete
  try dsimp only
  (repeat' split) <;> simp

@[simp] theorem examine_frame (h : Head) :
    (examine h s).resetLow = s.resetLow ∧ (examine h s).sdo = s.sdo ∧ (examine h s).down = s.down
      ∧ (examine h s).port = s.port ∧ (examine h s).lnk = s.lnk ∧ (examine h s).ccu = s.ccu
      ∧ (examine h s).snu = s.snu ∧ (examine h s).tot = s.tot ∧ (examine h s).shown = s.shown
      ∧ (examine h s).hand = s.hand ∧ (examine h s).pending = s.pending := by
  unfold examine
  try dsimp only
  (repeat' split) <;> simp

@[simp] theorem makeRequest_frame (h : Head) (i : Item) (q : Request) :
    (makeRequest h i q s).resetLow = s.resetLow ∧ (makeRequest h i q s).sdo = s.sdo
      ∧ (makeRequest h i q s).down = s.down ∧ (makeRequest h i q s).lnk = s.lnk
      ∧ (makeRequest h i q s).snu = s.snu ∧ (makeRequest h i q s).tot = s.tot
      ∧ (makeRequest h i q s).shown = s.shown ∧ (makeRequest h i q s).hand = s.hand
      ∧ (makeRequest h i q s).pending = s.pending := by
  unfold makeRequest
  simp

@[simp] theorem takenItem_frame (h : Head) (n : Nat) :
    (takenItem h n s).resetLow = s.resetLow ∧ (takenItem h n s).sdo = s.sdo ∧ (takenItem h n s).down = s.down
      ∧ (takenItem h n s).port = s.port ∧ (takenItem h n s).lnk = s.lnk ∧ (takenItem h n s).wge = s.wge
      ∧ (takenItem h n s).itb = s.itb ∧ (takenItem h n s).ccu = s.ccu ∧ (takenItem h n s).snu = s.snu
      ∧ (takenItem h n s).tkp = s.tkp ∧ (takenItem h n s).lbc = s.lbc ∧ (takenItem h n s).tot = s.tot
      ∧ (takenItem h n s).shown = s.shown ∧ (takenItem h n s).hand = s.hand
      ∧ (takenItem h n s).pending = s.pending := by
  unfold takenItem
  try dsimp only
  (repeat' split) <;> simp

@[simp] theorem askItem_frame (h : Head) (n : Nat) :
    (askItem h n s).resetLow = s.resetLow ∧ (askItem h n s).sdo = s.sdo ∧ (askItem h n s).down = s.down
      ∧ (askItem h n s).lnk = s.lnk ∧ (askItem h n s).snu = s.snu ∧ (askItem h n s).tot = s.tot
      ∧ (askItem h n s).shown = s.shown ∧ (askItem h n s).hand = s.hand ∧ (askItem h n s).pending = s.pending := by
  unfold askItem
  try dsimp only
  (repeat' split) <;> simp

@[simp] theorem handResult_frame (h : Head) (r : ChanResult) (x y : Bool) :
    (handResult h r x y s).resetLow = s.resetLow ∧ (handResult h r x y s).sdo = s.sdo
      ∧ (handResult h r x y s).down = s.down ∧ (handResult h r x y s).lnk = s.lnk
      ∧ (handResult h r x y s).snu = s.snu ∧ (handResult h r x y s).tot = s.tot
      ∧ (handResult h r x y s).shown = s.shown ∧ (handResult h r x y s).hand = s.hand
      ∧ (handResult h r x y s).pending = s.pending := by
  unfold handResult
  try dsimp only
  (repeat' split) <;> simp

@[simp] theorem takeSample_frame (h : Head) (r : Int) :
    (takeSample h r s).resetLow = s.resetLow ∧ (takeSample h r s).sdo = s.sdo ∧ (takeSample h r s).down = s.down
      ∧ (takeSample h r s).lnk = s.lnk ∧ (takeSample h r s).snu = s.snu ∧ (takeSample h r s).tot = s.tot
      ∧ (takeSample h r s).shown = s.shown ∧ (takeSample h r s).hand = s.hand
      ∧ (takeSample h r s).pending = s.pending := by
  unfold takeSample
  try dsimp only
  (repeat' split) <;> simp

@[simp] theorem restart_frame (h : Head) :
    (restart h s).resetLow = s.resetLow ∧ (restart h s).sdo = s.sdo ∧ (restart h s).down = s.down
      ∧ (restart h s).lnk = s.lnk ∧ (restart h s).snu = s.snu ∧ (restart h s).tot = s.tot
      ∧ (restart h s).shown = s.shown ∧ (restart h s).hand = s.hand ∧ (restart h s).pending = s.pending := by
  unfold restart
  try dsimp only
  (repeat' split) <;> simp

@[simp] theorem goIdle_frame (h : Head) :
    (goIdle h s).resetLow = s.resetLow ∧ (goIdle h s).sdo = s.sdo ∧ (goIdle h s).down = s.down
      ∧ (goIdle h s).lnk = s.lnk ∧ (goIdle h s).snu = s.snu ∧ (goIdle h s).tot = s.tot
      ∧ (goIdle h s).shown = s.shown ∧ (goIdle h s).hand = s.hand ∧ (goIdle h s).pending = s.pending := by
  unfold goIdle
  simp

@[simp] theorem frameRequest_frame (h : Head) :
    (frameRequest h s).resetLow = s.resetLow ∧ (frameRequest h s).sdo = s.sdo ∧ (frameRequest h s).down = s.down
      ∧ (frameRequest h s).port = s.port ∧ (frameRequest h s).lnk = s.lnk ∧ (frameRequest h s).wge = s.wge
      ∧ (frameRequest h s).itb = s.itb ∧ (frameRequest h s).ccu = s.ccu ∧ (frameRequest h s).snu = s.snu
      ∧ (frameRequest h s).tkp = s.tkp ∧ (frameRequest h s).lbc = s.lbc ∧ (frameRequest h s).tot = s.tot
      ∧ (frameRequest h s).shown = s.shown ∧ (frameRequest h s).hand = s.hand
      ∧ (frameRequest h s).pending = s.pending := by
  unfold frameRequest
  try dsimp only
  (repeat' split) <;> simp

@[simp] theorem frameSelected_frame (h : Head) :
    (frameSelected h s).resetLow = s.resetLow ∧ (frameSelected h s).sdo = s.sdo
      ∧ (frameSelected h s).down = s.down ∧ (frameSelected h s).port = s.port ∧ (frameSelected h s).lnk = s.lnk
      ∧ (frameSelected h s).wge = s.wge ∧ (frameSelected h s).itb = s.itb ∧ (frameSelected h s).ccu = s.ccu
      ∧ (frameSelected h s).snu = s.snu ∧ (frameSelected h s).tkp = s.tkp ∧ (frameSelected h s).lbc = s.lbc
      ∧ (frameSelected h s).tot = s.tot ∧ (frameSelected h s).shown = s.shown
      ∧ (frameSelected h s).hand = s.hand ∧ (frameSelected h s).pending = s.pending := by
  unfold frameSelected
  try dsimp only
  (repeat' split) <;> simp

@[simp] theorem frameHead_frame (h : Head) :
    (frameHead h s).resetLow = s.resetLow ∧ (frameHead h s).sdo = s.sdo ∧ (frameHead h s).down = s.down
      ∧ (frameHead h s).port = s.port ∧ (frameHead h s).lnk = s.lnk ∧ (frameHead h s).wge = s.wge
      ∧ (frameHead h s).itb = s.itb ∧ (frameHead h s).ccu = s.ccu ∧ (frameHead h s).snu = s.snu
      ∧ (frameHead h s).tkp = s.tkp ∧ (frameHead h s).lbc = s.lbc ∧ (frameHead h s).tot = s.tot
      ∧ (frameHead h s).shown = s.shown ∧ (frameHead h s).hand = s.hand ∧ (frameHead h s).pending = s.pending := by
  unfold frameHead
  simp

@[simp] theorem takeAck_frame (h : Head) (a : Ack) :
    (takeAck h a s).resetLow = s.resetLow ∧ (takeAck h a s).sdo = s.sdo ∧ (takeAck h a s).down = s.down
      ∧ (takeAck h a s).lnk = s.lnk ∧ (takeAck h a s).snu = s.snu ∧ (takeAck h a s).tot = s.tot
      ∧ (takeAck h a s).shown = s.shown ∧ (takeAck h a s).hand = s.hand ∧ (takeAck h a s).pending = s.pending := by
  unfold takeAck
  try dsimp only
  (repeat' split) <;> simp

@[simp] theorem returnNumber_frame (h : Head) :
    (returnNumber h s).resetLow = s.resetLow ∧ (returnNumber h s).sdo = s.sdo ∧ (returnNumber h s).down = s.down
      ∧ (returnNumber h s).port = s.port ∧ (returnNumber h s).lnk = s.lnk ∧ (returnNumber h s).wge = s.wge
      ∧ (returnNumber h s).itb = s.itb ∧ (returnNumber h s).ccu = s.ccu ∧ (returnNumber h s).tkp = s.tkp
      ∧ (returnNumber h s).lbc = s.lbc ∧ (returnNumber h s).tot = s.tot ∧ (returnNumber h s).shown = s.shown
      ∧ (returnNumber h s).hand = s.hand ∧ (returnNumber h s).pending = s.pending := by
  unfold returnNumber
  try dsimp only
  (repeat' split) <;> simp

@[simp] theorem signOff_frame (h : Head) :
    (signOff h s).resetLow = s.resetLow ∧ (signOff h s).sdo = s.sdo ∧ (signOff h s).down = s.down
      ∧ (signOff h s).port = s.port ∧ (signOff h s).lnk = s.lnk ∧ (signOff h s).wge = s.wge
      ∧ (signOff h s).itb = s.itb ∧ (signOff h s).ccu = s.ccu ∧ (signOff h s).lbc = s.lbc
      ∧ (signOff h s).tot = s.tot ∧ (signOff h s).shown = s.shown ∧ (signOff h s).hand = s.hand
      ∧ (signOff h s).pending = s.pending := by
  unfold signOff
  try dsimp only
  (repeat' split) <;> simp

@[simp] theorem loseContext_frame (h : Head) :
    (loseContext h s).resetLow = s.resetLow ∧ (loseContext h s).sdo = s.sdo ∧ (loseContext h s).down = s.down
      ∧ (loseContext h s).port = s.port ∧ (loseContext h s).lnk = s.lnk ∧ (loseContext h s).wge = s.wge
      ∧ (loseContext h s).itb = s.itb ∧ (loseContext h s).ccu = s.ccu ∧ (loseContext h s).lbc = s.lbc
      ∧ (loseContext h s).tot = s.tot ∧ (loseContext h s).shown = s.shown ∧ (loseContext h s).hand = s.hand
      ∧ (loseContext h s).pending = s.pending := by
  unfold loseContext
  simp

@[simp] theorem changeRole_frame (h : Head) :
    (changeRole h s).resetLow = s.resetLow ∧ (changeRole h s).sdo = s.sdo ∧ (changeRole h s).down = s.down
      ∧ (changeRole h s).port = s.port ∧ (changeRole h s).lnk = s.lnk ∧ (changeRole h s).wge = s.wge
      ∧ (changeRole h s).itb = s.itb ∧ (changeRole h s).ccu = s.ccu ∧ (changeRole h s).lbc = s.lbc
      ∧ (changeRole h s).tot = s.tot ∧ (changeRole h s).shown = s.shown ∧ (changeRole h s).hand = s.hand
      ∧ (changeRole h s).pending = s.pending := by
  unfold changeRole
  simp

@[simp] theorem idlePark_frame (t : TicketSlot) :
    (idlePark t s).resetLow = s.resetLow ∧ (idlePark t s).sdo = s.sdo ∧ (idlePark t s).down = s.down
      ∧ (idlePark t s).port = s.port ∧ (idlePark t s).lnk = s.lnk ∧ (idlePark t s).wge = s.wge
      ∧ (idlePark t s).itb = s.itb ∧ (idlePark t s).ccu = s.ccu ∧ (idlePark t s).snu = s.snu
      ∧ (idlePark t s).lbc = s.lbc ∧ (idlePark t s).tot = s.tot ∧ (idlePark t s).shown = s.shown
      ∧ (idlePark t s).hand = s.hand ∧ (idlePark t s).pending = s.pending := by
  unfold idlePark
  try dsimp only
  (repeat' split) <;> simp

@[simp] theorem frameTicket_frame (t : TicketSlot) :
    (frameTicket t s).resetLow = s.resetLow ∧ (frameTicket t s).sdo = s.sdo ∧ (frameTicket t s).down = s.down
      ∧ (frameTicket t s).port = s.port ∧ (frameTicket t s).lnk = s.lnk ∧ (frameTicket t s).wge = s.wge
      ∧ (frameTicket t s).itb = s.itb ∧ (frameTicket t s).ccu = s.ccu ∧ (frameTicket t s).snu = s.snu
      ∧ (frameTicket t s).lbc = s.lbc ∧ (frameTicket t s).tot = s.tot ∧ (frameTicket t s).shown = s.shown
      ∧ (frameTicket t s).hand = s.hand ∧ (frameTicket t s).pending = s.pending := by
  unfold frameTicket
  try dsimp only
  (repeat' split) <;> simp

@[simp] theorem advanceNumber_frame :
    (advanceNumber s).resetLow = s.resetLow ∧ (advanceNumber s).sdo = s.sdo ∧ (advanceNumber s).down = s.down
      ∧ (advanceNumber s).port = s.port ∧ (advanceNumber s).lnk = s.lnk ∧ (advanceNumber s).wge = s.wge
      ∧ (advanceNumber s).hsu = s.hsu ∧ (advanceNumber s).itb = s.itb ∧ (advanceNumber s).ccu = s.ccu
      ∧ (advanceNumber s).tkp = s.tkp ∧ (advanceNumber s).lbc = s.lbc ∧ (advanceNumber s).tot = s.tot
      ∧ (advanceNumber s).shown = s.shown ∧ (advanceNumber s).hand = s.hand
      ∧ (advanceNumber s).pending = s.pending := by
  unfold advanceNumber
  simp

@[simp] theorem refusePress_frame :
    (refusePress s).resetLow = s.resetLow ∧ (refusePress s).sdo = s.sdo ∧ (refusePress s).down = s.down
      ∧ (refusePress s).lnk = s.lnk ∧ (refusePress s).wge = s.wge ∧ (refusePress s).hsu = s.hsu
      ∧ (refusePress s).itb = s.itb ∧ (refusePress s).ccu = s.ccu ∧ (refusePress s).tkp = s.tkp
      ∧ (refusePress s).lbc = s.lbc ∧ (refusePress s).tot = s.tot ∧ (refusePress s).shown = s.shown
      ∧ (refusePress s).hand = s.hand ∧ (refusePress s).pending = s.pending := by
  unfold refusePress
  simp

@[simp] theorem press_frame :
    (press s).resetLow = s.resetLow ∧ (press s).sdo = s.sdo ∧ (press s).down = s.down ∧ (press s).lnk = s.lnk
      ∧ (press s).wge = s.wge ∧ (press s).hsu = s.hsu ∧ (press s).itb = s.itb ∧ (press s).ccu = s.ccu
      ∧ (press s).tkp = s.tkp ∧ (press s).lbc = s.lbc ∧ (press s).tot = s.tot ∧ (press s).shown = s.shown
      ∧ (press s).hand = s.hand ∧ (press s).pending = s.pending := by
  unfold press
  try dsimp only
  (repeat' split) <;> simp

@[simp] theorem presses_frame (n : Nat) :
    (presses n s).resetLow = s.resetLow ∧ (presses n s).sdo = s.sdo ∧ (presses n s).down = s.down
      ∧ (presses n s).lnk = s.lnk ∧ (presses n s).wge = s.wge ∧ (presses n s).hsu = s.hsu
      ∧ (presses n s).itb = s.itb ∧ (presses n s).ccu = s.ccu ∧ (presses n s).tkp = s.tkp
      ∧ (presses n s).lbc = s.lbc ∧ (presses n s).tot = s.tot ∧ (presses n s).shown = s.shown
      ∧ (presses n s).hand = s.hand ∧ (presses n s).pending = s.pending := by
  induction n generalizing s with
  | zero => simp [presses]
  | succ n ih => simp [presses, ih]

@[simp] theorem takePresses_frame (n : Nat) :
    (takePresses n s).resetLow = s.resetLow ∧ (takePresses n s).sdo = s.sdo ∧ (takePresses n s).down = s.down
      ∧ (takePresses n s).lnk = s.lnk ∧ (takePresses n s).wge = s.wge ∧ (takePresses n s).hsu = s.hsu
      ∧ (takePresses n s).itb = s.itb ∧ (takePresses n s).ccu = s.ccu ∧ (takePresses n s).tkp = s.tkp
      ∧ (takePresses n s).lbc = s.lbc ∧ (takePresses n s).tot = s.tot ∧ (takePresses n s).shown = s.shown
      ∧ (takePresses n s).hand = s.hand ∧ (takePresses n s).pending = s.pending := by
  unfold takePresses
  try dsimp only
  (repeat' split) <;> simp

@[simp] theorem takeCounter_frame (c : Byte) :
    (takeCounter c s).resetLow = s.resetLow ∧ (takeCounter c s).sdo = s.sdo ∧ (takeCounter c s).down = s.down
      ∧ (takeCounter c s).lnk = s.lnk ∧ (takeCounter c s).wge = s.wge ∧ (takeCounter c s).hsu = s.hsu
      ∧ (takeCounter c s).itb = s.itb ∧ (takeCounter c s).ccu = s.ccu ∧ (takeCounter c s).tkp = s.tkp
      ∧ (takeCounter c s).lbc = s.lbc ∧ (takeCounter c s).tot = s.tot ∧ (takeCounter c s).shown = s.shown
      ∧ (takeCounter c s).hand = s.hand ∧ (takeCounter c s).pending = s.pending := by
  unfold takeCounter
  try dsimp only
  (repeat' split) <;> simp

@[simp] theorem setSkipped_frame (h : Head) (m : Bool) :
    (setSkipped h m s).resetLow = s.resetLow ∧ (setSkipped h m s).sdo = s.sdo ∧ (setSkipped h m s).down = s.down
      ∧ (setSkipped h m s).port = s.port ∧ (setSkipped h m s).lnk = s.lnk ∧ (setSkipped h m s).wge = s.wge
      ∧ (setSkipped h m s).hsu = s.hsu ∧ (setSkipped h m s).itb = s.itb ∧ (setSkipped h m s).ccu = s.ccu
      ∧ (setSkipped h m s).tkp = s.tkp ∧ (setSkipped h m s).lbc = s.lbc ∧ (setSkipped h m s).tot = s.tot
      ∧ (setSkipped h m s).shown = s.shown ∧ (setSkipped h m s).hand = s.hand
      ∧ (setSkipped h m s).pending = s.pending := by
  unfold setSkipped
  simp

@[simp] theorem dispenserGone_frame :
    (dispenserGone s).resetLow = s.resetLow ∧ (dispenserGone s).sdo = s.sdo ∧ (dispenserGone s).down = s.down
      ∧ (dispenserGone s).port = s.port ∧ (dispenserGone s).lnk = s.lnk ∧ (dispenserGone s).wge = s.wge
      ∧ (dispenserGone s).hsu = s.hsu ∧ (dispenserGone s).itb = s.itb ∧ (dispenserGone s).ccu = s.ccu
      ∧ (dispenserGone s).tkp = s.tkp ∧ (dispenserGone s).lbc = s.lbc ∧ (dispenserGone s).tot = s.tot
      ∧ (dispenserGone s).shown = s.shown ∧ (dispenserGone s).hand = s.hand
      ∧ (dispenserGone s).pending = s.pending := by
  unfold dispenserGone
  simp

@[simp] theorem openNumbers_frame :
    (openNumbers s).resetLow = s.resetLow ∧ (openNumbers s).sdo = s.sdo ∧ (openNumbers s).down = s.down
      ∧ (openNumbers s).port = s.port ∧ (openNumbers s).lnk = s.lnk ∧ (openNumbers s).wge = s.wge
      ∧ (openNumbers s).hsu = s.hsu ∧ (openNumbers s).itb = s.itb ∧ (openNumbers s).ccu = s.ccu
      ∧ (openNumbers s).tkp = s.tkp ∧ (openNumbers s).lbc = s.lbc ∧ (openNumbers s).tot = s.tot
      ∧ (openNumbers s).shown = s.shown ∧ (openNumbers s).hand = s.hand ∧ (openNumbers s).pending = s.pending := by
  unfold openNumbers
  simp

@[simp] theorem closeNumbers_frame :
    (closeNumbers s).resetLow = s.resetLow ∧ (closeNumbers s).sdo = s.sdo ∧ (closeNumbers s).down = s.down
      ∧ (closeNumbers s).port = s.port ∧ (closeNumbers s).lnk = s.lnk ∧ (closeNumbers s).wge = s.wge
      ∧ (closeNumbers s).itb = s.itb ∧ (closeNumbers s).ccu = s.ccu ∧ (closeNumbers s).tkp = s.tkp
      ∧ (closeNumbers s).lbc = s.lbc ∧ (closeNumbers s).tot = s.tot ∧ (closeNumbers s).shown = s.shown
      ∧ (closeNumbers s).hand = s.hand ∧ (closeNumbers s).pending = s.pending := by
  unfold closeNumbers
  try dsimp only
  have h_resetLow := fun s : State => eachHead_keeps (fun s => s.resetLow) (f := (fun h => onCtx h fun c => { c with nowServing := none })) (fun _ _ => by simp) s
  have h_sdo := fun s : State => eachHead_keeps (fun s => s.sdo) (f := (fun h => onCtx h fun c => { c with nowServing := none })) (fun _ _ => by simp) s
  have h_down := fun s : State => eachHead_keeps (fun s => s.down) (f := (fun h => onCtx h fun c => { c with nowServing := none })) (fun _ _ => by simp) s
  have h_port := fun s : State => eachHead_keeps (fun s => s.port) (f := (fun h => onCtx h fun c => { c with nowServing := none })) (fun _ _ => by simp) s
  have h_lnk := fun s : State => eachHead_keeps (fun s => s.lnk) (f := (fun h => onCtx h fun c => { c with nowServing := none })) (fun _ _ => by simp) s
  have h_wge := fun s : State => eachHead_keeps (fun s => s.wge) (f := (fun h => onCtx h fun c => { c with nowServing := none })) (fun _ _ => by simp) s
  have h_itb := fun s : State => eachHead_keeps (fun s => s.itb) (f := (fun h => onCtx h fun c => { c with nowServing := none })) (fun _ _ => by simp) s
  have h_ccu := fun s : State => eachHead_keeps (fun s => s.ccu) (f := (fun h => onCtx h fun c => { c with nowServing := none })) (fun _ _ => by simp) s
  have h_tkp := fun s : State => eachHead_keeps (fun s => s.tkp) (f := (fun h => onCtx h fun c => { c with nowServing := none })) (fun _ _ => by simp) s
  have h_lbc := fun s : State => eachHead_keeps (fun s => s.lbc) (f := (fun h => onCtx h fun c => { c with nowServing := none })) (fun _ _ => by simp) s
  have h_tot := fun s : State => eachHead_keeps (fun s => s.tot) (f := (fun h => onCtx h fun c => { c with nowServing := none })) (fun _ _ => by simp) s
  have h_shown := fun s : State => eachHead_keeps (fun s => s.shown) (f := (fun h => onCtx h fun c => { c with nowServing := none })) (fun _ _ => by simp) s
  have h_hand := fun s : State => eachHead_keeps (fun s => s.hand) (f := (fun h => onCtx h fun c => { c with nowServing := none })) (fun _ _ => by simp) s
  have h_pending := fun s : State => eachHead_keeps (fun s => s.pending) (f := (fun h => onCtx h fun c => { c with nowServing := none })) (fun _ _ => by simp) s
  simp [h_resetLow, h_sdo, h_down, h_port, h_lnk, h_wge, h_itb, h_ccu, h_tkp, h_lbc, h_tot, h_shown, h_hand, h_pending]

@[simp] theorem countError_frame (i : Slot) :
    (countError i s).resetLow = s.resetLow ∧ (countError i s).sdo = s.sdo ∧ (countError i s).down = s.down
      ∧ (countError i s).port = s.port ∧ (countError i s).wge = s.wge ∧ (countError i s).hsu = s.hsu
      ∧ (countError i s).itb = s.itb ∧ (countError i s).ccu = s.ccu ∧ (countError i s).snu = s.snu
      ∧ (countError i s).tkp = s.tkp ∧ (countError i s).lbc = s.lbc ∧ (countError i s).tot = s.tot
      ∧ (countError i s).shown = s.shown ∧ (countError i s).hand = s.hand ∧ (countError i s).pending = s.pending := by
  unfold countError
  try dsimp only
  (repeat' split) <;> simp

@[simp] theorem setPresence_frame (i : Slot) (q : Presence) :
    (setPresence i q s).resetLow = s.resetLow ∧ (setPresence i q s).sdo = s.sdo
      ∧ (setPresence i q s).down = s.down ∧ (setPresence i q s).port = s.port ∧ (setPresence i q s).wge = s.wge
      ∧ (setPresence i q s).hsu = s.hsu ∧ (setPresence i q s).itb = s.itb ∧ (setPresence i q s).ccu = s.ccu
      ∧ (setPresence i q s).snu = s.snu ∧ (setPresence i q s).tkp = s.tkp ∧ (setPresence i q s).lbc = s.lbc
      ∧ (setPresence i q s).tot = s.tot ∧ (setPresence i q s).shown = s.shown
      ∧ (setPresence i q s).hand = s.hand ∧ (setPresence i q s).pending = s.pending := by
  unfold setPresence
  simp

@[simp] theorem ownersLose_frame (i : Slot) :
    (ownersLose i s).resetLow = s.resetLow ∧ (ownersLose i s).sdo = s.sdo ∧ (ownersLose i s).down = s.down
      ∧ (ownersLose i s).tot = s.tot ∧ (ownersLose i s).shown = s.shown ∧ (ownersLose i s).hand = s.hand
      ∧ (ownersLose i s).pending = s.pending := by
  unfold ownersLose
  try dsimp only
  (repeat' split) <;> simp

@[simp] theorem loseSlot_frame (q : Presence) (i : Slot) :
    (loseSlot q i s).resetLow = s.resetLow ∧ (loseSlot q i s).sdo = s.sdo ∧ (loseSlot q i s).down = s.down
      ∧ (loseSlot q i s).tot = s.tot ∧ (loseSlot q i s).shown = s.shown ∧ (loseSlot q i s).hand = s.hand
      ∧ (loseSlot q i s).pending = s.pending := by
  unfold loseSlot
  simp

@[simp] theorem ownersJoin_frame (i : Slot) :
    (ownersJoin i s).resetLow = s.resetLow ∧ (ownersJoin i s).sdo = s.sdo ∧ (ownersJoin i s).down = s.down
      ∧ (ownersJoin i s).tot = s.tot ∧ (ownersJoin i s).shown = s.shown ∧ (ownersJoin i s).hand = s.hand
      ∧ (ownersJoin i s).pending = s.pending := by
  unfold ownersJoin
  try dsimp only
  (repeat' split) <;> simp

@[simp] theorem joinSlot_frame (i : Slot) :
    (joinSlot i s).resetLow = s.resetLow ∧ (joinSlot i s).sdo = s.sdo ∧ (joinSlot i s).down = s.down
      ∧ (joinSlot i s).tot = s.tot ∧ (joinSlot i s).shown = s.shown ∧ (joinSlot i s).hand = s.hand
      ∧ (joinSlot i s).pending = s.pending := by
  unfold joinSlot
  simp

@[simp] theorem takeJoin_frame (i : Slot) :
    (takeJoin i s).resetLow = s.resetLow ∧ (takeJoin i s).sdo = s.sdo ∧ (takeJoin i s).down = s.down
      ∧ (takeJoin i s).tot = s.tot ∧ (takeJoin i s).shown = s.shown ∧ (takeJoin i s).hand = s.hand
      ∧ (takeJoin i s).pending = s.pending := by
  unfold takeJoin
  try dsimp only
  (repeat' split) <;> simp

@[simp] theorem channelMiss_frame (i : Slot) :
    (channelMiss i s).resetLow = s.resetLow ∧ (channelMiss i s).sdo = s.sdo ∧ (channelMiss i s).down = s.down
      ∧ (channelMiss i s).port = s.port ∧ (channelMiss i s).lnk = s.lnk ∧ (channelMiss i s).hsu = s.hsu
      ∧ (channelMiss i s).itb = s.itb ∧ (channelMiss i s).ccu = s.ccu ∧ (channelMiss i s).snu = s.snu
      ∧ (channelMiss i s).tkp = s.tkp ∧ (channelMiss i s).lbc = s.lbc ∧ (channelMiss i s).tot = s.tot
      ∧ (channelMiss i s).shown = s.shown ∧ (channelMiss i s).hand = s.hand
      ∧ (channelMiss i s).pending = s.pending := by
  unfold channelMiss
  try dsimp only
  (repeat' split) <;> simp

@[simp] theorem takeMiss_frame (i : Slot) :
    (takeMiss i s).resetLow = s.resetLow ∧ (takeMiss i s).sdo = s.sdo ∧ (takeMiss i s).down = s.down
      ∧ (takeMiss i s).tot = s.tot ∧ (takeMiss i s).shown = s.shown ∧ (takeMiss i s).hand = s.hand
      ∧ (takeMiss i s).pending = s.pending := by
  unfold takeMiss
  try dsimp only
  (repeat' split) <;> simp

@[simp] theorem takeKeyEvent_frame (h : Head) (k : WireKey) :
    (takeKeyEvent h k s).resetLow = s.resetLow ∧ (takeKeyEvent h k s).sdo = s.sdo
      ∧ (takeKeyEvent h k s).down = s.down ∧ (takeKeyEvent h k s).port = s.port
      ∧ (takeKeyEvent h k s).wge = s.wge ∧ (takeKeyEvent h k s).hsu = s.hsu ∧ (takeKeyEvent h k s).itb = s.itb
      ∧ (takeKeyEvent h k s).ccu = s.ccu ∧ (takeKeyEvent h k s).snu = s.snu ∧ (takeKeyEvent h k s).tkp = s.tkp
      ∧ (takeKeyEvent h k s).lbc = s.lbc ∧ (takeKeyEvent h k s).tot = s.tot
      ∧ (takeKeyEvent h k s).shown = s.shown ∧ (takeKeyEvent h k s).pending = s.pending := by
  unfold takeKeyEvent
  try dsimp only
  (repeat' split) <;> simp

@[simp] theorem takeWireAck_frame (h : Head) (a : WireAck) :
    (takeWireAck h a s).resetLow = s.resetLow ∧ (takeWireAck h a s).sdo = s.sdo
      ∧ (takeWireAck h a s).down = s.down ∧ (takeWireAck h a s).port = s.port ∧ (takeWireAck h a s).wge = s.wge
      ∧ (takeWireAck h a s).hsu = s.hsu ∧ (takeWireAck h a s).itb = s.itb ∧ (takeWireAck h a s).ccu = s.ccu
      ∧ (takeWireAck h a s).snu = s.snu ∧ (takeWireAck h a s).tkp = s.tkp ∧ (takeWireAck h a s).lbc = s.lbc
      ∧ (takeWireAck h a s).tot = s.tot ∧ (takeWireAck h a s).shown = s.shown
      ∧ (takeWireAck h a s).pending = s.pending := by
  unfold takeWireAck
  try dsimp only
  (repeat' split) <;> simp

@[simp] theorem handHead_frame (h : Head) (r : HeadReport) :
    (handHead h r s).resetLow = s.resetLow ∧ (handHead h r s).sdo = s.sdo ∧ (handHead h r s).down = s.down
      ∧ (handHead h r s).port = s.port ∧ (handHead h r s).wge = s.wge ∧ (handHead h r s).hsu = s.hsu
      ∧ (handHead h r s).itb = s.itb ∧ (handHead h r s).ccu = s.ccu ∧ (handHead h r s).snu = s.snu
      ∧ (handHead h r s).tkp = s.tkp ∧ (handHead h r s).lbc = s.lbc ∧ (handHead h r s).tot = s.tot
      ∧ (handHead h r s).shown = s.shown ∧ (handHead h r s).pending = s.pending := by
  unfold handHead
  cases r.key <;> cases r.ack <;> simp

@[simp] theorem channelOnline_frame (h : Head) :
    (channelOnline h s).resetLow = s.resetLow ∧ (channelOnline h s).sdo = s.sdo
      ∧ (channelOnline h s).down = s.down ∧ (channelOnline h s).port = s.port ∧ (channelOnline h s).lnk = s.lnk
      ∧ (channelOnline h s).hsu = s.hsu ∧ (channelOnline h s).itb = s.itb ∧ (channelOnline h s).ccu = s.ccu
      ∧ (channelOnline h s).snu = s.snu ∧ (channelOnline h s).tkp = s.tkp ∧ (channelOnline h s).lbc = s.lbc
      ∧ (channelOnline h s).tot = s.tot ∧ (channelOnline h s).shown = s.shown
      ∧ (channelOnline h s).hand = s.hand ∧ (channelOnline h s).pending = s.pending := by
  unfold channelOnline
  try dsimp only
  (repeat' split) <;> simp

@[simp] theorem handOn_frame (i : Slot) (b : Bool) (m : Upstream) :
    (handOn i b m s).resetLow = s.resetLow ∧ (handOn i b m s).sdo = s.sdo ∧ (handOn i b m s).down = s.down
      ∧ (handOn i b m s).hsu = s.hsu ∧ (handOn i b m s).ccu = s.ccu ∧ (handOn i b m s).shown = s.shown
      ∧ (handOn i b m s).pending = s.pending := by
  unfold handOn
  try dsimp only
  (repeat' split) <;> simp

@[simp] theorem takeReport_frame (i : Slot) (m : Upstream) :
    (takeReport i m s).resetLow = s.resetLow ∧ (takeReport i m s).sdo = s.sdo ∧ (takeReport i m s).down = s.down
      ∧ (takeReport i m s).hsu = s.hsu ∧ (takeReport i m s).ccu = s.ccu ∧ (takeReport i m s).shown = s.shown
      ∧ (takeReport i m s).pending = s.pending := by
  unfold takeReport
  try dsimp only
  (repeat' split) <;> simp

@[simp] theorem rejectPart_frame (i : Slot) :
    (rejectPart i s).resetLow = s.resetLow ∧ (rejectPart i s).sdo = s.sdo ∧ (rejectPart i s).down = s.down
      ∧ (rejectPart i s).tot = s.tot ∧ (rejectPart i s).shown = s.shown ∧ (rejectPart i s).hand = s.hand
      ∧ (rejectPart i s).pending = s.pending := by
  unfold rejectPart
  simp

@[simp] theorem takeGood_frame (i : Slot) (m : Upstream) :
    (takeGood i m s).resetLow = s.resetLow ∧ (takeGood i m s).sdo = s.sdo ∧ (takeGood i m s).down = s.down
      ∧ (takeGood i m s).shown = s.shown ∧ (takeGood i m s).pending = s.pending := by
  unfold takeGood
  try dsimp only
  (repeat' split) <;> simp

@[simp] theorem upstreamPart_frame (i : Slot) (part : Option (List Byte)) :
    (upstreamPart i part s).resetLow = s.resetLow ∧ (upstreamPart i part s).sdo = s.sdo
      ∧ (upstreamPart i part s).down = s.down ∧ (upstreamPart i part s).shown = s.shown
      ∧ (upstreamPart i part s).pending = s.pending := by
  unfold upstreamPart
  try dsimp only
  (repeat' split) <;> simp

@[simp] theorem maskSlot_frame (m : Table Bool 11) (i : Slot) :
    (maskSlot m i s).resetLow = s.resetLow ∧ (maskSlot m i s).sdo = s.sdo ∧ (maskSlot m i s).down = s.down
      ∧ (maskSlot m i s).tot = s.tot ∧ (maskSlot m i s).shown = s.shown ∧ (maskSlot m i s).hand = s.hand
      ∧ (maskSlot m i s).pending = s.pending := by
  unfold maskSlot
  try dsimp only
  (repeat' split) <;> simp

@[simp] theorem applyMask_frame :
    (applyMask s).resetLow = s.resetLow ∧ (applyMask s).sdo = s.sdo ∧ (applyMask s).down = s.down
      ∧ (applyMask s).tot = s.tot ∧ (applyMask s).shown = s.shown ∧ (applyMask s).hand = s.hand
      ∧ (applyMask s).pending = s.pending := by
  unfold applyMask
  dsimp only
  have h_resetLow := fun (m : Table Bool 11) (s : State) => eachSlotDown_keeps (fun s => s.resetLow) (f := maskSlot m) (fun _ _ => by simp) s
  have h_sdo := fun (m : Table Bool 11) (s : State) => eachSlotDown_keeps (fun s => s.sdo) (f := maskSlot m) (fun _ _ => by simp) s
  have h_down := fun (m : Table Bool 11) (s : State) => eachSlotDown_keeps (fun s => s.down) (f := maskSlot m) (fun _ _ => by simp) s
  have h_tot := fun (m : Table Bool 11) (s : State) => eachSlotDown_keeps (fun s => s.tot) (f := maskSlot m) (fun _ _ => by simp) s
  have h_shown := fun (m : Table Bool 11) (s : State) => eachSlotDown_keeps (fun s => s.shown) (f := maskSlot m) (fun _ _ => by simp) s
  have h_hand := fun (m : Table Bool 11) (s : State) => eachSlotDown_keeps (fun s => s.hand) (f := maskSlot m) (fun _ _ => by simp) s
  have h_pending := fun (m : Table Bool 11) (s : State) => eachSlotDown_keeps (fun s => s.pending) (f := maskSlot m) (fun _ _ => by simp) s
  (repeat' split) <;> simp [h_resetLow, h_sdo, h_down, h_tot, h_shown, h_hand, h_pending]

@[simp] theorem restartSlot_frame (i : Slot) :
    (restartSlot i s).resetLow = s.resetLow ∧ (restartSlot i s).sdo = s.sdo ∧ (restartSlot i s).down = s.down
      ∧ (restartSlot i s).tot = s.tot ∧ (restartSlot i s).shown = s.shown ∧ (restartSlot i s).hand = s.hand
      ∧ (restartSlot i s).pending = s.pending := by
  unfold restartSlot
  try dsimp only
  (repeat' split) <;> simp

@[simp] theorem applyRestart_frame :
    (applyRestart s).resetLow = s.resetLow ∧ (applyRestart s).sdo = s.sdo ∧ (applyRestart s).down = s.down
      ∧ (applyRestart s).tot = s.tot ∧ (applyRestart s).shown = s.shown ∧ (applyRestart s).hand = s.hand
      ∧ (applyRestart s).pending = s.pending := by
  unfold applyRestart
  dsimp only
  have h_resetLow := fun s : State => eachSlotDown_keeps (fun s => s.resetLow) (f := restartSlot) (fun _ _ => by simp) s
  have h_sdo := fun s : State => eachSlotDown_keeps (fun s => s.sdo) (f := restartSlot) (fun _ _ => by simp) s
  have h_down := fun s : State => eachSlotDown_keeps (fun s => s.down) (f := restartSlot) (fun _ _ => by simp) s
  have h_tot := fun s : State => eachSlotDown_keeps (fun s => s.tot) (f := restartSlot) (fun _ _ => by simp) s
  have h_shown := fun s : State => eachSlotDown_keeps (fun s => s.shown) (f := restartSlot) (fun _ _ => by simp) s
  have h_hand := fun s : State => eachSlotDown_keeps (fun s => s.hand) (f := restartSlot) (fun _ _ => by simp) s
  have h_pending := fun s : State => eachSlotDown_keeps (fun s => s.pending) (f := restartSlot) (fun _ _ => by simp) s
  (repeat' split) <;> simp [h_resetLow, h_sdo, h_down, h_tot, h_shown, h_hand, h_pending]

@[simp] theorem joinWait_frame (i : Slot) :
    (joinWait i s).resetLow = s.resetLow ∧ (joinWait i s).sdo = s.sdo ∧ (joinWait i s).down = s.down
      ∧ (joinWait i s).port = s.port ∧ (joinWait i s).wge = s.wge ∧ (joinWait i s).hsu = s.hsu
      ∧ (joinWait i s).itb = s.itb ∧ (joinWait i s).ccu = s.ccu ∧ (joinWait i s).snu = s.snu
      ∧ (joinWait i s).tkp = s.tkp ∧ (joinWait i s).lbc = s.lbc ∧ (joinWait i s).tot = s.tot
      ∧ (joinWait i s).shown = s.shown ∧ (joinWait i s).hand = s.hand ∧ (joinWait i s).pending = s.pending := by
  unfold joinWait
  simp

@[simp] theorem countFrame_frame :
    (countFrame s).resetLow = s.resetLow ∧ (countFrame s).sdo = s.sdo ∧ (countFrame s).port = s.port
      ∧ (countFrame s).wge = s.wge ∧ (countFrame s).hsu = s.hsu ∧ (countFrame s).itb = s.itb
      ∧ (countFrame s).ccu = s.ccu ∧ (countFrame s).snu = s.snu ∧ (countFrame s).tkp = s.tkp
      ∧ (countFrame s).lbc = s.lbc ∧ (countFrame s).tot = s.tot ∧ (countFrame s).shown = s.shown
      ∧ (countFrame s).pending = s.pending := by
  unfold countFrame
  simp

@[simp] theorem frameStart_frame :
    (frameStart s).resetLow = s.resetLow ∧ (frameStart s).sdo = s.sdo ∧ (frameStart s).tot = s.tot
      ∧ (frameStart s).shown = s.shown ∧ (frameStart s).pending = s.pending := by
  unfold frameStart
  have h_resetLow := fun s : State => eachSlot_keeps (fun s => s.resetLow) (f := joinWait) (fun _ _ => by simp) s
  have h_sdo := fun s : State => eachSlot_keeps (fun s => s.sdo) (f := joinWait) (fun _ _ => by simp) s
  have h_tot := fun s : State => eachSlot_keeps (fun s => s.tot) (f := joinWait) (fun _ _ => by simp) s
  have h_shown := fun s : State => eachSlot_keeps (fun s => s.shown) (f := joinWait) (fun _ _ => by simp) s
  have h_pending := fun s : State => eachSlot_keeps (fun s => s.pending) (f := joinWait) (fun _ _ => by simp) s
  simp [h_resetLow, h_sdo, h_tot, h_shown, h_pending]

@[simp] theorem clearRefresh_frame (i : Slot) :
    (clearRefresh i s).resetLow = s.resetLow ∧ (clearRefresh i s).sdo = s.sdo ∧ (clearRefresh i s).down = s.down
      ∧ (clearRefresh i s).port = s.port ∧ (clearRefresh i s).wge = s.wge ∧ (clearRefresh i s).hsu = s.hsu
      ∧ (clearRefresh i s).itb = s.itb ∧ (clearRefresh i s).ccu = s.ccu ∧ (clearRefresh i s).snu = s.snu
      ∧ (clearRefresh i s).tkp = s.tkp ∧ (clearRefresh i s).lbc = s.lbc ∧ (clearRefresh i s).tot = s.tot
      ∧ (clearRefresh i s).shown = s.shown ∧ (clearRefresh i s).hand = s.hand
      ∧ (clearRefresh i s).pending = s.pending := by
  unfold clearRefresh
  try dsimp only
  (repeat' split) <;> simp

@[simp] theorem sendNotice_frame :
    (sendNotice s).resetLow = s.resetLow ∧ (sendNotice s).sdo = s.sdo ∧ (sendNotice s).port = s.port
      ∧ (sendNotice s).lnk = s.lnk ∧ (sendNotice s).wge = s.wge ∧ (sendNotice s).hsu = s.hsu
      ∧ (sendNotice s).itb = s.itb ∧ (sendNotice s).ccu = s.ccu ∧ (sendNotice s).snu = s.snu
      ∧ (sendNotice s).tkp = s.tkp ∧ (sendNotice s).lbc = s.lbc ∧ (sendNotice s).tot = s.tot
      ∧ (sendNotice s).shown = s.shown ∧ (sendNotice s).hand = s.hand ∧ (sendNotice s).pending = s.pending := by
  unfold sendNotice
  simp

@[simp] theorem sendWelcome_frame (i : Slot) :
    (sendWelcome i s).resetLow = s.resetLow ∧ (sendWelcome i s).sdo = s.sdo ∧ (sendWelcome i s).port = s.port
      ∧ (sendWelcome i s).wge = s.wge ∧ (sendWelcome i s).hsu = s.hsu ∧ (sendWelcome i s).itb = s.itb
      ∧ (sendWelcome i s).ccu = s.ccu ∧ (sendWelcome i s).snu = s.snu ∧ (sendWelcome i s).tkp = s.tkp
      ∧ (sendWelcome i s).lbc = s.lbc ∧ (sendWelcome i s).tot = s.tot ∧ (sendWelcome i s).shown = s.shown
      ∧ (sendWelcome i s).hand = s.hand ∧ (sendWelcome i s).pending = s.pending := by
  unfold sendWelcome
  try dsimp only
  (repeat' split) <;> simp

@[simp] theorem copyOperation_frame (h : Head) :
    (copyOperation h s).2.resetLow = s.resetLow ∧ (copyOperation h s).2.sdo = s.sdo ∧ (copyOperation h s).2.down = s.down ∧ (copyOperation h s).2.port = s.port
      ∧ (copyOperation h s).2.lnk = s.lnk ∧ (copyOperation h s).2.wge = s.wge ∧ (copyOperation h s).2.hsu = s.hsu ∧ (copyOperation h s).2.itb = s.itb ∧ (copyOperation h s).2.snu = s.snu
      ∧ (copyOperation h s).2.tkp = s.tkp ∧ (copyOperation h s).2.lbc = s.lbc ∧ (copyOperation h s).2.tot = s.tot ∧ (copyOperation h s).2.shown = s.shown ∧ (copyOperation h s).2.hand = s.hand
      ∧ (copyOperation h s).2.pending = s.pending := by
  unfold copyOperation
  dsimp only
  (repeat' split) <;> simp

@[simp] theorem sendHeadUpdate_frame (h : Head) :
    (sendHeadUpdate h s).resetLow = s.resetLow ∧ (sendHeadUpdate h s).sdo = s.sdo
      ∧ (sendHeadUpdate h s).port = s.port ∧ (sendHeadUpdate h s).lnk = s.lnk ∧ (sendHeadUpdate h s).wge = s.wge
      ∧ (sendHeadUpdate h s).hsu = s.hsu ∧ (sendHeadUpdate h s).itb = s.itb ∧ (sendHeadUpdate h s).snu = s.snu
      ∧ (sendHeadUpdate h s).tkp = s.tkp ∧ (sendHeadUpdate h s).lbc = s.lbc ∧ (sendHeadUpdate h s).tot = s.tot
      ∧ (sendHeadUpdate h s).shown = s.shown ∧ (sendHeadUpdate h s).hand = s.hand
      ∧ (sendHeadUpdate h s).pending = s.pending := by
  unfold sendHeadUpdate
  try dsimp only
  (repeat' split) <;> simp

@[simp] theorem printerOp_frame (p : Printer) :
    (printerOp p s).2.resetLow = s.resetLow ∧ (printerOp p s).2.sdo = s.sdo ∧ (printerOp p s).2.down = s.down ∧ (printerOp p s).2.port = s.port
      ∧ (printerOp p s).2.lnk = s.lnk ∧ (printerOp p s).2.wge = s.wge ∧ (printerOp p s).2.hsu = s.hsu ∧ (printerOp p s).2.itb = s.itb ∧ (printerOp p s).2.ccu = s.ccu
      ∧ (printerOp p s).2.snu = s.snu ∧ (printerOp p s).2.tkp = s.tkp ∧ (printerOp p s).2.tot = s.tot ∧ (printerOp p s).2.shown = s.shown ∧ (printerOp p s).2.hand = s.hand
      ∧ (printerOp p s).2.pending = s.pending := by
  unfold printerOp
  dsimp only
  (repeat' split) <;> simp

@[simp] theorem sendPrinterUpdate_frame (p : Printer) :
    (sendPrinterUpdate p s).resetLow = s.resetLow ∧ (sendPrinterUpdate p s).sdo = s.sdo
      ∧ (sendPrinterUpdate p s).port = s.port ∧ (sendPrinterUpdate p s).lnk = s.lnk
      ∧ (sendPrinterUpdate p s).wge = s.wge ∧ (sendPrinterUpdate p s).hsu = s.hsu
      ∧ (sendPrinterUpdate p s).itb = s.itb ∧ (sendPrinterUpdate p s).ccu = s.ccu
      ∧ (sendPrinterUpdate p s).snu = s.snu ∧ (sendPrinterUpdate p s).tkp = s.tkp
      ∧ (sendPrinterUpdate p s).tot = s.tot ∧ (sendPrinterUpdate p s).shown = s.shown
      ∧ (sendPrinterUpdate p s).hand = s.hand ∧ (sendPrinterUpdate p s).pending = s.pending := by
  unfold sendPrinterUpdate
  try dsimp only
  (repeat' split) <;> simp

@[simp] theorem sendDispenserUpdate_frame :
    (sendDispenserUpdate s).resetLow = s.resetLow ∧ (sendDispenserUpdate s).sdo = s.sdo
      ∧ (sendDispenserUpdate s).port = s.port ∧ (sendDispenserUpdate s).lnk = s.lnk
      ∧ (sendDispenserUpdate s).wge = s.wge ∧ (sendDispenserUpdate s).hsu = s.hsu
      ∧ (sendDispenserUpdate s).itb = s.itb ∧ (sendDispenserUpdate s).ccu = s.ccu
      ∧ (sendDispenserUpdate s).tkp = s.tkp ∧ (sendDispenserUpdate s).lbc = s.lbc
      ∧ (sendDispenserUpdate s).tot = s.tot ∧ (sendDispenserUpdate s).shown = s.shown
      ∧ (sendDispenserUpdate s).hand = s.hand ∧ (sendDispenserUpdate s).pending = s.pending := by
  unfold sendDispenserUpdate
  try dsimp only
  (repeat' split) <;> simp

@[simp] theorem resetHeads_frame :
    (resetHeads s).resetLow = s.resetLow ∧ (resetHeads s).sdo = s.sdo ∧ (resetHeads s).down = s.down
      ∧ (resetHeads s).port = s.port ∧ (resetHeads s).lnk = s.lnk ∧ (resetHeads s).wge = s.wge
      ∧ (resetHeads s).itb = s.itb ∧ (resetHeads s).ccu = s.ccu ∧ (resetHeads s).lbc = s.lbc
      ∧ (resetHeads s).tot = s.tot ∧ (resetHeads s).shown = s.shown ∧ (resetHeads s).hand = s.hand
      ∧ (resetHeads s).pending = s.pending := by
  unfold resetHeads
  dsimp only
  have h_resetLow := fun (hs : List Head) (s : State) =>
    foldl_keeps (fun s => s.resetLow) (f := fun s (h : Head) => loseContext h s) (fun _ _ => by simp) hs s
  have h_sdo := fun (hs : List Head) (s : State) =>
    foldl_keeps (fun s => s.sdo) (f := fun s (h : Head) => loseContext h s) (fun _ _ => by simp) hs s
  have h_down := fun (hs : List Head) (s : State) =>
    foldl_keeps (fun s => s.down) (f := fun s (h : Head) => loseContext h s) (fun _ _ => by simp) hs s
  have h_port := fun (hs : List Head) (s : State) =>
    foldl_keeps (fun s => s.port) (f := fun s (h : Head) => loseContext h s) (fun _ _ => by simp) hs s
  have h_lnk := fun (hs : List Head) (s : State) =>
    foldl_keeps (fun s => s.lnk) (f := fun s (h : Head) => loseContext h s) (fun _ _ => by simp) hs s
  have h_wge := fun (hs : List Head) (s : State) =>
    foldl_keeps (fun s => s.wge) (f := fun s (h : Head) => loseContext h s) (fun _ _ => by simp) hs s
  have h_itb := fun (hs : List Head) (s : State) =>
    foldl_keeps (fun s => s.itb) (f := fun s (h : Head) => loseContext h s) (fun _ _ => by simp) hs s
  have h_ccu := fun (hs : List Head) (s : State) =>
    foldl_keeps (fun s => s.ccu) (f := fun s (h : Head) => loseContext h s) (fun _ _ => by simp) hs s
  have h_lbc := fun (hs : List Head) (s : State) =>
    foldl_keeps (fun s => s.lbc) (f := fun s (h : Head) => loseContext h s) (fun _ _ => by simp) hs s
  have h_tot := fun (hs : List Head) (s : State) =>
    foldl_keeps (fun s => s.tot) (f := fun s (h : Head) => loseContext h s) (fun _ _ => by simp) hs s
  have h_shown := fun (hs : List Head) (s : State) =>
    foldl_keeps (fun s => s.shown) (f := fun s (h : Head) => loseContext h s) (fun _ _ => by simp) hs s
  have h_hand := fun (hs : List Head) (s : State) =>
    foldl_keeps (fun s => s.hand) (f := fun s (h : Head) => loseContext h s) (fun _ _ => by simp) hs s
  have h_pending := fun (hs : List Head) (s : State) =>
    foldl_keeps (fun s => s.pending) (f := fun s (h : Head) => loseContext h s) (fun _ _ => by simp) hs s
  simp only [h_resetLow, h_sdo, h_down, h_port, h_lnk, h_wge, h_itb, h_ccu, h_lbc, h_tot, h_shown, h_hand, h_pending, and_self]

@[simp] theorem resetChannels_frame :
    (resetChannels s).resetLow = s.resetLow ∧ (resetChannels s).sdo = s.sdo ∧ (resetChannels s).down = s.down
      ∧ (resetChannels s).port = s.port ∧ (resetChannels s).lnk = s.lnk ∧ (resetChannels s).hsu = s.hsu
      ∧ (resetChannels s).itb = s.itb ∧ (resetChannels s).ccu = s.ccu ∧ (resetChannels s).snu = s.snu
      ∧ (resetChannels s).tkp = s.tkp ∧ (resetChannels s).lbc = s.lbc ∧ (resetChannels s).tot = s.tot
      ∧ (resetChannels s).shown = s.shown ∧ (resetChannels s).hand = s.hand
      ∧ (resetChannels s).pending = s.pending := by
  unfold resetChannels
  simp

@[simp] theorem hubResetEffects_frame :
    (hubResetEffects s).resetLow = s.resetLow ∧ (hubResetEffects s).sdo = s.sdo
      ∧ (hubResetEffects s).itb = s.itb ∧ (hubResetEffects s).shown = s.shown
      ∧ (hubResetEffects s).pending = s.pending := by
  unfold hubResetEffects
  simp

@[simp] theorem keyAtTicket_frame (h : Head) :
    (keyAtTicket h s).resetLow = s.resetLow ∧ (keyAtTicket h s).sdo = s.sdo ∧ (keyAtTicket h s).down = s.down
      ∧ (keyAtTicket h s).port = s.port ∧ (keyAtTicket h s).lnk = s.lnk ∧ (keyAtTicket h s).wge = s.wge
      ∧ (keyAtTicket h s).hsu = s.hsu ∧ (keyAtTicket h s).itb = s.itb ∧ (keyAtTicket h s).ccu = s.ccu
      ∧ (keyAtTicket h s).snu = s.snu ∧ (keyAtTicket h s).lbc = s.lbc ∧ (keyAtTicket h s).tot = s.tot
      ∧ (keyAtTicket h s).shown = s.shown ∧ (keyAtTicket h s).hand = s.hand
      ∧ (keyAtTicket h s).pending = s.pending := by
  unfold keyAtTicket
  try dsimp only
  (repeat' split) <;> simp

@[simp] theorem signOn_frame (h : Head) (n : Operator) :
    (signOn h n s).resetLow = s.resetLow ∧ (signOn h n s).sdo = s.sdo ∧ (signOn h n s).down = s.down
      ∧ (signOn h n s).port = s.port ∧ (signOn h n s).lnk = s.lnk ∧ (signOn h n s).wge = s.wge
      ∧ (signOn h n s).itb = s.itb ∧ (signOn h n s).ccu = s.ccu ∧ (signOn h n s).snu = s.snu
      ∧ (signOn h n s).tkp = s.tkp ∧ (signOn h n s).lbc = s.lbc ∧ (signOn h n s).tot = s.tot
      ∧ (signOn h n s).shown = s.shown ∧ (signOn h n s).hand = s.hand ∧ (signOn h n s).pending = s.pending := by
  unfold signOn
  simp

@[simp] theorem movedMessage_frame (h : Head) (b : Bool) :
    (movedMessage h b s).resetLow = s.resetLow ∧ (movedMessage h b s).sdo = s.sdo
      ∧ (movedMessage h b s).down = s.down ∧ (movedMessage h b s).port = s.port
      ∧ (movedMessage h b s).lnk = s.lnk ∧ (movedMessage h b s).wge = s.wge ∧ (movedMessage h b s).itb = s.itb
      ∧ (movedMessage h b s).ccu = s.ccu ∧ (movedMessage h b s).snu = s.snu ∧ (movedMessage h b s).tkp = s.tkp
      ∧ (movedMessage h b s).lbc = s.lbc ∧ (movedMessage h b s).tot = s.tot
      ∧ (movedMessage h b s).shown = s.shown ∧ (movedMessage h b s).hand = s.hand
      ∧ (movedMessage h b s).pending = s.pending := by
  unfold movedMessage
  try dsimp only
  (repeat' split) <;> simp

@[simp] theorem signOnKey_frame (h : Head) (n : Nat) :
    (signOnKey h n s).resetLow = s.resetLow ∧ (signOnKey h n s).sdo = s.sdo ∧ (signOnKey h n s).down = s.down
      ∧ (signOnKey h n s).port = s.port ∧ (signOnKey h n s).lnk = s.lnk ∧ (signOnKey h n s).wge = s.wge
      ∧ (signOnKey h n s).itb = s.itb ∧ (signOnKey h n s).ccu = s.ccu ∧ (signOnKey h n s).lbc = s.lbc
      ∧ (signOnKey h n s).tot = s.tot ∧ (signOnKey h n s).shown = s.shown ∧ (signOnKey h n s).hand = s.hand
      ∧ (signOnKey h n s).pending = s.pending := by
  unfold signOnKey
  try dsimp only
  (repeat' split) <;> simp

@[simp] theorem countKey_frame (h : Head) (n : Nat) :
    (countKey h n s).resetLow = s.resetLow ∧ (countKey h n s).sdo = s.sdo ∧ (countKey h n s).down = s.down
      ∧ (countKey h n s).port = s.port ∧ (countKey h n s).lnk = s.lnk ∧ (countKey h n s).wge = s.wge
      ∧ (countKey h n s).itb = s.itb ∧ (countKey h n s).ccu = s.ccu ∧ (countKey h n s).snu = s.snu
      ∧ (countKey h n s).tkp = s.tkp ∧ (countKey h n s).lbc = s.lbc ∧ (countKey h n s).tot = s.tot
      ∧ (countKey h n s).shown = s.shown ∧ (countKey h n s).hand = s.hand ∧ (countKey h n s).pending = s.pending := by
  unfold countKey
  try dsimp only
  (repeat' split) <;> simp

@[simp] theorem labelService_frame (h : Head) :
    (labelService h s).resetLow = s.resetLow ∧ (labelService h s).sdo = s.sdo ∧ (labelService h s).down = s.down
      ∧ (labelService h s).port = s.port ∧ (labelService h s).lnk = s.lnk ∧ (labelService h s).wge = s.wge
      ∧ (labelService h s).itb = s.itb ∧ (labelService h s).ccu = s.ccu ∧ (labelService h s).snu = s.snu
      ∧ (labelService h s).tkp = s.tkp ∧ (labelService h s).lbc = s.lbc ∧ (labelService h s).tot = s.tot
      ∧ (labelService h s).shown = s.shown ∧ (labelService h s).hand = s.hand
      ∧ (labelService h s).pending = s.pending := by
  unfold labelService
  try dsimp only
  (repeat' split) <;> simp

@[simp] theorem labelPrepack_frame (h : Head) :
    (labelPrepack h s).resetLow = s.resetLow ∧ (labelPrepack h s).sdo = s.sdo ∧ (labelPrepack h s).down = s.down
      ∧ (labelPrepack h s).lnk = s.lnk ∧ (labelPrepack h s).snu = s.snu ∧ (labelPrepack h s).tot = s.tot
      ∧ (labelPrepack h s).shown = s.shown ∧ (labelPrepack h s).hand = s.hand
      ∧ (labelPrepack h s).pending = s.pending := by
  unfold labelPrepack
  try dsimp only
  (repeat' split) <;> simp

@[simp] theorem labelKey_frame (h : Head) :
    (labelKey h s).resetLow = s.resetLow ∧ (labelKey h s).sdo = s.sdo ∧ (labelKey h s).down = s.down
      ∧ (labelKey h s).lnk = s.lnk ∧ (labelKey h s).snu = s.snu ∧ (labelKey h s).tot = s.tot
      ∧ (labelKey h s).shown = s.shown ∧ (labelKey h s).hand = s.hand ∧ (labelKey h s).pending = s.pending := by
  unfold labelKey
  try dsimp only
  (repeat' split) <;> simp

@[simp] theorem batchKey_frame (h : Head) (n : Nat) :
    (batchKey h n s).resetLow = s.resetLow ∧ (batchKey h n s).sdo = s.sdo ∧ (batchKey h n s).down = s.down
      ∧ (batchKey h n s).port = s.port ∧ (batchKey h n s).lnk = s.lnk ∧ (batchKey h n s).wge = s.wge
      ∧ (batchKey h n s).itb = s.itb ∧ (batchKey h n s).ccu = s.ccu ∧ (batchKey h n s).snu = s.snu
      ∧ (batchKey h n s).tkp = s.tkp ∧ (batchKey h n s).lbc = s.lbc ∧ (batchKey h n s).tot = s.tot
      ∧ (batchKey h n s).shown = s.shown ∧ (batchKey h n s).hand = s.hand ∧ (batchKey h n s).pending = s.pending := by
  unfold batchKey
  try dsimp only
  (repeat' split) <;> simp

@[simp] theorem clearKey_frame (h : Head) :
    (clearKey h s).resetLow = s.resetLow ∧ (clearKey h s).sdo = s.sdo ∧ (clearKey h s).down = s.down
      ∧ (clearKey h s).port = s.port ∧ (clearKey h s).lnk = s.lnk ∧ (clearKey h s).wge = s.wge
      ∧ (clearKey h s).itb = s.itb ∧ (clearKey h s).ccu = s.ccu ∧ (clearKey h s).snu = s.snu
      ∧ (clearKey h s).tkp = s.tkp ∧ (clearKey h s).lbc = s.lbc ∧ (clearKey h s).tot = s.tot
      ∧ (clearKey h s).shown = s.shown ∧ (clearKey h s).hand = s.hand ∧ (clearKey h s).pending = s.pending := by
  unfold clearKey
  simp

@[simp] theorem weighingKey_frame (h : Head) (r : Except Code Channel) :
    (weighingKey h r s).resetLow = s.resetLow ∧ (weighingKey h r s).sdo = s.sdo
      ∧ (weighingKey h r s).down = s.down ∧ (weighingKey h r s).port = s.port ∧ (weighingKey h r s).lnk = s.lnk
      ∧ (weighingKey h r s).itb = s.itb ∧ (weighingKey h r s).ccu = s.ccu ∧ (weighingKey h r s).snu = s.snu
      ∧ (weighingKey h r s).tkp = s.tkp ∧ (weighingKey h r s).lbc = s.lbc ∧ (weighingKey h r s).tot = s.tot
      ∧ (weighingKey h r s).shown = s.shown ∧ (weighingKey h r s).hand = s.hand
      ∧ (weighingKey h r s).pending = s.pending := by
  unfold weighingKey
  try dsimp only
  (repeat' split) <;> simp

@[simp] theorem callNext_frame (h : Head) :
    (callNext h s).resetLow = s.resetLow ∧ (callNext h s).sdo = s.sdo ∧ (callNext h s).down = s.down
      ∧ (callNext h s).port = s.port ∧ (callNext h s).lnk = s.lnk ∧ (callNext h s).wge = s.wge
      ∧ (callNext h s).itb = s.itb ∧ (callNext h s).ccu = s.ccu ∧ (callNext h s).tkp = s.tkp
      ∧ (callNext h s).lbc = s.lbc ∧ (callNext h s).tot = s.tot ∧ (callNext h s).shown = s.shown
      ∧ (callNext h s).hand = s.hand ∧ (callNext h s).pending = s.pending := by
  unfold callNext
  try dsimp only
  (repeat' split) <;> simp

@[simp] theorem nextKey_frame (h : Head) :
    (nextKey h s).resetLow = s.resetLow ∧ (nextKey h s).sdo = s.sdo ∧ (nextKey h s).down = s.down
      ∧ (nextKey h s).port = s.port ∧ (nextKey h s).lnk = s.lnk ∧ (nextKey h s).wge = s.wge
      ∧ (nextKey h s).itb = s.itb ∧ (nextKey h s).ccu = s.ccu ∧ (nextKey h s).tkp = s.tkp
      ∧ (nextKey h s).lbc = s.lbc ∧ (nextKey h s).tot = s.tot ∧ (nextKey h s).shown = s.shown
      ∧ (nextKey h s).hand = s.hand ∧ (nextKey h s).pending = s.pending := by
  unfold nextKey
  try dsimp only
  (repeat' split) <;> simp

@[simp] theorem sendBack_frame (h : Head) (n : Nat) :
    (sendBack h n s).resetLow = s.resetLow ∧ (sendBack h n s).sdo = s.sdo ∧ (sendBack h n s).down = s.down
      ∧ (sendBack h n s).port = s.port ∧ (sendBack h n s).lnk = s.lnk ∧ (sendBack h n s).wge = s.wge
      ∧ (sendBack h n s).itb = s.itb ∧ (sendBack h n s).ccu = s.ccu ∧ (sendBack h n s).tkp = s.tkp
      ∧ (sendBack h n s).lbc = s.lbc ∧ (sendBack h n s).tot = s.tot ∧ (sendBack h n s).shown = s.shown
      ∧ (sendBack h n s).hand = s.hand ∧ (sendBack h n s).pending = s.pending := by
  unfold sendBack
  simp

@[simp] theorem skipKey_frame (h : Head) :
    (skipKey h s).resetLow = s.resetLow ∧ (skipKey h s).sdo = s.sdo ∧ (skipKey h s).down = s.down
      ∧ (skipKey h s).port = s.port ∧ (skipKey h s).lnk = s.lnk ∧ (skipKey h s).wge = s.wge
      ∧ (skipKey h s).itb = s.itb ∧ (skipKey h s).ccu = s.ccu ∧ (skipKey h s).tkp = s.tkp
      ∧ (skipKey h s).lbc = s.lbc ∧ (skipKey h s).tot = s.tot ∧ (skipKey h s).shown = s.shown
      ∧ (skipKey h s).hand = s.hand ∧ (skipKey h s).pending = s.pending := by
  unfold skipKey
  try dsimp only
  (repeat' split) <;> simp

@[simp] theorem openWith_frame (h : Head) (o : Operator) (n : Nat) :
    (openWith h o n s).resetLow = s.resetLow ∧ (openWith h o n s).sdo = s.sdo ∧ (openWith h o n s).down = s.down
      ∧ (openWith h o n s).port = s.port ∧ (openWith h o n s).lnk = s.lnk ∧ (openWith h o n s).wge = s.wge
      ∧ (openWith h o n s).itb = s.itb ∧ (openWith h o n s).ccu = s.ccu ∧ (openWith h o n s).lbc = s.lbc
      ∧ (openWith h o n s).tot = s.tot ∧ (openWith h o n s).shown = s.shown ∧ (openWith h o n s).hand = s.hand
      ∧ (openWith h o n s).pending = s.pending := by
  unfold openWith
  try dsimp only
  (repeat' split) <;> simp

@[simp] theorem openKey_frame (h : Head) :
    (openKey h s).resetLow = s.resetLow ∧ (openKey h s).sdo = s.sdo ∧ (openKey h s).down = s.down
      ∧ (openKey h s).port = s.port ∧ (openKey h s).lnk = s.lnk ∧ (openKey h s).wge = s.wge
      ∧ (openKey h s).itb = s.itb ∧ (openKey h s).ccu = s.ccu ∧ (openKey h s).lbc = s.lbc
      ∧ (openKey h s).tot = s.tot ∧ (openKey h s).shown = s.shown ∧ (openKey h s).hand = s.hand
      ∧ (openKey h s).pending = s.pending := by
  unfold openKey
  try dsimp only
  (repeat' split) <;> simp

@[simp] theorem pickKey_frame (h : Head) (n : Nat) :
    (pickKey h n s).resetLow = s.resetLow ∧ (pickKey h n s).sdo = s.sdo ∧ (pickKey h n s).down = s.down
      ∧ (pickKey h n s).port = s.port ∧ (pickKey h n s).lnk = s.lnk ∧ (pickKey h n s).wge = s.wge
      ∧ (pickKey h n s).itb = s.itb ∧ (pickKey h n s).ccu = s.ccu ∧ (pickKey h n s).snu = s.snu
      ∧ (pickKey h n s).lbc = s.lbc ∧ (pickKey h n s).tot = s.tot ∧ (pickKey h n s).shown = s.shown
      ∧ (pickKey h n s).hand = s.hand ∧ (pickKey h n s).pending = s.pending := by
  unfold pickKey
  try dsimp only
  (repeat' split) <;> simp

@[simp] theorem voidLast_frame (h : Head) (id : TicketId) :
    (voidLast h id s).resetLow = s.resetLow ∧ (voidLast h id s).sdo = s.sdo ∧ (voidLast h id s).down = s.down
      ∧ (voidLast h id s).lnk = s.lnk ∧ (voidLast h id s).wge = s.wge ∧ (voidLast h id s).ccu = s.ccu
      ∧ (voidLast h id s).snu = s.snu ∧ (voidLast h id s).shown = s.shown ∧ (voidLast h id s).hand = s.hand
      ∧ (voidLast h id s).pending = s.pending := by
  unfold voidLast
  try dsimp only
  (repeat' split) <;> simp

@[simp] theorem totalTicket_frame (h : Head) (id : TicketId) :
    (totalTicket h id s).resetLow = s.resetLow ∧ (totalTicket h id s).sdo = s.sdo
      ∧ (totalTicket h id s).down = s.down ∧ (totalTicket h id s).lnk = s.lnk ∧ (totalTicket h id s).wge = s.wge
      ∧ (totalTicket h id s).ccu = s.ccu ∧ (totalTicket h id s).snu = s.snu
      ∧ (totalTicket h id s).shown = s.shown ∧ (totalTicket h id s).hand = s.hand
      ∧ (totalTicket h id s).pending = s.pending := by
  unfold totalTicket
  try dsimp only
  (repeat' split) <;> simp

@[simp] theorem releaseHolder_frame (t : TicketSlot) :
    (releaseHolder t s).resetLow = s.resetLow ∧ (releaseHolder t s).sdo = s.sdo
      ∧ (releaseHolder t s).down = s.down ∧ (releaseHolder t s).port = s.port ∧ (releaseHolder t s).lnk = s.lnk
      ∧ (releaseHolder t s).wge = s.wge ∧ (releaseHolder t s).itb = s.itb ∧ (releaseHolder t s).ccu = s.ccu
      ∧ (releaseHolder t s).snu = s.snu ∧ (releaseHolder t s).tkp = s.tkp ∧ (releaseHolder t s).lbc = s.lbc
      ∧ (releaseHolder t s).tot = s.tot ∧ (releaseHolder t s).shown = s.shown
      ∧ (releaseHolder t s).hand = s.hand ∧ (releaseHolder t s).pending = s.pending := by
  unfold releaseHolder
  try dsimp only
  (repeat' split) <;> simp

@[simp] theorem renewOffers_frame (n : Nat) :
    (renewOffers n s).resetLow = s.resetLow ∧ (renewOffers n s).sdo = s.sdo ∧ (renewOffers n s).down = s.down
      ∧ (renewOffers n s).port = s.port ∧ (renewOffers n s).lnk = s.lnk ∧ (renewOffers n s).hsu = s.hsu
      ∧ (renewOffers n s).itb = s.itb ∧ (renewOffers n s).ccu = s.ccu ∧ (renewOffers n s).snu = s.snu
      ∧ (renewOffers n s).tkp = s.tkp ∧ (renewOffers n s).lbc = s.lbc ∧ (renewOffers n s).tot = s.tot
      ∧ (renewOffers n s).shown = s.shown ∧ (renewOffers n s).hand = s.hand
      ∧ (renewOffers n s).pending = s.pending := by
  unfold renewOffers
  refine ⟨?_, ?_, ?_, ?_, ?_, ?_, ?_, ?_, ?_, ?_, ?_, ?_, ?_, ?_, ?_⟩
  · exact eachHead_keeps (fun s => s.resetLow) (fun _ _ => by split <;> simp) _
  · exact eachHead_keeps (fun s => s.sdo) (fun _ _ => by split <;> simp) _
  · exact eachHead_keeps (fun s => s.down) (fun _ _ => by split <;> simp) _
  · exact eachHead_keeps (fun s => s.port) (fun _ _ => by split <;> simp) _
  · exact eachHead_keeps (fun s => s.lnk) (fun _ _ => by split <;> simp) _
  · exact eachHead_keeps (fun s => s.hsu) (fun _ _ => by split <;> simp) _
  · exact eachHead_keeps (fun s => s.itb) (fun _ _ => by split <;> simp) _
  · exact eachHead_keeps (fun s => s.ccu) (fun _ _ => by split <;> simp) _
  · exact eachHead_keeps (fun s => s.snu) (fun _ _ => by split <;> simp) _
  · exact eachHead_keeps (fun s => s.tkp) (fun _ _ => by split <;> simp) _
  · exact eachHead_keeps (fun s => s.lbc) (fun _ _ => by split <;> simp) _
  · exact eachHead_keeps (fun s => s.tot) (fun _ _ => by split <;> simp) _
  · exact eachHead_keeps (fun s => s.shown) (fun _ _ => by split <;> simp) _
  · exact eachHead_keeps (fun s => s.hand) (fun _ _ => by split <;> simp) _
  · exact eachHead_keeps (fun s => s.pending) (fun _ _ => by split <;> simp) _

@[simp] theorem startDrain_frame :
    (startDrain s).resetLow = s.resetLow ∧ (startDrain s).sdo = s.sdo ∧ (startDrain s).down = s.down
      ∧ (startDrain s).port = s.port ∧ (startDrain s).lnk = s.lnk ∧ (startDrain s).wge = s.wge
      ∧ (startDrain s).hsu = s.hsu ∧ (startDrain s).itb = s.itb ∧ (startDrain s).ccu = s.ccu
      ∧ (startDrain s).snu = s.snu ∧ (startDrain s).tkp = s.tkp ∧ (startDrain s).lbc = s.lbc
      ∧ (startDrain s).shown = s.shown ∧ (startDrain s).hand = s.hand ∧ (startDrain s).pending = s.pending := by
  unfold startDrain
  simp

@[simp] theorem clearAt_frame (k : AccKey) :
    (clearAt k s).resetLow = s.resetLow ∧ (clearAt k s).sdo = s.sdo ∧ (clearAt k s).down = s.down
      ∧ (clearAt k s).port = s.port ∧ (clearAt k s).lnk = s.lnk ∧ (clearAt k s).wge = s.wge
      ∧ (clearAt k s).hsu = s.hsu ∧ (clearAt k s).ccu = s.ccu ∧ (clearAt k s).snu = s.snu
      ∧ (clearAt k s).tkp = s.tkp ∧ (clearAt k s).lbc = s.lbc ∧ (clearAt k s).shown = s.shown
      ∧ (clearAt k s).hand = s.hand ∧ (clearAt k s).pending = s.pending := by
  unfold clearAt
  try dsimp only
  (repeat' split) <;> simp

@[simp] theorem drainPurge_frame (i : Option Item) :
    (drainPurge i s).resetLow = s.resetLow ∧ (drainPurge i s).sdo = s.sdo ∧ (drainPurge i s).down = s.down
      ∧ (drainPurge i s).port = s.port ∧ (drainPurge i s).lnk = s.lnk ∧ (drainPurge i s).wge = s.wge
      ∧ (drainPurge i s).hsu = s.hsu ∧ (drainPurge i s).ccu = s.ccu ∧ (drainPurge i s).snu = s.snu
      ∧ (drainPurge i s).tkp = s.tkp ∧ (drainPurge i s).tot = s.tot ∧ (drainPurge i s).shown = s.shown
      ∧ (drainPurge i s).hand = s.hand ∧ (drainPurge i s).pending = s.pending := by
  unfold drainPurge
  try dsimp only
  (repeat' split) <;> simp

@[simp] theorem endDrain_frame :
    (endDrain s).resetLow = s.resetLow ∧ (endDrain s).sdo = s.sdo ∧ (endDrain s).down = s.down
      ∧ (endDrain s).port = s.port ∧ (endDrain s).lnk = s.lnk ∧ (endDrain s).wge = s.wge
      ∧ (endDrain s).hsu = s.hsu ∧ (endDrain s).itb = s.itb ∧ (endDrain s).ccu = s.ccu
      ∧ (endDrain s).snu = s.snu ∧ (endDrain s).tkp = s.tkp ∧ (endDrain s).shown = s.shown
      ∧ (endDrain s).hand = s.hand ∧ (endDrain s).pending = s.pending := by
  unfold endDrain
  simp

@[simp] theorem noted_frame (old : State) :
    (noted old s).resetLow = s.resetLow ∧ (noted old s).sdo = s.sdo ∧ (noted old s).down = s.down
      ∧ (noted old s).port = s.port ∧ (noted old s).lnk = s.lnk ∧ (noted old s).wge = s.wge
      ∧ (noted old s).hsu = s.hsu ∧ (noted old s).itb = s.itb ∧ (noted old s).ccu = s.ccu
      ∧ (noted old s).snu = s.snu ∧ (noted old s).tkp = s.tkp ∧ (noted old s).lbc = s.lbc
      ∧ (noted old s).tot = s.tot ∧ (noted old s).hand = s.hand ∧ (noted old s).pending = s.pending := by
  unfold noted
  try dsimp only
  (repeat' split) <;> simp

@[simp] theorem endTransaction_frame (b : List Byte) :
    (endTransaction b s).resetLow = s.resetLow ∧ (endTransaction b s).down = s.down
      ∧ (endTransaction b s).port = s.port ∧ (endTransaction b s).lnk = s.lnk ∧ (endTransaction b s).wge = s.wge
      ∧ (endTransaction b s).hsu = s.hsu ∧ (endTransaction b s).itb = s.itb ∧ (endTransaction b s).ccu = s.ccu
      ∧ (endTransaction b s).snu = s.snu ∧ (endTransaction b s).tkp = s.tkp ∧ (endTransaction b s).lbc = s.lbc
      ∧ (endTransaction b s).tot = s.tot ∧ (endTransaction b s).hand = s.hand
      ∧ (endTransaction b s).pending = s.pending := by
  simp [endTransaction]

@[simp] theorem readResponse_frame (n : Nat) :
    (readResponse n s).resetLow = s.resetLow ∧ (readResponse n s).down = s.down
      ∧ (readResponse n s).port = s.port ∧ (readResponse n s).lnk = s.lnk ∧ (readResponse n s).wge = s.wge
      ∧ (readResponse n s).hsu = s.hsu ∧ (readResponse n s).itb = s.itb ∧ (readResponse n s).ccu = s.ccu
      ∧ (readResponse n s).snu = s.snu ∧ (readResponse n s).tkp = s.tkp ∧ (readResponse n s).lbc = s.lbc
      ∧ (readResponse n s).tot = s.tot ∧ (readResponse n s).hand = s.hand
      ∧ (readResponse n s).pending = s.pending := by
  unfold readResponse
  try dsimp only
  (repeat' split) <;> simp

@[simp] theorem accept_frame (k : Byte) (b : List Byte) :
    (accept k b s).resetLow = s.resetLow ∧ (accept k b s).sdo = s.sdo ∧ (accept k b s).down = s.down
      ∧ (accept k b s).lnk = s.lnk ∧ (accept k b s).wge = s.wge ∧ (accept k b s).hsu = s.hsu
      ∧ (accept k b s).itb = s.itb ∧ (accept k b s).ccu = s.ccu ∧ (accept k b s).snu = s.snu
      ∧ (accept k b s).tkp = s.tkp ∧ (accept k b s).lbc = s.lbc ∧ (accept k b s).tot = s.tot
      ∧ (accept k b s).shown = s.shown ∧ (accept k b s).hand = s.hand ∧ (accept k b s).pending = s.pending := by
  unfold accept
  try dsimp only
  simp

@[simp] theorem judgeCommand_frame (ago : Nat) (b : List Byte) :
    (judgeCommand ago b s).resetLow = s.resetLow ∧ (judgeCommand ago b s).down = s.down
      ∧ (judgeCommand ago b s).lnk = s.lnk ∧ (judgeCommand ago b s).wge = s.wge
      ∧ (judgeCommand ago b s).hsu = s.hsu ∧ (judgeCommand ago b s).itb = s.itb
      ∧ (judgeCommand ago b s).ccu = s.ccu ∧ (judgeCommand ago b s).snu = s.snu
      ∧ (judgeCommand ago b s).tkp = s.tkp ∧ (judgeCommand ago b s).lbc = s.lbc
      ∧ (judgeCommand ago b s).tot = s.tot ∧ (judgeCommand ago b s).hand = s.hand
      ∧ (judgeCommand ago b s).pending = s.pending := by
  unfold judgeCommand
  try dsimp only
  (repeat' split) <;> simp

end Sys2Proof.Machine
end

