-- ==== Sys2Proof/Laws/Settle.lean ====
section
/-! SUPPORT. The end of every event: what `settle` and `noted` change and what they leave, the shape of every row, and what an examination leaves. -/

namespace Sys2Proof.Machine

/-! ### States that agree behind the displays -/

theorem SameBehind.refl (s : State) : SameBehind s s := rfl

theorem SameBehind.symm {s t : State} (h : SameBehind s t) : SameBehind t s := Eq.symm h

theorem SameBehind.trans {s t u : State} (h : SameBehind s t) (k : SameBehind t u) : SameBehind s u := Eq.trans h k

/-- What two states that agree behind the displays have in common, block by block. -/
theorem SameBehind.blocks {t u : State} (h : SameBehind t u) :
    t.resetLow = u.resetLow ∧ t.sdo = u.sdo ∧ t.down = u.down ∧ t.port = u.port ∧ t.lnk = u.lnk
      ∧ t.wge.pairs = u.wge.pairs ∧ t.wge.settings = u.wge.settings ∧ t.hsu.heads = u.hsu.heads
      ∧ t.hsu.signOn = u.hsu.signOn ∧ t.itb = u.itb ∧ t.ccu = u.ccu ∧ t.snu = u.snu ∧ t.tkp = u.tkp ∧ t.lbc = u.lbc
      ∧ t.tot = u.tot ∧ t.hand = u.hand ∧ t.pending = u.pending := by
  have e : behind t = behind u := h
  simp only [behind, State.mk.injEq, Hsu.mk.injEq, Wge.mk.injEq] at e
  obtain ⟨e1, e2, e3, e4, e5, ⟨e6, e7, -⟩, ⟨e8, -, e9⟩, e10, e11, e12, e13, e14, e15, -, e16, e17⟩ := e
  exact ⟨e1, e2, e3, e4, e5, e6, e7, e8, e9, e10, e11, e12, e13, e14, e15, e16, e17⟩

theorem SameBehind.ctx {t u : State} (h : SameBehind t u) (a : Head) : ctx a t = ctx a u := by
  simp [Machine.ctx, h.blocks.2.2.2.2.2.2.2.1]

/-- The channels agree but for the offer. -/
theorem SameBehind.chan {t u : State} (h : SameBehind t u) (a : Head) :
    { chan a t with offer := none } = { chan a u with offer := none } := by
  have e : (behind t).wge.chans.look a = (behind u).wge.chans.look a := by rw [show behind t = behind u from h]
  simpa [behind] using e

@[simp] theorem behind_recompose (h : Head) (s : State) : behind (recompose h s) = behind s := rfl

@[simp] theorem behind_renewOffer (h : Head) (s : State) : behind (renewOffer h s) = behind s := by
  have e : Table.gen (fun a => { chan a (renewOffer h s) with offer := none })
      = Table.gen (fun a => { chan a s with offer := none }) := by
    refine Table.ext_look fun a => ?_
    simp only [renewOffer, Table.look_gen, chan_onChan]
    split
    · next e => subst e; rfl
    · rfl
  simp only [behind]
  rw [e]
  rfl

@[simp] theorem behind_settleHead (old : State) (h : Head) (s : State) : behind (settleHead old h s) = behind s := by
  unfold settleHead
  dsimp only
  (repeat' split) <;> simp

/-- `settle` composes displays and offers and does nothing else. -/
@[simp] theorem behind_settle (old s : State) : behind (settle old s) = behind s :=
  eachHead_keeps behind (fun _ _ => by simp) s

theorem sameBehind_settle (old s : State) : SameBehind (settle old s) s := behind_settle old s

/-! ### What `settle` reads -/

@[simp] theorem ctx_settle (old : State) (h : Head) (s : State) : ctx h (settle old s) = ctx h s :=
  (sameBehind_settle old s).ctx h

@[simp] theorem settle_wge_pairs (old s : State) : (settle old s).wge.pairs = s.wge.pairs :=
  (sameBehind_settle old s).blocks.2.2.2.2.2.1

@[simp] theorem settle_wge_settings (old s : State) : (settle old s).wge.settings = s.wge.settings :=
  (sameBehind_settle old s).blocks.2.2.2.2.2.2.1

@[simp] theorem settle_hsu_heads (old s : State) : (settle old s).hsu.heads = s.hsu.heads :=
  (sameBehind_settle old s).blocks.2.2.2.2.2.2.2.1

@[simp] theorem settle_hsu_signOn (old s : State) : (settle old s).hsu.signOn = s.hsu.signOn :=
  (sameBehind_settle old s).blocks.2.2.2.2.2.2.2.2.1

@[simp] theorem settings_settle (old : State) (h : Head) (s : State) : settings h (settle old s) = settings h s := by
  simp [settings]

/-- A channel after `settle` is the channel before it but for the offer. -/
theorem chan_settle (old : State) (h : Head) (s : State) :
    { chan h (settle old s) with offer := none } = { chan h s with offer := none } :=
  (sameBehind_settle old s).chan h

@[simp] theorem chan_settle_zero (old : State) (h : Head) (s : State) :
    (chan h (settle old s)).zero = (chan h s).zero := by
  have e := congrArg Channel.zero (chan_settle old h s)
  exact e

@[simp] theorem chan_settle_state (old : State) (h : Head) (s : State) :
    (chan h (settle old s)).state = (chan h s).state := by
  have e := congrArg Channel.state (chan_settle old h s)
  exact e

@[simp] theorem chan_settle_last (old : State) (h : Head) (s : State) :
    (chan h (settle old s)).last = (chan h s).last := by
  have e := congrArg Channel.last (chan_settle old h s)
  exact e

@[simp] theorem chan_settle_verdict (old : State) (h : Head) (s : State) :
    (chan h (settle old s)).verdict = (chan h s).verdict := by
  have e := congrArg Channel.verdict (chan_settle old h s)
  exact e

/-- Where no head has another item in hand and no source changed, `settle` changes nothing. -/
theorem settle_eq_self {old s : State} (hi : ∀ h, itemInHand h old = itemInHand h s)
    (hs : ∀ h, sourcesOf h old = sourcesOf h s) : settle old s = s := by
  have e : ∀ (hd : List Head), hd.foldl (fun s h => settleHead old h s) s = s := by
    intro hd
    induction hd with
    | nil => rfl
    | cons a as ih =>
      have : settleHead old a s = s := by simp [settleHead, hi, hs]
      rw [List.foldl_cons, this, ih]
  exact e allHeads

/-- An event that leaves the blocks behind the displays alone composes nothing. -/
theorem settle_eq_self_of_blocks {old s : State} (hw : s.wge = old.wge) (hh : s.hsu = old.hsu) (hi : s.itb = old.itb)
    (hc : s.ccu = old.ccu) (ht : s.tkp = old.tkp) : settle old s = s := by
  apply settle_eq_self <;> intro h <;>
    simp [itemInHand, sourcesOf, ctx, chan, role, settings, copyState, copies, findItem, summaryFor, service, ticket,
      hw, hh, hi, hc, ht]

@[simp] theorem settle_self (s : State) : settle s s = s := settle_eq_self_of_blocks rfl rfl rfl rfl rfl

/-! ### Events -/

/-- What the port shows follows from the port, the RESET pin and the tickets. -/
theorem portView_congr {s t : State} (hr : t.resetLow = s.resetLow) (hp : t.port = s.port) (ht : t.tkp = s.tkp) :
    portView t = portView s := by
  simp [portView, rdy, attn, ticketsToCollect, poolFullFlag, countTickets, hr, hp, ht]

@[simp] theorem portView_settle (old s : State) : portView (settle old s) = portView s :=
  portView_congr (by simp) (by simp) (by simp)

/-- Everything `noted` can do. -/
theorem noted_eq (old s : State) :
    portView s = portView old ∧ noted old s = s
      ∨ portView s ≠ portView old ∧ noted old s = { s with shown := portView old :: s.shown } := by
  by_cases h : portView s = portView old <;> simp [noted, h]

/-- An event that leaves what the port shows notes nothing. -/
theorem noted_same {old s : State} (h : portView s = portView old) : noted old s = s := by simp [noted, h]

@[simp] theorem behind_noted (old s : State) : behind (noted old s) = behind s := by
  obtain ⟨-, h⟩ | ⟨-, h⟩ := noted_eq old s
  · rw [h]
  · rw [h]; rfl

theorem sameBehind_noted (old s : State) : SameBehind (noted old s) s := behind_noted old s

@[simp] theorem portView_noted (old s : State) : portView (noted old s) = portView s :=
  portView_congr (by simp) (by simp) (by simp)

theorem takes_high {s : State} (f : State → State) (h : s.resetLow = false) :
    takes f s = .next (noted s (settle s (f s))) := by
  simp [takes, h]

/-- An event of a high pin, behind the displays. -/
theorem takes_high_behind {s : State} (f : State → State) (h : s.resetLow = false) :
    ∃ t, takes f s = .next t ∧ SameBehind t (f s) :=
  ⟨_, takes_high f h, (sameBehind_noted _ _).trans (sameBehind_settle _ _)⟩

theorem transacts_high {s : State} (f : State → State) (h : s.resetLow = false) : transacts f s = .next (f s) := by
  simp [transacts, h]

theorem transacts_low {s : State} (f : State → State) (h : s.resetLow = true) : transacts f s = .next s := by
  simp [transacts, h]

theorem takes_low {s : State} (f : State → State) (h : s.resetLow = true) : takes f s = .next s := by
  simp [takes, h]

/-- Everything an event's row can answer. -/
theorem takes_next {f : State → State} {s t : State} (h : takes f s = .next t) :
    s.resetLow = true ∧ t = s ∨ s.resetLow = false ∧ t = noted s (settle s (f s)) := by
  unfold takes at h
  split at h <;> simp_all

/-- Every row but the three of the pins and the two transactions is an event of its block. -/
theorem exec_takes (c : Instr) : c = .powerOnReset ∨ c = .resetPinFall ∨ c = .resetPinRise
    ∨ (∃ ago bytes, c = .commandTransaction ago bytes) ∨ (∃ n, c = .responseTransaction n) ∨
    ∃ f : State → State, ∀ s, exec c s = takes f s := by
  cases c
  case powerOnReset => exact .inl rfl
  case resetPinFall => exact .inr (.inl rfl)
  case resetPinRise => exact .inr (.inr (.inl rfl))
  case commandTransaction => exact .inr (.inr (.inr (.inl ⟨_, _, rfl⟩)))
  case responseTransaction => exact .inr (.inr (.inr (.inr (.inl ⟨_, rfl⟩))))
  all_goals exact .inr (.inr (.inr (.inr (.inr ⟨_, fun _ => rfl⟩))))

/-! ### Examinations -/

/-- The row that examines a pending request is the event of its examination (R44). -/
theorem exec_examinationRow (h : Head) (v : State) : exec (examinationRow h v) v = takes (examine h) v := by
  cases q : (ctx h v).request with
  | none =>
    have e : examine h v = v := by simp [examine, q]
    simp [examinationRow, q, exec, execCaptureLabelComplete, takes, lineRequest, e]
  | some r => by_cases l : r.purpose = .line <;>
      simp [examinationRow, q, l, exec, execCaptureLabelComplete, execCaptureLineComplete, takes, lineRequest]

/-- What `Examined` says of a state with the RESET pin high. -/
theorem examined_iff {h : Head} {v t : State} (hv : v.resetLow = false) :
    Examined h v t ↔ SameBehind t (examine h v) := by
  obtain ⟨w, hw, hb⟩ := takes_high_behind (examine h) hv
  constructor
  · rintro ⟨x, hx, hs⟩
    rw [exec_examinationRow, hw] at hx
    cases hx
    exact hs.trans hb
  · exact fun hs => ⟨w, by rw [exec_examinationRow, hw], hs.trans hb.symm⟩

/-- Where no request is pending there is nothing to examine. -/
theorem examined_none {h : Head} {v t : State} (hv : v.resetLow = false) (hr : (ctx h v).request = none) :
    Examined h v t ↔ SameBehind t v := by
  rw [examined_iff hv, show examine h v = v by simp [examine, hr]]

/-! ### Commands of the host -/

/-- What the taking of the command in process leaves. -/
theorem owner_some {pick : HostCmd → Option (State → Answer)} {s : State} {p : InProcess} {f : State → Answer}
    (hp : s.port.inProcess = some p) (hf : pick p.cmd = some f) : owner pick s = place p (f s) := by
  simp [owner, hp, hf]

theorem owner_other {pick : HostCmd → Option (State → Answer)} {s : State} {p : InProcess}
    (hp : s.port.inProcess = some p) (hf : pick p.cmd = none) : owner pick s = s := by
  simp [owner, hp, hf]

theorem owner_none {pick : HostCmd → Option (State → Answer)} {s : State} (hp : s.port.inProcess = none) :
    owner pick s = s := by
  simp [owner, hp]

end Sys2Proof.Machine
end

