-- ==== Sys2Proof/Laws/Commands.lean ====
section
/-! SUPPORT. What the work of each host command leaves alone. -/

namespace Sys2Proof.Machine

variable (s : State)

@[simp] theorem channelEffects_frame (h : Head) (x y : HeadSettings) :
    (channelEffects h x y s).resetLow = s.resetLow ∧ (channelEffects h x y s).sdo = s.sdo
      ∧ (channelEffects h x y s).down = s.down ∧ (channelEffects h x y s).lnk = s.lnk
      ∧ (channelEffects h x y s).snu = s.snu ∧ (channelEffects h x y s).tot = s.tot
      ∧ (channelEffects h x y s).shown = s.shown ∧ (channelEffects h x y s).hand = s.hand
      ∧ (channelEffects h x y s).pending = s.pending := by
  unfold channelEffects
  try dsimp only
  (repeat' split) <;> simp

@[simp] theorem configureHead_frame (f : RawHead) :
    (configureHead f s).state.resetLow = s.resetLow ∧ (configureHead f s).state.sdo = s.sdo
      ∧ (configureHead f s).state.down = s.down ∧ (configureHead f s).state.tot = s.tot
      ∧ (configureHead f s).state.shown = s.shown ∧ (configureHead f s).state.hand = s.hand
      ∧ (configureHead f s).state.pending = s.pending := by
  unfold configureHead
  try dsimp only
  (repeat' split) <;> simp [done, refuse]

@[simp] theorem configurePair_frame (f : RawPair) :
    (configurePair f s).state.resetLow = s.resetLow ∧ (configurePair f s).state.sdo = s.sdo
      ∧ (configurePair f s).state.down = s.down ∧ (configurePair f s).state.lnk = s.lnk
      ∧ (configurePair f s).state.snu = s.snu ∧ (configurePair f s).state.tot = s.tot
      ∧ (configurePair f s).state.shown = s.shown ∧ (configurePair f s).state.hand = s.hand
      ∧ (configurePair f s).state.pending = s.pending := by
  unfold configurePair
  try dsimp only
  (repeat' split) <;> simp [done, refuse]

@[simp] theorem readHead_state (n : Nat) : (readHead n s).state = s := by
  unfold readHead
  try dsimp only
  (repeat' split) <;> simp [done, refuse]

@[simp] theorem setSlots_frame (m : Nat) :
    (setSlots m s).state.resetLow = s.resetLow ∧ (setSlots m s).state.sdo = s.sdo
      ∧ (setSlots m s).state.down = s.down ∧ (setSlots m s).state.port = s.port
      ∧ (setSlots m s).state.wge = s.wge ∧ (setSlots m s).state.hsu = s.hsu ∧ (setSlots m s).state.itb = s.itb
      ∧ (setSlots m s).state.ccu = s.ccu ∧ (setSlots m s).state.snu = s.snu ∧ (setSlots m s).state.tkp = s.tkp
      ∧ (setSlots m s).state.lbc = s.lbc ∧ (setSlots m s).state.tot = s.tot
      ∧ (setSlots m s).state.shown = s.shown ∧ (setSlots m s).state.hand = s.hand
      ∧ (setSlots m s).state.pending = s.pending := by
  unfold setSlots
  try dsimp only
  (repeat' split) <;> simp [done, refuse]

@[simp] theorem linkRestart_frame :
    (linkRestart s).state.resetLow = s.resetLow ∧ (linkRestart s).state.sdo = s.sdo
      ∧ (linkRestart s).state.down = s.down ∧ (linkRestart s).state.port = s.port
      ∧ (linkRestart s).state.wge = s.wge ∧ (linkRestart s).state.hsu = s.hsu
      ∧ (linkRestart s).state.itb = s.itb ∧ (linkRestart s).state.ccu = s.ccu
      ∧ (linkRestart s).state.snu = s.snu ∧ (linkRestart s).state.tkp = s.tkp
      ∧ (linkRestart s).state.lbc = s.lbc ∧ (linkRestart s).state.tot = s.tot
      ∧ (linkRestart s).state.shown = s.shown ∧ (linkRestart s).state.hand = s.hand
      ∧ (linkRestart s).state.pending = s.pending := by
  simp [linkRestart, done]

@[simp] theorem clearErrors_frame :
    (clearErrors s).resetLow = s.resetLow ∧ (clearErrors s).sdo = s.sdo ∧ (clearErrors s).down = s.down
      ∧ (clearErrors s).port = s.port ∧ (clearErrors s).wge = s.wge ∧ (clearErrors s).hsu = s.hsu
      ∧ (clearErrors s).itb = s.itb ∧ (clearErrors s).ccu = s.ccu ∧ (clearErrors s).snu = s.snu
      ∧ (clearErrors s).tkp = s.tkp ∧ (clearErrors s).lbc = s.lbc ∧ (clearErrors s).tot = s.tot
      ∧ (clearErrors s).shown = s.shown ∧ (clearErrors s).hand = s.hand ∧ (clearErrors s).pending = s.pending := by
  unfold clearErrors
  refine ⟨?_, ?_, ?_, ?_, ?_, ?_, ?_, ?_, ?_, ?_, ?_, ?_, ?_, ?_, ?_⟩
  · exact eachSlot_keeps (fun s => s.resetLow) (fun _ _ => by simp) _
  · exact eachSlot_keeps (fun s => s.sdo) (fun _ _ => by simp) _
  · exact eachSlot_keeps (fun s => s.down) (fun _ _ => by simp) _
  · exact eachSlot_keeps (fun s => s.port) (fun _ _ => by simp) _
  · exact eachSlot_keeps (fun s => s.wge) (fun _ _ => by simp) _
  · exact eachSlot_keeps (fun s => s.hsu) (fun _ _ => by simp) _
  · exact eachSlot_keeps (fun s => s.itb) (fun _ _ => by simp) _
  · exact eachSlot_keeps (fun s => s.ccu) (fun _ _ => by simp) _
  · exact eachSlot_keeps (fun s => s.snu) (fun _ _ => by simp) _
  · exact eachSlot_keeps (fun s => s.tkp) (fun _ _ => by simp) _
  · exact eachSlot_keeps (fun s => s.lbc) (fun _ _ => by simp) _
  · exact eachSlot_keeps (fun s => s.tot) (fun _ _ => by simp) _
  · exact eachSlot_keeps (fun s => s.shown) (fun _ _ => by simp) _
  · exact eachSlot_keeps (fun s => s.hand) (fun _ _ => by simp) _
  · exact eachSlot_keeps (fun s => s.pending) (fun _ _ => by simp) _

@[simp] theorem readLink_frame (n : Nat) :
    (readLink n s).state.resetLow = s.resetLow ∧ (readLink n s).state.sdo = s.sdo
      ∧ (readLink n s).state.down = s.down ∧ (readLink n s).state.port = s.port
      ∧ (readLink n s).state.wge = s.wge ∧ (readLink n s).state.hsu = s.hsu ∧ (readLink n s).state.itb = s.itb
      ∧ (readLink n s).state.ccu = s.ccu ∧ (readLink n s).state.snu = s.snu ∧ (readLink n s).state.tkp = s.tkp
      ∧ (readLink n s).state.lbc = s.lbc ∧ (readLink n s).state.tot = s.tot
      ∧ (readLink n s).state.shown = s.shown ∧ (readLink n s).state.hand = s.hand
      ∧ (readLink n s).state.pending = s.pending := by
  unfold readLink
  try dsimp only
  (repeat' split) <;> simp [done, refuse]

@[simp] theorem addItem_frame (f : RawItem) (p : Nat) :
    (addItem f p s).state.resetLow = s.resetLow ∧ (addItem f p s).state.sdo = s.sdo
      ∧ (addItem f p s).state.down = s.down ∧ (addItem f p s).state.port = s.port
      ∧ (addItem f p s).state.lnk = s.lnk ∧ (addItem f p s).state.wge = s.wge
      ∧ (addItem f p s).state.hsu = s.hsu ∧ (addItem f p s).state.ccu = s.ccu
      ∧ (addItem f p s).state.snu = s.snu ∧ (addItem f p s).state.tkp = s.tkp
      ∧ (addItem f p s).state.lbc = s.lbc ∧ (addItem f p s).state.tot = s.tot
      ∧ (addItem f p s).state.shown = s.shown ∧ (addItem f p s).state.hand = s.hand
      ∧ (addItem f p s).state.pending = s.pending := by
  unfold addItem
  try dsimp only
  (repeat' split) <;> simp [done, refuse]

@[simp] theorem updateItem_frame (f : RawItem) :
    (updateItem f s).state.resetLow = s.resetLow ∧ (updateItem f s).state.sdo = s.sdo
      ∧ (updateItem f s).state.down = s.down ∧ (updateItem f s).state.port = s.port
      ∧ (updateItem f s).state.lnk = s.lnk ∧ (updateItem f s).state.hsu = s.hsu
      ∧ (updateItem f s).state.snu = s.snu ∧ (updateItem f s).state.tkp = s.tkp
      ∧ (updateItem f s).state.lbc = s.lbc ∧ (updateItem f s).state.tot = s.tot
      ∧ (updateItem f s).state.shown = s.shown ∧ (updateItem f s).state.hand = s.hand
      ∧ (updateItem f s).state.pending = s.pending := by
  unfold updateItem
  try dsimp only
  (repeat' split) <;> simp [done, refuse]

@[simp] theorem findItemCommand_state (n : Nat) : (findItemCommand n s).state = s := by
  unfold findItemCommand named
  try dsimp only
  (repeat' split) <;> simp [done, refuse]

@[simp] theorem nextItemCommand_state (n : Nat) : (nextItemCommand n s).state = s := by
  unfold nextItemCommand
  try dsimp only
  (repeat' split) <;> simp [done, refuse]

@[simp] theorem stagePrice_frame (n p : Nat) :
    (stagePrice n p s).state.resetLow = s.resetLow ∧ (stagePrice n p s).state.sdo = s.sdo
      ∧ (stagePrice n p s).state.down = s.down ∧ (stagePrice n p s).state.port = s.port
      ∧ (stagePrice n p s).state.lnk = s.lnk ∧ (stagePrice n p s).state.wge = s.wge
      ∧ (stagePrice n p s).state.hsu = s.hsu ∧ (stagePrice n p s).state.ccu = s.ccu
      ∧ (stagePrice n p s).state.snu = s.snu ∧ (stagePrice n p s).state.tkp = s.tkp
      ∧ (stagePrice n p s).state.lbc = s.lbc ∧ (stagePrice n p s).state.tot = s.tot
      ∧ (stagePrice n p s).state.shown = s.shown ∧ (stagePrice n p s).state.hand = s.hand
      ∧ (stagePrice n p s).state.pending = s.pending := by
  unfold stagePrice named
  try dsimp only
  (repeat' split) <;> simp [done, refuse]

@[simp] theorem unstagePrice_frame (n : Nat) :
    (unstagePrice n s).state.resetLow = s.resetLow ∧ (unstagePrice n s).state.sdo = s.sdo
      ∧ (unstagePrice n s).state.down = s.down ∧ (unstagePrice n s).state.port = s.port
      ∧ (unstagePrice n s).state.lnk = s.lnk ∧ (unstagePrice n s).state.wge = s.wge
      ∧ (unstagePrice n s).state.hsu = s.hsu ∧ (unstagePrice n s).state.ccu = s.ccu
      ∧ (unstagePrice n s).state.snu = s.snu ∧ (unstagePrice n s).state.tkp = s.tkp
      ∧ (unstagePrice n s).state.lbc = s.lbc ∧ (unstagePrice n s).state.tot = s.tot
      ∧ (unstagePrice n s).state.shown = s.shown ∧ (unstagePrice n s).state.hand = s.hand
      ∧ (unstagePrice n s).state.pending = s.pending := by
  unfold unstagePrice named
  try dsimp only
  (repeat' split) <;> simp [done, refuse]

@[simp] theorem commitPrices_frame :
    (commitPrices s).state.resetLow = s.resetLow ∧ (commitPrices s).state.sdo = s.sdo
      ∧ (commitPrices s).state.down = s.down ∧ (commitPrices s).state.lnk = s.lnk
      ∧ (commitPrices s).state.wge = s.wge ∧ (commitPrices s).state.hsu = s.hsu
      ∧ (commitPrices s).state.snu = s.snu ∧ (commitPrices s).state.tkp = s.tkp
      ∧ (commitPrices s).state.lbc = s.lbc ∧ (commitPrices s).state.tot = s.tot
      ∧ (commitPrices s).state.shown = s.shown ∧ (commitPrices s).state.hand = s.hand
      ∧ (commitPrices s).state.pending = s.pending := by
  simp [commitPrices, done]

@[simp] theorem withdrawItem_frame (n : Nat) :
    (withdrawItem n s).state.resetLow = s.resetLow ∧ (withdrawItem n s).state.sdo = s.sdo
      ∧ (withdrawItem n s).state.down = s.down ∧ (withdrawItem n s).state.lnk = s.lnk
      ∧ (withdrawItem n s).state.wge = s.wge ∧ (withdrawItem n s).state.hsu = s.hsu
      ∧ (withdrawItem n s).state.snu = s.snu ∧ (withdrawItem n s).state.tkp = s.tkp
      ∧ (withdrawItem n s).state.tot = s.tot ∧ (withdrawItem n s).state.shown = s.shown
      ∧ (withdrawItem n s).state.hand = s.hand ∧ (withdrawItem n s).state.pending = s.pending := by
  unfold withdrawItem named
  try dsimp only
  (repeat' split) <;> simp [done, refuse]

@[simp] theorem reinstateItem_frame (n : Nat) :
    (reinstateItem n s).state.resetLow = s.resetLow ∧ (reinstateItem n s).state.sdo = s.sdo
      ∧ (reinstateItem n s).state.down = s.down ∧ (reinstateItem n s).state.port = s.port
      ∧ (reinstateItem n s).state.lnk = s.lnk ∧ (reinstateItem n s).state.wge = s.wge
      ∧ (reinstateItem n s).state.hsu = s.hsu ∧ (reinstateItem n s).state.snu = s.snu
      ∧ (reinstateItem n s).state.tkp = s.tkp ∧ (reinstateItem n s).state.lbc = s.lbc
      ∧ (reinstateItem n s).state.tot = s.tot ∧ (reinstateItem n s).state.shown = s.shown
      ∧ (reinstateItem n s).state.hand = s.hand ∧ (reinstateItem n s).state.pending = s.pending := by
  unfold reinstateItem named
  try dsimp only
  (repeat' split) <;> simp [done, refuse]

@[simp] theorem readCopies_state (n : Nat) : (readCopies n s).state = s := by
  unfold readCopies
  try dsimp only
  (repeat' split) <;> simp [done, refuse]

@[simp] theorem setNumberRange_frame (l c : Nat) :
    (setNumberRange l c s).state.resetLow = s.resetLow ∧ (setNumberRange l c s).state.sdo = s.sdo
      ∧ (setNumberRange l c s).state.down = s.down ∧ (setNumberRange l c s).state.port = s.port
      ∧ (setNumberRange l c s).state.lnk = s.lnk ∧ (setNumberRange l c s).state.wge = s.wge
      ∧ (setNumberRange l c s).state.hsu = s.hsu ∧ (setNumberRange l c s).state.itb = s.itb
      ∧ (setNumberRange l c s).state.ccu = s.ccu ∧ (setNumberRange l c s).state.tkp = s.tkp
      ∧ (setNumberRange l c s).state.lbc = s.lbc ∧ (setNumberRange l c s).state.tot = s.tot
      ∧ (setNumberRange l c s).state.shown = s.shown ∧ (setNumberRange l c s).state.hand = s.hand
      ∧ (setNumberRange l c s).state.pending = s.pending := by
  unfold setNumberRange
  try dsimp only
  (repeat' split) <;> simp [done, refuse]

@[simp] theorem readQueue_state : (readQueue s).state = s := rfl

@[simp] theorem listTickets_state (n : Nat) : (listTickets n s).state = s := by
  unfold listTickets
  try dsimp only
  (repeat' split) <;> simp [done, refuse]

@[simp] theorem readTicket_state (t u : Nat) : (readTicket t u s).state = s := by
  unfold readTicket onNamed
  try dsimp only
  (repeat' split) <;> simp [done, refuse]

@[simp] theorem voidTicketCommand_frame (t u : Nat) :
    (voidTicketCommand t u s).state.resetLow = s.resetLow ∧ (voidTicketCommand t u s).state.sdo = s.sdo
      ∧ (voidTicketCommand t u s).state.down = s.down ∧ (voidTicketCommand t u s).state.lnk = s.lnk
      ∧ (voidTicketCommand t u s).state.wge = s.wge ∧ (voidTicketCommand t u s).state.ccu = s.ccu
      ∧ (voidTicketCommand t u s).state.snu = s.snu ∧ (voidTicketCommand t u s).state.shown = s.shown
      ∧ (voidTicketCommand t u s).state.hand = s.hand ∧ (voidTicketCommand t u s).state.pending = s.pending := by
  unfold voidTicketCommand onNamed
  try dsimp only
  (repeat' split) <;> simp [done, refuse]

@[simp] theorem collectTicket_frame (t u : Nat) :
    (collectTicket t u s).state.resetLow = s.resetLow ∧ (collectTicket t u s).state.sdo = s.sdo
      ∧ (collectTicket t u s).state.down = s.down ∧ (collectTicket t u s).state.port = s.port
      ∧ (collectTicket t u s).state.lnk = s.lnk ∧ (collectTicket t u s).state.wge = s.wge
      ∧ (collectTicket t u s).state.hsu = s.hsu ∧ (collectTicket t u s).state.itb = s.itb
      ∧ (collectTicket t u s).state.ccu = s.ccu ∧ (collectTicket t u s).state.snu = s.snu
      ∧ (collectTicket t u s).state.lbc = s.lbc ∧ (collectTicket t u s).state.tot = s.tot
      ∧ (collectTicket t u s).state.shown = s.shown ∧ (collectTicket t u s).state.hand = s.hand
      ∧ (collectTicket t u s).state.pending = s.pending := by
  unfold collectTicket onNamed
  try dsimp only
  (repeat' split) <;> simp [done, refuse]

@[simp] theorem setCollection_frame (n : Nat) :
    (setCollection n s).state.resetLow = s.resetLow ∧ (setCollection n s).state.sdo = s.sdo
      ∧ (setCollection n s).state.down = s.down ∧ (setCollection n s).state.port = s.port
      ∧ (setCollection n s).state.lnk = s.lnk ∧ (setCollection n s).state.wge = s.wge
      ∧ (setCollection n s).state.hsu = s.hsu ∧ (setCollection n s).state.itb = s.itb
      ∧ (setCollection n s).state.ccu = s.ccu ∧ (setCollection n s).state.snu = s.snu
      ∧ (setCollection n s).state.lbc = s.lbc ∧ (setCollection n s).state.tot = s.tot
      ∧ (setCollection n s).state.shown = s.shown ∧ (setCollection n s).state.hand = s.hand
      ∧ (setCollection n s).state.pending = s.pending := by
  unfold setCollection
  try dsimp only
  (repeat' split) <;> simp [done, refuse]

@[simp] theorem printText_frame (p k : Nat) (ls : List (List Byte)) :
    (printText p k ls s).state.resetLow = s.resetLow ∧ (printText p k ls s).state.sdo = s.sdo
      ∧ (printText p k ls s).state.down = s.down ∧ (printText p k ls s).state.port = s.port
      ∧ (printText p k ls s).state.lnk = s.lnk ∧ (printText p k ls s).state.wge = s.wge
      ∧ (printText p k ls s).state.hsu = s.hsu ∧ (printText p k ls s).state.itb = s.itb
      ∧ (printText p k ls s).state.ccu = s.ccu ∧ (printText p k ls s).state.snu = s.snu
      ∧ (printText p k ls s).state.tkp = s.tkp ∧ (printText p k ls s).state.tot = s.tot
      ∧ (printText p k ls s).state.shown = s.shown ∧ (printText p k ls s).state.hand = s.hand
      ∧ (printText p k ls s).state.pending = s.pending := by
  unfold printText
  try dsimp only
  (repeat' split) <;> simp [done, refuse]

@[simp] theorem cancelJob_frame (n : Nat) :
    (cancelJob n s).state.resetLow = s.resetLow ∧ (cancelJob n s).state.sdo = s.sdo
      ∧ (cancelJob n s).state.down = s.down ∧ (cancelJob n s).state.port = s.port
      ∧ (cancelJob n s).state.lnk = s.lnk ∧ (cancelJob n s).state.wge = s.wge
      ∧ (cancelJob n s).state.hsu = s.hsu ∧ (cancelJob n s).state.itb = s.itb
      ∧ (cancelJob n s).state.ccu = s.ccu ∧ (cancelJob n s).state.snu = s.snu
      ∧ (cancelJob n s).state.tot = s.tot ∧ (cancelJob n s).state.shown = s.shown
      ∧ (cancelJob n s).state.hand = s.hand ∧ (cancelJob n s).state.pending = s.pending := by
  unfold cancelJob
  try dsimp only
  (repeat' split) <;> simp [done, refuse]

@[simp] theorem followSummary_frame (q : Printer) (j : Job) :
    (followSummary q s j).resetLow = s.resetLow ∧ (followSummary q s j).sdo = s.sdo ∧ (followSummary q s j).down = s.down ∧ (followSummary q s j).port = s.port
      ∧ (followSummary q s j).lnk = s.lnk ∧ (followSummary q s j).wge = s.wge ∧ (followSummary q s j).hsu = s.hsu ∧ (followSummary q s j).itb = s.itb ∧ (followSummary q s j).ccu = s.ccu
      ∧ (followSummary q s j).snu = s.snu ∧ (followSummary q s j).lbc = s.lbc ∧ (followSummary q s j).tot = s.tot ∧ (followSummary q s j).shown = s.shown ∧ (followSummary q s j).hand = s.hand
      ∧ (followSummary q s j).pending = s.pending := by
  unfold followSummary
  (repeat' split) <;> simp

@[simp] theorem moveJobs_frame (p q : Printer) :
    (moveJobs p q s).2.2.resetLow = s.resetLow ∧ (moveJobs p q s).2.2.sdo = s.sdo ∧ (moveJobs p q s).2.2.down = s.down ∧ (moveJobs p q s).2.2.port = s.port
      ∧ (moveJobs p q s).2.2.lnk = s.lnk ∧ (moveJobs p q s).2.2.wge = s.wge ∧ (moveJobs p q s).2.2.hsu = s.hsu ∧ (moveJobs p q s).2.2.itb = s.itb ∧ (moveJobs p q s).2.2.ccu = s.ccu
      ∧ (moveJobs p q s).2.2.snu = s.snu ∧ (moveJobs p q s).2.2.tot = s.tot ∧ (moveJobs p q s).2.2.shown = s.shown ∧ (moveJobs p q s).2.2.hand = s.hand
      ∧ (moveJobs p q s).2.2.pending = s.pending := by
  unfold moveJobs
  dsimp only
  have h_resetLow := fun (js : List Job) (s : State) =>
    foldl_keeps (fun s => s.resetLow) (f := followSummary q) (fun _ _ => by simp) js s
  have h_sdo := fun (js : List Job) (s : State) =>
    foldl_keeps (fun s => s.sdo) (f := followSummary q) (fun _ _ => by simp) js s
  have h_down := fun (js : List Job) (s : State) =>
    foldl_keeps (fun s => s.down) (f := followSummary q) (fun _ _ => by simp) js s
  have h_port := fun (js : List Job) (s : State) =>
    foldl_keeps (fun s => s.port) (f := followSummary q) (fun _ _ => by simp) js s
  have h_lnk := fun (js : List Job) (s : State) =>
    foldl_keeps (fun s => s.lnk) (f := followSummary q) (fun _ _ => by simp) js s
  have h_wge := fun (js : List Job) (s : State) =>
    foldl_keeps (fun s => s.wge) (f := followSummary q) (fun _ _ => by simp) js s
  have h_hsu := fun (js : List Job) (s : State) =>
    foldl_keeps (fun s => s.hsu) (f := followSummary q) (fun _ _ => by simp) js s
  have h_itb := fun (js : List Job) (s : State) =>
    foldl_keeps (fun s => s.itb) (f := followSummary q) (fun _ _ => by simp) js s
  have h_ccu := fun (js : List Job) (s : State) =>
    foldl_keeps (fun s => s.ccu) (f := followSummary q) (fun _ _ => by simp) js s
  have h_snu := fun (js : List Job) (s : State) =>
    foldl_keeps (fun s => s.snu) (f := followSummary q) (fun _ _ => by simp) js s
  have h_tot := fun (js : List Job) (s : State) =>
    foldl_keeps (fun s => s.tot) (f := followSummary q) (fun _ _ => by simp) js s
  have h_shown := fun (js : List Job) (s : State) =>
    foldl_keeps (fun s => s.shown) (f := followSummary q) (fun _ _ => by simp) js s
  have h_hand := fun (js : List Job) (s : State) =>
    foldl_keeps (fun s => s.hand) (f := followSummary q) (fun _ _ => by simp) js s
  have h_pending := fun (js : List Job) (s : State) =>
    foldl_keeps (fun s => s.pending) (f := followSummary q) (fun _ _ => by simp) js s
  (repeat' split) <;> simp [h_resetLow, h_sdo, h_down, h_port, h_lnk, h_wge, h_hsu, h_itb, h_ccu, h_snu, h_tot, h_shown, h_hand, h_pending]

@[simp] theorem redirectJobs_frame (p q : Nat) :
    (redirectJobs p q s).state.resetLow = s.resetLow ∧ (redirectJobs p q s).state.sdo = s.sdo
      ∧ (redirectJobs p q s).state.down = s.down ∧ (redirectJobs p q s).state.port = s.port
      ∧ (redirectJobs p q s).state.lnk = s.lnk ∧ (redirectJobs p q s).state.wge = s.wge
      ∧ (redirectJobs p q s).state.hsu = s.hsu ∧ (redirectJobs p q s).state.itb = s.itb
      ∧ (redirectJobs p q s).state.ccu = s.ccu ∧ (redirectJobs p q s).state.snu = s.snu
      ∧ (redirectJobs p q s).state.tot = s.tot ∧ (redirectJobs p q s).state.shown = s.shown
      ∧ (redirectJobs p q s).state.hand = s.hand ∧ (redirectJobs p q s).state.pending = s.pending := by
  unfold redirectJobs
  try dsimp only
  (repeat' split) <;> simp [done, refuse]

@[simp] theorem readPrinter_state (n : Nat) : (readPrinter n s).state = s := by
  unfold readPrinter
  try dsimp only
  (repeat' split) <;> simp [done, refuse]

@[simp] theorem openDay_frame (y m d : Nat) :
    (openDay y m d s).state.resetLow = s.resetLow ∧ (openDay y m d s).state.sdo = s.sdo
      ∧ (openDay y m d s).state.down = s.down ∧ (openDay y m d s).state.port = s.port
      ∧ (openDay y m d s).state.lnk = s.lnk ∧ (openDay y m d s).state.wge = s.wge
      ∧ (openDay y m d s).state.hsu = s.hsu ∧ (openDay y m d s).state.itb = s.itb
      ∧ (openDay y m d s).state.ccu = s.ccu ∧ (openDay y m d s).state.tkp = s.tkp
      ∧ (openDay y m d s).state.shown = s.shown ∧ (openDay y m d s).state.hand = s.hand
      ∧ (openDay y m d s).state.pending = s.pending := by
  unfold openDay
  try dsimp only
  (repeat' split) <;> simp [done, refuse, refuseDay]

@[simp] theorem closeDay_frame :
    (closeDay s).state.resetLow = s.resetLow ∧ (closeDay s).state.sdo = s.sdo ∧ (closeDay s).state.down = s.down
      ∧ (closeDay s).state.port = s.port ∧ (closeDay s).state.lnk = s.lnk ∧ (closeDay s).state.wge = s.wge
      ∧ (closeDay s).state.itb = s.itb ∧ (closeDay s).state.ccu = s.ccu ∧ (closeDay s).state.tkp = s.tkp
      ∧ (closeDay s).state.lbc = s.lbc ∧ (closeDay s).state.shown = s.shown ∧ (closeDay s).state.hand = s.hand
      ∧ (closeDay s).state.pending = s.pending := by
  unfold closeDay
  dsimp only
  have h_resetLow := fun s : State =>
    eachHead_keeps (fun s => s.resetLow) (f := fun h => cancelRequest h .dayClosed) (fun _ _ => by simp) s
  have h_sdo := fun s : State =>
    eachHead_keeps (fun s => s.sdo) (f := fun h => cancelRequest h .dayClosed) (fun _ _ => by simp) s
  have h_down := fun s : State =>
    eachHead_keeps (fun s => s.down) (f := fun h => cancelRequest h .dayClosed) (fun _ _ => by simp) s
  have h_port := fun s : State =>
    eachHead_keeps (fun s => s.port) (f := fun h => cancelRequest h .dayClosed) (fun _ _ => by simp) s
  have h_lnk := fun s : State =>
    eachHead_keeps (fun s => s.lnk) (f := fun h => cancelRequest h .dayClosed) (fun _ _ => by simp) s
  have h_wge := fun s : State =>
    eachHead_keeps (fun s => s.wge) (f := fun h => cancelRequest h .dayClosed) (fun _ _ => by simp) s
  have h_itb := fun s : State =>
    eachHead_keeps (fun s => s.itb) (f := fun h => cancelRequest h .dayClosed) (fun _ _ => by simp) s
  have h_ccu := fun s : State =>
    eachHead_keeps (fun s => s.ccu) (f := fun h => cancelRequest h .dayClosed) (fun _ _ => by simp) s
  have h_tkp := fun s : State =>
    eachHead_keeps (fun s => s.tkp) (f := fun h => cancelRequest h .dayClosed) (fun _ _ => by simp) s
  have h_lbc := fun s : State =>
    eachHead_keeps (fun s => s.lbc) (f := fun h => cancelRequest h .dayClosed) (fun _ _ => by simp) s
  have h_shown := fun s : State =>
    eachHead_keeps (fun s => s.shown) (f := fun h => cancelRequest h .dayClosed) (fun _ _ => by simp) s
  have h_hand := fun s : State =>
    eachHead_keeps (fun s => s.hand) (f := fun h => cancelRequest h .dayClosed) (fun _ _ => by simp) s
  have h_pending := fun s : State =>
    eachHead_keeps (fun s => s.pending) (f := fun h => cancelRequest h .dayClosed) (fun _ _ => by simp) s
  (repeat' split) <;> simp [done, h_resetLow, h_sdo, h_down, h_port, h_lnk, h_wge, h_itb, h_ccu, h_tkp, h_lbc, h_shown, h_hand, h_pending]

@[simp] theorem readTotals_frame (n : Nat) :
    (readTotals n s).state.resetLow = s.resetLow ∧ (readTotals n s).state.sdo = s.sdo
      ∧ (readTotals n s).state.down = s.down ∧ (readTotals n s).state.port = s.port
      ∧ (readTotals n s).state.lnk = s.lnk ∧ (readTotals n s).state.wge = s.wge
      ∧ (readTotals n s).state.hsu = s.hsu ∧ (readTotals n s).state.itb = s.itb
      ∧ (readTotals n s).state.ccu = s.ccu ∧ (readTotals n s).state.snu = s.snu
      ∧ (readTotals n s).state.tkp = s.tkp ∧ (readTotals n s).state.lbc = s.lbc
      ∧ (readTotals n s).state.shown = s.shown ∧ (readTotals n s).state.hand = s.hand
      ∧ (readTotals n s).state.pending = s.pending := by
  unfold readTotals
  try dsimp only
  (repeat' split) <;> simp [done, refuse]

@[simp] theorem readHold_state (n : Nat) : (readHold n s).state = s := by
  unfold readHold
  try dsimp only
  (repeat' split) <;> simp [done, refuse]

@[simp] theorem drainOne_frame (k : AccKey) :
    (drainOne k s).2.resetLow = s.resetLow ∧ (drainOne k s).2.sdo = s.sdo ∧ (drainOne k s).2.down = s.down ∧ (drainOne k s).2.port = s.port
      ∧ (drainOne k s).2.lnk = s.lnk ∧ (drainOne k s).2.wge = s.wge ∧ (drainOne k s).2.hsu = s.hsu ∧ (drainOne k s).2.ccu = s.ccu ∧ (drainOne k s).2.snu = s.snu
      ∧ (drainOne k s).2.tkp = s.tkp ∧ (drainOne k s).2.shown = s.shown ∧ (drainOne k s).2.hand = s.hand ∧ (drainOne k s).2.pending = s.pending := by
  simp [drainOne]

@[simp] theorem readClosing_frame (r : Nat) :
    (readClosing r s).state.resetLow = s.resetLow ∧ (readClosing r s).state.sdo = s.sdo
      ∧ (readClosing r s).state.down = s.down ∧ (readClosing r s).state.port = s.port
      ∧ (readClosing r s).state.lnk = s.lnk ∧ (readClosing r s).state.wge = s.wge
      ∧ (readClosing r s).state.hsu = s.hsu ∧ (readClosing r s).state.ccu = s.ccu
      ∧ (readClosing r s).state.snu = s.snu ∧ (readClosing r s).state.tkp = s.tkp
      ∧ (readClosing r s).state.shown = s.shown ∧ (readClosing r s).state.hand = s.hand
      ∧ (readClosing r s).state.pending = s.pending := by
  unfold readClosing drainNext drainRepeat
  try dsimp only
  (repeat' split) <;> simp [done, refuse, refuseDay]

@[simp] theorem readStatus_frame :
    (readStatus s).state.resetLow = s.resetLow ∧ (readStatus s).state.sdo = s.sdo
      ∧ (readStatus s).state.down = s.down ∧ (readStatus s).state.lnk = s.lnk ∧ (readStatus s).state.wge = s.wge
      ∧ (readStatus s).state.hsu = s.hsu ∧ (readStatus s).state.itb = s.itb ∧ (readStatus s).state.ccu = s.ccu
      ∧ (readStatus s).state.snu = s.snu ∧ (readStatus s).state.tkp = s.tkp ∧ (readStatus s).state.lbc = s.lbc
      ∧ (readStatus s).state.tot = s.tot ∧ (readStatus s).state.shown = s.shown
      ∧ (readStatus s).state.hand = s.hand ∧ (readStatus s).state.pending = s.pending := by
  simp [readStatus, done]

/-- Placing an answer changes the port alone. -/
theorem place_keeps {β : Type} (g : State → β) (hg : ∀ (s : State) (q : Port), g { s with port := q } = g s) (p : InProcess)
    (a : Answer) : g (place p a) = g a.state := hg ..

/-- What every work that a row can pick keeps, the row keeps, when it is nothing of the port. -/
theorem owner_keeps {β : Type} (g : State → β) (hg : ∀ (s : State) (q : Port), g { s with port := q } = g s)
    {pick : HostCmd → Option (State → Answer)} {s : State} (hf : ∀ c f, pick c = some f → g (f s).state = g s) :
    g (owner pick s) = g s := by
  unfold owner
  split
  · rfl
  · split
    · next f h => exact (place_keeps g hg ..).trans (hf _ _ h)
    · rfl

end Sys2Proof.Machine
end

