-- ==== Sys2Proof/Laws/PerInstr.lean ====
section
/-! SUPPORT. Statements made command by command. -/

namespace Sys2Proof.Laws

/-- No word of the table spells the command: the table gives no row bits (log 4). -/
def Codes.Statement (i : Instr) : Prop := ∀ nbits w : Nat, decodeTableWord nbits w ≠ some i

theorem Codes.powerOnReset : Codes.Statement .powerOnReset := by simp [Codes.Statement, decodeTableWord]
theorem Codes.resetPinFall : Codes.Statement .resetPinFall := by simp [Codes.Statement, decodeTableWord]
theorem Codes.resetPinRise : Codes.Statement .resetPinRise := by simp [Codes.Statement, decodeTableWord]
theorem Codes.commandTransaction (ago : Nat) (bytes : List Byte) : Codes.Statement (.commandTransaction ago bytes) := by simp [Codes.Statement, decodeTableWord]
theorem Codes.responseTransaction (clocked : Nat) : Codes.Statement (.responseTransaction clocked) := by simp [Codes.Statement, decodeTableWord]
theorem Codes.configureHead : Codes.Statement .configureHead := by simp [Codes.Statement, decodeTableWord]
theorem Codes.configurePair : Codes.Statement .configurePair := by simp [Codes.Statement, decodeTableWord]
theorem Codes.setSlots : Codes.Statement .setSlots := by simp [Codes.Statement, decodeTableWord]
theorem Codes.linkRestart : Codes.Statement .linkRestart := by simp [Codes.Statement, decodeTableWord]
theorem Codes.readLink : Codes.Statement .readLink := by simp [Codes.Statement, decodeTableWord]
theorem Codes.readHead : Codes.Statement .readHead := by simp [Codes.Statement, decodeTableWord]
theorem Codes.addItem : Codes.Statement .addItem := by simp [Codes.Statement, decodeTableWord]
theorem Codes.updateItem : Codes.Statement .updateItem := by simp [Codes.Statement, decodeTableWord]
theorem Codes.findItem : Codes.Statement .findItem := by simp [Codes.Statement, decodeTableWord]
theorem Codes.nextItem : Codes.Statement .nextItem := by simp [Codes.Statement, decodeTableWord]
theorem Codes.stagePrice : Codes.Statement .stagePrice := by simp [Codes.Statement, decodeTableWord]
theorem Codes.unstagePrice : Codes.Statement .unstagePrice := by simp [Codes.Statement, decodeTableWord]
theorem Codes.commitPrices : Codes.Statement .commitPrices := by simp [Codes.Statement, decodeTableWord]
theorem Codes.withdrawItem : Codes.Statement .withdrawItem := by simp [Codes.Statement, decodeTableWord]
theorem Codes.reinstateItem : Codes.Statement .reinstateItem := by simp [Codes.Statement, decodeTableWord]
theorem Codes.readCopies : Codes.Statement .readCopies := by simp [Codes.Statement, decodeTableWord]
theorem Codes.setNumberRange : Codes.Statement .setNumberRange := by simp [Codes.Statement, decodeTableWord]
theorem Codes.readQueue : Codes.Statement .readQueue := by simp [Codes.Statement, decodeTableWord]
theorem Codes.listTickets : Codes.Statement .listTickets := by simp [Codes.Statement, decodeTableWord]
theorem Codes.readTicket : Codes.Statement .readTicket := by simp [Codes.Statement, decodeTableWord]
theorem Codes.voidTicket : Codes.Statement .voidTicket := by simp [Codes.Statement, decodeTableWord]
theorem Codes.collectTicket : Codes.Statement .collectTicket := by simp [Codes.Statement, decodeTableWord]
theorem Codes.setCollection : Codes.Statement .setCollection := by simp [Codes.Statement, decodeTableWord]
theorem Codes.printText : Codes.Statement .printText := by simp [Codes.Statement, decodeTableWord]
theorem Codes.cancelJob : Codes.Statement .cancelJob := by simp [Codes.Statement, decodeTableWord]
theorem Codes.redirectJobs : Codes.Statement .redirectJobs := by simp [Codes.Statement, decodeTableWord]
theorem Codes.readPrinter : Codes.Statement .readPrinter := by simp [Codes.Statement, decodeTableWord]
theorem Codes.openDay : Codes.Statement .openDay := by simp [Codes.Statement, decodeTableWord]
theorem Codes.closeDay : Codes.Statement .closeDay := by simp [Codes.Statement, decodeTableWord]
theorem Codes.readTotals : Codes.Statement .readTotals := by simp [Codes.Statement, decodeTableWord]
theorem Codes.readHold : Codes.Statement .readHold := by simp [Codes.Statement, decodeTableWord]
theorem Codes.readClosing : Codes.Statement .readClosing := by simp [Codes.Statement, decodeTableWord]
theorem Codes.readStatus : Codes.Statement .readStatus := by simp [Codes.Statement, decodeTableWord]
theorem Codes.hubReset : Codes.Statement .hubReset := by simp [Codes.Statement, decodeTableWord]
theorem Codes.frameStart : Codes.Statement .frameStart := by simp [Codes.Statement, decodeTableWord]
theorem Codes.slotMaskTakesEffect : Codes.Statement .slotMaskTakesEffect := by simp [Codes.Statement, decodeTableWord]
theorem Codes.linkRestartTakesEffect : Codes.Statement .linkRestartTakesEffect := by simp [Codes.Statement, decodeTableWord]
theorem Codes.joinWaitExpiry (slot : Slot) : Codes.Statement (.joinWaitExpiry slot) := by simp [Codes.Statement, decodeTableWord]
theorem Codes.headServiceFrameStart : Codes.Statement .headServiceFrameStart := by simp [Codes.Statement, decodeTableWord]
theorem Codes.captureTimeout (head : Head) : Codes.Statement (.captureTimeout head) := by simp [Codes.Statement, decodeTableWord]
theorem Codes.messageExpiry (head : Head) : Codes.Statement (.messageExpiry head) := by simp [Codes.Statement, decodeTableWord]
theorem Codes.copyFrameStart : Codes.Statement .copyFrameStart := by simp [Codes.Statement, decodeTableWord]
theorem Codes.ticketFrameStart : Codes.Statement .ticketFrameStart := by simp [Codes.Statement, decodeTableWord]
theorem Codes.ticketIdlePark (ticket : TicketSlot) : Codes.Statement (.ticketIdlePark ticket) := by simp [Codes.Statement, decodeTableWord]
theorem Codes.frameNotice : Codes.Statement .frameNotice := by simp [Codes.Statement, decodeTableWord]
theorem Codes.welcome (slot : Slot) : Codes.Statement (.welcome slot) := by simp [Codes.Statement, decodeTableWord]
theorem Codes.headUpdate (head : Head) : Codes.Statement (.headUpdate head) := by simp [Codes.Statement, decodeTableWord]
theorem Codes.printerUpdate (printer : Printer) : Codes.Statement (.printerUpdate printer) := by simp [Codes.Statement, decodeTableWord]
theorem Codes.dispenserUpdate : Codes.Statement .dispenserUpdate := by simp [Codes.Statement, decodeTableWord]
theorem Codes.headReport (head : Head) (part : List Byte) : Codes.Statement (.headReport head part) := by simp [Codes.Statement, decodeTableWord]
theorem Codes.printerReport (printer : Printer) (part : List Byte) : Codes.Statement (.printerReport printer part) := by simp [Codes.Statement, decodeTableWord]
theorem Codes.dispenserReport (part : List Byte) : Codes.Statement (.dispenserReport part) := by simp [Codes.Statement, decodeTableWord]
theorem Codes.join (slot : Slot) (part : List Byte) : Codes.Statement (.join slot part) := by simp [Codes.Statement, decodeTableWord]
theorem Codes.upstreamRejected (slot : Slot) (part : List Byte) : Codes.Statement (.upstreamRejected slot part) := by simp [Codes.Statement, decodeTableWord]
theorem Codes.upstreamMiss (slot : Slot) : Codes.Statement (.upstreamMiss slot) := by simp [Codes.Statement, decodeTableWord]
theorem Codes.silenceLoss (slot : Slot) : Codes.Statement (.silenceLoss slot) := by simp [Codes.Statement, decodeTableWord]
theorem Codes.channelSample (head : Head) : Codes.Statement (.channelSample head) := by simp [Codes.Statement, decodeTableWord]
theorem Codes.cellFaultEntry (head : Head) : Codes.Statement (.cellFaultEntry head) := by simp [Codes.Statement, decodeTableWord]
theorem Codes.cellFaultRecovery (head : Head) : Codes.Statement (.cellFaultRecovery head) := by simp [Codes.Statement, decodeTableWord]
theorem Codes.copyAck (head : Head) : Codes.Statement (.copyAck head) := by simp [Codes.Statement, decodeTableWord]
theorem Codes.captureLineComplete (head : Head) : Codes.Statement (.captureLineComplete head) := by simp [Codes.Statement, decodeTableWord]
theorem Codes.captureLabelComplete (head : Head) : Codes.Statement (.captureLabelComplete head) := by simp [Codes.Statement, decodeTableWord]
theorem Codes.keySignOn (head : Head) : Codes.Statement (.keySignOn head) := by simp [Codes.Statement, decodeTableWord]
theorem Codes.keySignOff (head : Head) : Codes.Statement (.keySignOff head) := by simp [Codes.Statement, decodeTableWord]
theorem Codes.keyItem (head : Head) : Codes.Statement (.keyItem head) := by simp [Codes.Statement, decodeTableWord]
theorem Codes.keyCount (head : Head) : Codes.Statement (.keyCount head) := by simp [Codes.Statement, decodeTableWord]
theorem Codes.keyZero (head : Head) : Codes.Statement (.keyZero head) := by simp [Codes.Statement, decodeTableWord]
theorem Codes.keyTare (head : Head) : Codes.Statement (.keyTare head) := by simp [Codes.Statement, decodeTableWord]
theorem Codes.keyClearTare (head : Head) : Codes.Statement (.keyClearTare head) := by simp [Codes.Statement, decodeTableWord]
theorem Codes.keyNext (head : Head) : Codes.Statement (.keyNext head) := by simp [Codes.Statement, decodeTableWord]
theorem Codes.keySkip (head : Head) : Codes.Statement (.keySkip head) := by simp [Codes.Statement, decodeTableWord]
theorem Codes.keyOpen (head : Head) : Codes.Statement (.keyOpen head) := by simp [Codes.Statement, decodeTableWord]
theorem Codes.keyPark (head : Head) : Codes.Statement (.keyPark head) := by simp [Codes.Statement, decodeTableWord]
theorem Codes.keyPick (head : Head) : Codes.Statement (.keyPick head) := by simp [Codes.Statement, decodeTableWord]
theorem Codes.keyVoidLast (head : Head) : Codes.Statement (.keyVoidLast head) := by simp [Codes.Statement, decodeTableWord]
theorem Codes.keyVoidTicket (head : Head) : Codes.Statement (.keyVoidTicket head) := by simp [Codes.Statement, decodeTableWord]
theorem Codes.keyTotal (head : Head) : Codes.Statement (.keyTotal head) := by simp [Codes.Statement, decodeTableWord]
theorem Codes.keyLabel (head : Head) : Codes.Statement (.keyLabel head) := by simp [Codes.Statement, decodeTableWord]
theorem Codes.keyBatch (head : Head) : Codes.Statement (.keyBatch head) := by simp [Codes.Statement, decodeTableWord]
theorem Codes.keyClear (head : Head) : Codes.Statement (.keyClear head) := by simp [Codes.Statement, decodeTableWord]

end Sys2Proof.Laws
end

