-- ==== Sys2Proof/Tests/Slice0.lean ====
section
/-! SUPPORT. Small tests: ill-formed commands refused, the manual's worked figures, and for each statement states and operands that meet its hypotheses. -/

namespace Sys2Proof.Tests

open Sys2Proof Sys2Proof.Machine

set_option Elab.async false

/-! ### Small states -/

/-- A WEIGHED item at 24.90 per kilogram. -/
def ham : Item :=
  { number := 101, index := 0, name := [72, 97, 109], mode := .weighed, price := 2490, pending := none, preset := none
    shelf := some 5, dept := 3, format := 0, state := .active, version := 0, refs := 0, acc := emptyAcc }

/-- A COUNTED item at 50 mu. -/
def roll : Item := { ham with number := 202, index := 1, mode := .counted, price := 50, shelf := none }

/-- A WITHDRAWN item. -/
def brie : Item := { ham with number := 303, index := 2, state := .withdrawn }

/-- Settings of a head in role `r`. -/
def inRole (r : Role) : HeadSettings := { powerOnSettings with role := r }

/-- A good slot. -/
def online : SlotLink := ⟨.online, 0, 0, 0⟩

/-- The open counter: heads 0 and 2 SERVICE, head 1 PREPACK, all three and printer 0 and the dispenser ONLINE, three
items. -/
def counter : State :=
  { State.reset with
    wge := { powerOnWge with
      settings := ((powerOnWge.settings.put 0 (inRole .service)).put 1 (inRole .prepack)).put 2 (inRole .service) }
    lnk := { powerOnLnk with
      slots := ((((powerOnLnk.slots.put 0 online).put 1 online).put 2 online).put 8 online).put 10 online }
    itb := ⟨[ham, roll, brie], 0⟩
    tot := { powerOnTot with day := .opened } }

/-- The counter with operator 1 at head 0 and operator 2 at head 1. -/
def desk : State := signOn 1 1 (signOn 0 0 counter)

/-- A line of the ham. -/
def slice : Line :=
  { position := 1, number := 101, index := 0, dept := 3, mode := .weighed, quantity := 1000, tare := none, price := 2490
    amount := 249, version := 0, generation := 0, head := 0, operator := 0 }

/-- The desk with head 0 holding ticket slot 0, its number 7 and one line. -/
def serving : State :=
  onCtx 0 (fun c => { c with held := some ⟨0, 1⟩, lastLine := some ⟨⟨0, 1⟩, 1⟩ })
    (onTicket 0 (fun _ =>
      { serial := 1, state := .held, service := some 7, holder := some 0, openHead := some 0, openOperator := some 0
        idle := 0, lines := [slice], total := 249, job := none })
      { desk with itb := ⟨[{ ham with refs := 1 }, roll, brie], 0⟩ })

/-- The ticket of `serving` in another state, with no holder. -/
def ticketIn (k : TicketState) : State := onTicket 0 (fun t => { t with state := k, holder := none }) serving

/-- A state with a key event handed on. -/
def keyed (h : Head) (k : KeyKind) (n : Nat) (s : State) : State := onInbox h (fun b => { b with keys := [⟨k, n⟩] }) s

/-- A state with a command in process. -/
def asked (c : HostCmd) (s : State) : State := { s with port := { s.port with inProcess := some ⟨1, c⟩ } }

/-- A state with a sample handed on. -/
def weighed (h : Head) (raw : Int) (s : State) : State := onInbox h (fun b => { b with samples := [raw] }) s

/-- A channel on the scale. -/
def scale (k : ChanState) : Channel := { idleChannel 0 with state := k }

/-- The state a command leaves. -/
def after (c : Instr) (s : State) : State :=
  match exec c s with
  | .next t => t
  | .fault _ => s
  | .refused _ => s

/-- A capture request of an ITEM key. -/
def request (p : Purpose) (n : Nat) (ticket : Option TicketId) : Request :=
  ⟨n, 0, p, .key, none, ticket, 0⟩

/-- A copy entry of the ham. -/
def copyOfHam (k : CopyState) (age : Option Nat) : CopyEntry := ⟨0, 0, 101, 0, k, age⟩

/-! ### Ill-formed commands -/

theorem test_wellFormed_command_opens_with_zero :
    (Instr.commandTransaction 0 [0, 1]).wellFormed = false := by decide
theorem test_wellFormed_headReport_has_bytes : (Instr.headReport 0 []).wellFormed = false := by decide
theorem test_wellFormed_printerReport_has_bytes : (Instr.printerReport 0 []).wellFormed = false := by decide
theorem test_wellFormed_dispenserReport_has_bytes : (Instr.dispenserReport []).wellFormed = false := by decide
theorem test_wellFormed_join_has_bytes : (Instr.join 0 []).wellFormed = false := by decide
theorem test_wellFormed_scale_single : (RawScale.single 16777216 5).wellFormed = false := by decide
theorem test_wellFormed_scale_dual : (RawScale.dual 1 1 1 256).wellFormed = false := by decide
theorem test_wellFormed_scale_other : (RawScale.other 1 []).wellFormed = false := by decide
theorem test_wellFormed_head : (RawHead.mk 0 0 8388608 1 0 (.single 1 1) 0 0 0).wellFormed = false := by decide
theorem test_wellFormed_pair : (RawPair.mk 0 256 6 20 1 4).wellFormed = false := by decide
theorem test_wellFormed_item : (RawItem.mk 1 [65] 0 (some 65536) none 0 0).wellFormed = false := by decide
theorem test_wellFormed_add_price : (HostCmd.addItem ⟨1, [65], 0, none, none, 0, 0⟩ 16777216).wellFormed = false := by
  decide
theorem test_wellFormed_one_number :
    [HostCmd.setSlots 65536, .readLink 256, .readHead 256, .findItem 16777216, .nextItem 16777216,
      .unstagePrice 16777216, .withdrawItem 16777216, .reinstateItem 16777216, .readCopies 256, .listTickets 256,
      .setCollection 256, .cancelJob 256, .readPrinter 256, .readTotals 256, .readHold 256, .readClosing 256].all
      (fun c => !c.wellFormed) = true := by decide
theorem test_wellFormed_two_numbers :
    [HostCmd.stagePrice 1 16777216, .setNumberRange 65536 1, .readTicket 1 256, .voidTicket 256 1,
      .collectTicket 1 256, .redirectJobs 0 256, .openDay 2256 1 1, .openDay 1999 1 1].all
      (fun c => !c.wellFormed) = true := by decide
theorem test_wellFormed_update : (HostCmd.updateItem ⟨1, [65], 256, none, none, 0, 0⟩).wellFormed = false := by decide
theorem test_wellFormed_configure :
    (HostCmd.configurePair ⟨256, 8, 6, 20, 1, 4⟩).wellFormed = false
      ∧ (HostCmd.configureHead ⟨256, 0, 0, 1, 0, .single 1 1, 0, 0, 0⟩).wellFormed = false := by decide
theorem test_wellFormed_print : (HostCmd.printText 0 256 [[65]]).wellFormed = false := by decide

/-! ### The manual's worked figures -/

/-- Section 1.9.1, steps 1 to 6: the result of one capture at a dual-interval station. -/
theorem test_weighing_worked_capture :
    average 8 [500000, 500000, 500000, 500000, 500000, 500000, 500000, 500003] = 500000
      ∧ grossOf { inRole .service with span := 20000 } 120000 500000 = 115967
      ∧ activeResult { inRole .service with scale := .dual 60000 20 150000 50 } .armed true (some ⟨120, .preset⟩) 115967
        = ⟨.active, some 115967, some ⟨120, .preset⟩, some 115847, some 50, some 115850, true, false, true, false, false,
          .eligible⟩ := by decide
/-- Section 1.9.3: the interval boundary and below zero. -/
theorem test_weighing_interval_boundary :
    [(59990 : Int), 60000, 60001, 60010, 60025, -30].map
      (fun net => roundTo net (chooseDivision (.dual 60000 20 150000 50) net))
      = [60000, 60000, 60000, 60000, 60050, -40] := by decide
/-- Section 1.9.2, frames 106 and 116: stability by the spread of the history. -/
theorem test_weighing_stability :
    stableHistory 6 20 [115950, 115962, 115967, 115970, 115966, 115967] = true
      ∧ stableHistory 6 20 [40, 8, 2, 3, 5, 4] = false ∧ stableHistory 6 20 [8, 2, 3, 5, 4, 3] = true := by decide
/-- Section 1.9.4: tracking steps and the clamp. -/
theorem test_weighing_zero_tracking :
    trackStep powerOnPair 30 = 1 ∧ trackStep { powerOnPair with mode := .proportional } 30 = 7
      ∧ trackStep { powerOnPair with mode := .proportional, gain := 1 } 30 = 1
      ∧ clampZero { inRole .service with z0 := 120000, zr := 19661 } (139655 + 6) = (139661, false)
      ∧ clampZero { inRole .service with z0 := 120000, zr := 19661 } (139661 + 4) = (139661, true) := by decide
/-- Sections 1.9.1 step 7 and 1.9.5: amounts. -/
theorem test_amounts :
    amountOf .weighed 1890 115850 = .ok 21896 ∧ amountOf .counted 1250 3 = .ok 3750
      ∧ amountOf .counted 12000 999 = .error .amountOver ∧ amountOf .fixed 499 1 = .ok 499
      ∧ amountOf .weighed 999999 150000 = .error .amountOver ∧ amountOf .weighed 0 5 = .error .noPrice := by
  refine ⟨?_, ?_, ?_, ?_, ?_, ?_⟩ <;> rfl
/-- Section 7.9.1: barcodes. -/
theorem test_barcodes :
    itemBarcode 0 12345 21896 = some [2, 0, 1, 2, 3, 4, 5, 2, 1, 8, 9, 6, 3]
      ∧ itemBarcode 0 4021 587 = some [2, 0, 0, 4, 0, 2, 1, 0, 0, 5, 8, 7, 5]
      ∧ summaryBarcode 52 10 1125 = some [2, 9, 0, 5, 2, 1, 1, 0, 1, 1, 2, 5, 9]
      ∧ itemBarcode 0 123456 1 = none ∧ itemBarcode 0 1040 100120 = none := by decide
/-- Section 7.9.2: sell-by dates. -/
theorem test_sell_by_dates :
    sellByOf (some ⟨2031, 5, 10⟩) (some 0) = some ⟨2031, 5, 10⟩
      ∧ sellByOf (some ⟨2031, 2, 27⟩) (some 3) = some ⟨2031, 3, 2⟩
      ∧ sellByOf (some ⟨2032, 2, 27⟩) (some 3) = some ⟨2032, 3, 1⟩
      ∧ sellByOf (some ⟨2031, 12, 30⟩) (some 5) = some ⟨2032, 1, 4⟩
      ∧ sellByOf (some ⟨2099, 12, 20⟩) (some 30) = some ⟨2099, 12, 31⟩
      ∧ sellByOf (some ⟨2031, 5, 10⟩) none = none := by decide
/-- Section 10.8, steps 1 to 3: the commit's transaction accepted, IN_USE while it is in process, the overrun. -/
theorem test_port_commit_and_overrun :
    let s := { State.reset with port := { powerOnPort with serial := 17 } }
    let t := after (.commandTransaction 0 [0x16, 0, 0]) s
    t.port.inProcess = some ⟨18, .commitPrices⟩ ∧ rdy t = false
      ∧ (after (.responseTransaction 6) t).sdo = [0x00, 0x07, 18, 0x16, 0, 0]
      ∧ (after (.commandTransaction 0 [0x14, 0, 6]) t).port.latched.portOverrun = true
      ∧ (after (.commandTransaction 0 [0x14, 0, 6]) t).sdo = [0, 0, 0] := by decide +kernel
/-- Section 9.9: four bad frames and a good one, seen in the slot. -/
theorem test_link_short_dropout :
    let s := after (.upstreamRejected 2 [0x11]) counter
    slotLink 2 s = ⟨.silent, 0, 1, 1⟩ ∧ slotLink 2 (after (.upstreamMiss 2) s) = ⟨.silent, 0, 2, 1⟩
      ∧ slotLink 2 (after (.headReport 2 (writeHeadReport ⟨5, none, none⟩)) s) = ⟨.online, 0, 0, 1⟩ := by decide +kernel
/-- Section 9.8: the bytes of a HEAD_REPORT with ITEM 1040 under serial 6 and of an acknowledgement, byte by byte. -/
theorem test_wire_head_report :
    judge 2 (sealed [0x11, 0x63, 0xFF, 0xFF, 0xFE, 0x03, 0x00, 0x04, 0x10, 0x0F, 0x2A])
      = .good (.head ⟨-2, some ⟨3, 1040, 6⟩, some ⟨15, 42⟩⟩)
      ∧ judge 2 (sealed [0x11, 0x60, 0, 0, 1]) = .malformed ∧ judge 2 (sealed [0x11, 0x04, 0, 0, 1]) = .malformed
      ∧ judge 2 [0x11, 0, 0, 0, 1, 0] = .badCrc ∧ judge 2 [] = .malformed := by decide +kernel
/-- Section 9.8: a PRINTER_REPORT and its limits. -/
theorem test_wire_printer_report :
    judge 8 (sealed [0x21, 8, 2, 1, 37, 16]) = .good (.printer ⟨8, .headOpen, some 37, 16⟩)
      ∧ judge 8 (sealed [0x21, 9, 0, 0, 0, 0]) = .malformed ∧ judge 8 (sealed [0x21, 1, 0, 0, 1, 0]) = .malformed := by
  decide +kernel
/-- The check value of the CRC with this generator and start over the digits 1 to 9 (general knowledge; the manual
gives none). -/
theorem test_crc_check_value : crc8 [49, 50, 51, 52, 53, 54, 55, 56, 57] = 0x20 := by decide +kernel

/-! ### Hypotheses met: every command, resets, port -/

theorem witness_StepRunsFrontOfQueue : State.reset.pending = [] := rfl
theorem witness_EveryCommandAnswers : ({ desk with resetLow := true } : State).resetLow = true
    ∧ Instr.frameStart ≠ .powerOnReset ∧ Instr.frameStart ≠ .resetPinFall ∧ Instr.frameStart ≠ .resetPinRise := by
  decide +kernel
theorem witness_EveryCommandAnswers_shown :
    (∃ t, exec .readStatus (asked .readStatus desk) = .next t)
      ∧ (after .readStatus (asked .readStatus desk)).shown = [⟨false, false, false⟩]
      ∧ (after .frameStart desk).shown = [] := ⟨⟨_, rfl⟩, by decide +kernel⟩
theorem witness_DisplaysAndOffersFollow :
    (∃ t, exec (.keyItem 1) (keyed 1 .item 101 desk) = .next t)
      ∧ itemInHand 1 (keyed 1 .item 101 desk) ≠ itemInHand 1 (after (.keyItem 1) (keyed 1 .item 101 desk))
      ∧ sourcesOf 1 (keyed 1 .item 101 desk) ≠ sourcesOf 1 (after (.keyItem 1) (keyed 1 .item 101 desk)) :=
  ⟨⟨_, rfl⟩, by decide +kernel, by decide +kernel⟩
theorem witness_LatchedFlagsOnlyGrow :
    let s := flagHeadLost 7 (flagPrinterLost 1 (flagDispenserLost (flagPrinterStopped 0 (flagCellFault 0
      (flagZeroLimit 3 (flagSaturated (flagInStep (flagRefused (flagOverrun counter)))))))))
    (∃ t, exec .frameStart s = .next t) ∧ s.port.latched.headLost.look 7 = true
      ∧ s.port.latched.printerLost.look 1 = true ∧ s.port.latched.dispenserLost = true
      ∧ s.port.latched.printerStopped.look 0 = true ∧ s.port.latched.cellFault.look 0 = true
      ∧ s.port.latched.zeroLimit.look 3 = true ∧ s.port.latched.totalSaturated = true ∧ s.port.latched.inStep = true
      ∧ s.port.latched.dispenserRefused = true ∧ s.port.latched.portOverrun = true :=
  ⟨⟨_, rfl⟩, by decide +kernel⟩
theorem witness_HubResetTakesEveryBlock : Taking 1 .hubReset (asked .hubReset serving) := ⟨rfl, rfl⟩
theorem witness_CommandTransactionAccepted :
    serving.resetLow = false ∧ serving.port.inProcess = none ∧ (fallView 0 serving).rdy = true
      ∧ (fallView 3 serving).rdy = true ∧ ({ serving with shown := [⟨true, true, false⟩] } : State).shown[0]?
        = some ⟨true, true, false⟩
      ∧ (fallView 1 { serving with shown := [⟨true, true, false⟩] }).rdy = true
      ∧ (HostCmd.stagePrice 101 999999).wellFormed = true
      ∧ (commandPayload (.stagePrice 101 999999)).length ≤ 1024
      ∧ (HostCmd.printText 0 1 (List.replicate 39 (List.replicate 25 65))).wellFormed = true
      ∧ (commandPayload (.printText 0 1 (List.replicate 39 (List.replicate 25 65)))).length ≤ 1024 := by decide +kernel
theorem witness_RefusedTransactionsAtThePort :
    counter.resetLow = false ∧ counter.port.inProcess = none ∧ (fallView 0 counter).rdy = true ∧ (∀ c : HostCmd, commandCode c ≠ 0xFF)
      ∧ [(0 : Byte)].length < 2 ∧ 1024 < 256 * (4 : Byte).toNat + (1 : Byte).toNat
      ∧ [(0 : Byte), 1].length ≠ 2 + (256 * (0 : Byte).toNat + (1 : Byte).toNat) :=
  ⟨rfl, rfl, rfl, fun c => by cases c <;> simp [commandCode], by decide, by decide, by decide⟩
theorem witness_RefusedTransactionsAtThePort_fields :
    (∀ c : HostCmd, c.wellFormed = true → commandCode c = 0x50 → commandPayload c ≠ [(0 : Byte), 1, 9].drop 2)
      ∧ ∀ c : HostCmd, c.wellFormed = true → commandCode c = 0x12 → commandPayload c ≠ [(0 : Byte), 2, 0, 1].drop 2 := by
  refine ⟨fun c _ hc => ?_, fun c _ hc => ?_⟩ <;> cases c <;> revert hc <;> simp [commandCode, commandPayload, beNat]
theorem witness_RefusedTransactionsAtThePort_overrun :
    (asked .commitPrices counter).resetLow = false ∧ (0x14 : Byte) ≠ 0
      ∧ (fallView 0 (asked .commitPrices counter)).rdy = false
      ∧ (fallView 1 { counter with shown := [⟨false, false, false⟩] }).rdy = false := by decide
theorem witness_ResponseTransactionReadsBuffer :
    (asked .commitPrices counter).port.inProcess = some ⟨1, .commitPrices⟩
      ∧ counter.port.inProcess = none ∧ counter.port.buffer = none
      ∧ (after .readStatus (asked .readStatus counter)).port.inProcess = none
      ∧ (after .readStatus (asked .readStatus counter)).port.buffer.isSome := by decide +kernel
theorem witness_StatusReadClearsLatched : Taking 1 .readStatus (asked .readStatus (flagInStep counter)) := ⟨rfl, rfl⟩
theorem witness_CommandPayloadRoundTrip :
    (HostCmd.configureHead ⟨7, 2, -8388607, 1048575, 0, .dual 60000 2 150000 5, 1, 1, 60000⟩).wellFormed = true
      ∧ (HostCmd.addItem ⟨999999, [65, 66], 2, some 10000, some 365, 15, 3⟩ 999999).wellFormed = true
      ∧ (HostCmd.configureHead ⟨7, 2, 0, 1, 0, .other 9 [1, 2], 1, 1, 0⟩).wellFormed = true := by decide
theorem witness_ReadingCommandsChangeNothing :
    Taking 1 (.readHead 7) (asked (.readHead 7) desk) ∧ Taking 1 (.readLink 0) (asked (.readLink 0) desk)
      ∧ Taking 1 (.findItem 101) (asked (.findItem 101) desk)
      ∧ findItem 101 (asked (.findItem 101) desk) = some ham
      ∧ Taking 1 (.readCopies 0) (asked (.readCopies 0) desk) ∧ Taking 1 .readQueue (asked .readQueue desk)
      ∧ Taking 1 (.readTicket 1 1) (asked (.readTicket 1 1) serving)
      ∧ (ticket 0 (asked (.readTicket 1 1) serving)).state ≠ .free
      ∧ (ticket 0 (asked (.readTicket 1 1) serving)).serial = 1
      ∧ Taking 1 (.readPrinter 1) (asked (.readPrinter 1) desk) := by unfold Taking; decide +kernel
/-- What the reading commands refuse. -/
theorem witness_ReadingCommandsChangeNothing_refused :
    let s := after (.readTotals) (asked (.readTotals 2) desk)
    Taking 1 (.readHead 8) (asked (.readHead 8) desk) ∧ Taking 1 (.readLink 2) (asked (.readLink 2) desk)
      ∧ Taking 1 (.findItem 1000000) (asked (.findItem 1000000) desk)
      ∧ Taking 1 (.findItem 999999) (asked (.findItem 999999) desk) ∧ findItem 999999 desk = none
      ∧ Taking 1 (.nextItem 1000000) (asked (.nextItem 1000000) desk)
      ∧ Taking 1 (.readCopies 8) (asked (.readCopies 8) desk)
      ∧ Taking 1 (.readTicket 49 0) (asked (.readTicket 49 0) desk)
      ∧ Taking 1 (.readTicket 48 255) (asked (.readTicket 48 255) desk) ∧ (ticket 47 desk).state = .free
      ∧ Taking 1 (.readTicket 1 2) (asked (.readTicket 1 2) serving) ∧ (ticket 0 serving).serial.toNat ≠ 2
      ∧ Taking 1 (.readPrinter 2) (asked (.readPrinter 2) desk)
      ∧ Taking 1 (.readHold 0) (asked (.readHold 0) desk) ∧ desk.tot.hold = none
      ∧ Taking 1 (.readHold 2) (asked (.readHold 2) s) ∧ s.tot.hold = some (snapshot .operator desk)
      ∧ max 1 (((snapshot .operator desk).entries.length + 15) / 16) ≤ 2 := by
  unfold Taking
  decide +kernel
theorem witness_ReadingCommandsChangeNothing_totals :
    let s := after (.readTotals) (asked (.readTotals 2) desk)
    let d := { desk with tot := { desk.tot with
      day := .closing, cursor := some (.after .grand), lastEntry := some ⟨.grand, emptyAcc, none, none, 1⟩ } }
    Taking 1 (.readHold 1) (asked (.readHold 1) s) ∧ (asked (.readHold 1) s).tot.hold = some (snapshot .operator desk)
      ∧ 1 < max 1 (((snapshot .operator desk).entries.length + 15) / 16)
      ∧ Taking 1 (.readClosing 1) (asked (.readClosing 1) d) ∧ (asked (.readClosing 1) d).tot.day = .closing
      ∧ (asked (.readClosing 1) d).tot.lastEntry.isSome := by
  unfold Taking
  decide +kernel
theorem witness_NextItemWalksDirectory :
    Directory (asked (.nextItem 101) desk) ∧ Taking 1 (.nextItem 101) (asked (.nextItem 101) desk)
      ∧ roll ∈ (asked (.nextItem 101) desk).itb.items
      ∧ (∀ j ∈ (asked (.nextItem 101) desk).itb.items, 101 < j.number → roll.number ≤ j.number)
      ∧ Taking 1 (.nextItem 303) (asked (.nextItem 303) desk)
      ∧ ∀ i ∈ (asked (.nextItem 303) desk).itb.items, i.number ≤ 303 := by unfold Directory Taking; decide +kernel
theorem witness_ListTicketsBySelection :
    Taking 1 (.listTickets 0) (asked (.listTickets 0) serving)
      ∧ Taking 1 (.listTickets 5) (asked (.listTickets 5) serving)
      ∧ Taking 1 (.listTickets 6) (asked (.listTickets 6) serving) := by unfold Taking; decide

/-! ### Hypotheses met: weighing -/

theorem witness_RoundsHalfAwayFromZero :
    0 < 2 ∧ 2 * ((3 : Int) - roundAway 3 2 * 2).natAbs = 2 ∧ 2 * ((-3 : Int) - roundAway (-3) 2 * 2).natAbs = 2 := by
  decide
theorem witness_RailSamplesFaultTheCell :
    let idle := weighed 0 5 desk
    let on := fun (n : Nat) (c : ChanState) => weighed 0 8388607 (onChan 0 (fun _ => { scale c with railRun := n })
      (onCtx 0 (fun c => { c with request := some (request .label 101 none) }) desk))
    Sampled 0 5 [] idle ∧ (chan 0 idle).state = .idle
      ∧ Sampled 0 8388607 [] (on 6 .settling) ∧ (chan 0 (on 6 .settling)).railRun + 1 < 8
      ∧ (ctx 0 (on 6 .settling)).request.isSome
      ∧ Sampled 0 8388607 [] (on 0 .active) ∧ (chan 0 (on 0 .active)).state = .active
      ∧ (inbox 0 (on 7 .active)).samples = [8388607] ∧ 8 ≤ (chan 0 (on 7 .active)).railRun + 1
      ∧ (chan 0 (after (.channelSample 0) (on 7 .active))).state = .cellFault
      ∧ (ctx 0 (after (.channelSample 0) (on 7 .active))).message = some ⟨.cell, 200⟩ := by
  unfold Sampled
  decide +kernel
theorem witness_RailSamplesFaultTheCell_recovery :
    let on := fun (raw : Int) (n : Nat) =>
      weighed 0 raw (onChan 0 (fun _ => { scale .cellFault with clearRun := n }) desk)
    Sampled 0 (-8388608) [] (on (-8388608) 7) ∧ Sampled 0 5 [] (on 5 6) ∧ (chan 0 (on 5 6)).clearRun + 1 < 8
      ∧ Sampled 0 5 [] (on 5 7) ∧ 8 ≤ (chan 0 (on 5 7)).clearRun + 1 ∧ 2 ≤ (pairSettings 0 (on 5 7)).depth
      ∧ (chan 0 (after (.channelSample 0) (on 5 7))).state = .settling := by
  unfold Sampled
  decide +kernel
theorem witness_ShortWindowStaysSettling :
    let s := weighed 0 5 (onChan 0 (fun _ => { scale .settling with window := List.replicate 6 5 })
      (onCtx 0 (fun c => { c with request := some (request .label 101 none) }) desk))
    Sampled 0 5 [] s ∧ (chan 0 s).state = .settling ∧ (chan 0 s).window.length + 1 < (pairSettings 0 s).depth
      ∧ (ctx 0 s).request.isSome := by
  unfold Sampled
  decide +kernel
/-- Head `h` of `s` in ACTIVE with raw value `raw` throughout its window, `gross` throughout its history, and one sample
more to come. -/
def settled (h : Head) (raw gross : Int) (s : State) : State :=
  weighed h raw (onChan h (fun _ =>
    { scale .active with window := List.replicate 8 raw, history := List.replicate 6 gross }) s)

theorem witness_FullWindowGivesActiveResult :
    let s := settled 0 5 5 desk
    Sampled 0 5 [] s ∧ (chan 0 s).state = .active ∧ 0 < (pairSettings 0 s).window
      ∧ (pairSettings 0 s).depth
        ≤ (((chan 0 s).window ++ [5]).drop ((chan 0 s).window.length + 1 - (pairSettings 0 s).depth)).length
      ∧ (settings 0 s).z0 + (settings 0 s).zr < (chan 0 s).zero + 1
      ∧ (after (.channelSample 0) s).port.latched.zeroLimit.look 0 = true
      ∧ (chan 0 (after (.channelSample 0) s)).zero = 0 := by
  unfold Sampled
  decide +kernel
/-- A request pending: it holds Z, and a newly set OVER cancels it. -/
theorem witness_FullWindowGivesActiveResult_pending :
    let s := fun raw : Int => settled 0 raw raw (onCtx 0 (fun c => { c with request := some (request .label 101 none) }) desk)
    Sampled 0 200000 [] (s 200000) ∧ (ctx 0 (s 200000)).request.isSome ∧ (chan 0 (s 200000)).last = none
      ∧ (activeResult (settings 0 (s 0)) .armed true none 200000).overFlag = true
      ∧ (ctx 0 (after (.channelSample 0) (s 200000))).request = none
      ∧ (ctx 0 (after (.channelSample 0) (s 200000))).message = some ⟨.overCap, 200⟩
      ∧ (ctx 0 (after (.channelSample 0) (s 5))).request.isSome ∧ (chan 0 (after (.channelSample 0) (s 5))).zero = 0
      ∧ (after (.channelSample 0) (s 5)).port.latched.zeroLimit.look 0 = false := by
  unfold Sampled
  decide +kernel
/-- The automatic request of a PREPACK head. -/
theorem witness_FullWindowGivesActiveResult_auto :
    let s := settled 1 10000 10000 (onCtx 1 (fun c => { c with selected := some 101, batch := .left 1 }) desk)
    Sampled 1 10000 [] s ∧ (ctx 1 s).request = none ∧ role 1 s = .prepack ∧ (ctx 1 s).operator.isSome
      ∧ (ctx 1 s).held = none ∧ (ctx 1 s).batch ≠ .done ∧ (ctx 1 s).autoHold = false ∧ s.tot.day = .opened
      ∧ ((ctx 1 s).selected.bind (findItem · s)) = some ham ∧ ham.state = .active ∧ ham.mode = .weighed
      ∧ (activeResult (settings 1 s) .armed true none 10000).verdict = .eligible
      ∧ (ctx 1 (after (.channelSample 1) s)).request = some ⟨101, 0, .prepack, .auto, none, none, 0⟩ := by
  unfold Sampled
  decide +kernel
theorem witness_VerdictNamesFirstFailure :
    let r := fun (lock : Lock) (stable : Bool) (gross : Int) =>
      (activeResult (inRole .service) lock stable none gross).verdict
    r .armed true 1000 = .eligible ∧ r .armed false 1000 = .notEligible .unstable
      ∧ r .armed true 150001 = .notEligible .overCap ∧ r .armed true 974 = .notEligible .belowMin
      ∧ r .locked true 150000 = .notEligible .locked
      ∧ (activeResult (inRole .service) .armed true (some ⟨500, .manual⟩) 150000).net = some 149500
      ∧ (activeResult (inRole .service) .armed true none 12).zeroFlag = true
      ∧ (activeResult (inRole .service) .armed true none 13).zeroFlag = false := by decide
theorem witness_AmountFollowsPriceFormula :
    (9999999 : Nat) < 9999 * 1001 ∧ (10000 : Nat) * 999 ≤ 9999999 ∧ (2490 : Nat) ≠ 0 := by decide
theorem witness_WeighingKeysActOnChannel :
    role 0 desk ≠ .disabled ∧ Keyed 0 ⟨.zero, 0⟩ [] (keyed 0 .zero 0 desk)
      ∧ Keyed 0 ⟨.tare, 0⟩ [] (keyed 0 .tare 0 desk) ∧ Keyed 0 ⟨.clearTare, 0⟩ [] (keyed 0 .clearTare 0 desk) := by
  unfold Keyed
  decide +kernel

/-! ### Hypotheses met: keys -/

theorem witness_KeysPassTheGate :
    Keyed 3 ⟨.item, 101⟩ [] (keyed 3 .item 101 desk) ∧ role 3 (keyed 3 .item 101 desk) = .disabled
      ∧ Keyed 2 ⟨.item, 101⟩ [] (keyed 2 .item 101 desk) ∧ role 2 (keyed 2 .item 101 desk) ≠ .disabled
      ∧ (ctx 2 (keyed 2 .item 101 desk)).operator = none
      ∧ Keyed 1 ⟨.next, 0⟩ [] (keyed 1 .next 0 desk) ∧ (ctx 1 (keyed 1 .next 0 desk)).operator.isSome
      ∧ role 1 (keyed 1 .next 0 desk) = .prepack
      ∧ Keyed 0 ⟨.batch, 5⟩ [] (keyed 0 .batch 5 desk) ∧ role 0 (keyed 0 .batch 5 desk) = .service := by
  unfold Keyed
  decide +kernel
/-- Operator 2, called with number 9 at head 1, signs on at head 2, where operator 3 was called with number 8. -/
theorem witness_SignOnAndSignOffKeys_two_numbers :
    let s := keyed 2 .signOn 2 (onCtx 2 (fun c => { c with nowServing := some 8 })
      (onCtx 1 (fun c => { c with nowServing := some 9 }) (signOn 2 2 desk)))
    (ctx 2 s).operator = some 2 ∧ signedOnAt 1 s = some 1
      ∧ (after (.keySignOn 2) s).snu.waiting = [⟨8, false⟩, ⟨9, false⟩]
      ∧ (ctx 2 (after (.keySignOn 2) s)).operator = some 1 := by decide +kernel
theorem witness_SignOnAndSignOffKeys :
    Keyed 2 ⟨.signOn, 33⟩ [] (keyed 2 .signOn 33 serving) ∧ Keyed 2 ⟨.signOn, 0⟩ [] (keyed 2 .signOn 0 serving)
      ∧ role 2 serving ≠ .disabled
      ∧ Keyed 0 ⟨.signOn, 1⟩ [] (keyed 0 .signOn 1 serving) ∧ signedOnAt 0 (keyed 0 .signOn 1 serving) = some 0
      ∧ Keyed 2 ⟨.signOn, 32⟩ [] (keyed 2 .signOn 32 serving) ∧ signedOnAt 31 (keyed 2 .signOn 32 serving) = none
      ∧ (ctx 2 serving).operator = none ∧ Keyed 2 ⟨.signOn, 1⟩ [] (keyed 2 .signOn 1 serving)
      ∧ signedOnAt 0 (keyed 2 .signOn 1 serving) = some 0
      ∧ Keyed 0 ⟨.signOn, 2⟩ [] (keyed 0 .signOn 2 serving) ∧ signedOnAt 1 (keyed 0 .signOn 2 serving) = some 1
      ∧ Keyed 0 ⟨.signOff, 0⟩ [] (keyed 0 .signOff 0 serving)
      ∧ (ctx 0 (keyed 0 .signOff 0 serving)).operator = some 0 := by
  unfold Keyed
  decide +kernel
/-- SIGN_ON 2 at head 0 signs off head 1 first, then head 0, so the number of head 0 stands foremost (R35). -/
theorem test_sign_on_signs_off_the_other_head_first :
    (after (.keySignOn 0) (keyed 0 .signOn 2 (onCtx 0 (fun c => { c with nowServing := some 7 })
        (onCtx 1 (fun c => { c with nowServing := some 9 }) desk)))).snu.waiting = [⟨7, false⟩, ⟨9, false⟩] := by
  decide +kernel
theorem witness_ItemKeyRequestsOrRefuses :
    (ctx 0 serving).operator.isSome ∧ serving.tot.day = .opened ∧ (ctx 0 serving).request = none
      ∧ findItem 101 serving = some { ham with refs := 1 } ∧ copyCurrent 0 101 serving = false
      ∧ role 0 serving = .service ∧ (ctx 0 serving).held = some ⟨0, 1⟩ ∧ (ticket 0 serving).lines.length < 24
      ∧ Keyed 0 ⟨.item, 101⟩ [] (keyed 0 .item 101 serving)
      ∧ role 1 serving = .prepack ∧ (ctx 1 serving).batch ≠ .done ∧ (ctx 1 serving).operator.isSome
      ∧ (ctx 1 (keyed 1 .label 0 (onCtx 1 (fun c => { c with selected := some 101 }) serving))).selected = some 101 := by
  unfold Keyed
  decide +kernel
theorem witness_ItemKeyRequestsOrRefuses_current :
    let s := keyed 0 .item 101 (onCopies 0 (fun _ => ⟨[copyOfHam .current none], []⟩) serving)
    Keyed 0 ⟨.item, 101⟩ [] s ∧ copyCurrent 0 101 s = true ∧ (ctx 0 s).request = none := by
  unfold Keyed
  decide +kernel
/-- A full copy list of other items, every entry CURRENT, under an armed watch. -/
def crowded (k : CopyState) : State :=
  onCopies 0 (fun _ => ⟨(List.finRange 16).map fun d => ⟨d, d.val, 500 + d.val, 0, k, none⟩, []⟩)
    { desk with ccu := { desk.ccu with armed := true } }

theorem witness_ItemKeyRequestsOrRefuses_selected :
    let one := onCopies 0 (fun _ => ⟨[{ copyOfHam .current none with slot := 1 }], [0]⟩) desk
    (copies 0 one).entries.find? (·.number == ham.number) = some { copyOfHam .current none with slot := 1 }
      ∧ (∀ e ∈ (copies 0 one).entries, e.number ≠ roll.number) ∧ (copies 0 one).entries.length < 16
      ∧ (∀ e ∈ (copies 0 one).entries, e.slot ≠ 0) ∧ (copies 0 (selectItem 0 roll one)).drops = []
      ∧ (∀ e ∈ (copies 0 (crowded .current)).entries, e.number ≠ ham.number)
      ∧ 16 ≤ (copies 0 (crowded .current)).entries.length ∧ (crowded .current).ccu.armed = true
      ∧ (selectItem 0 ham (crowded .current)).ccu.armed = true
      ∧ (copies 0 (selectItem 0 ham (crowded .stale))).entries.length = 16 := by decide +kernel
/-- A full list whose one entry that is not CURRENT is the least recent: its eviction cannot meet the watch, as the new
entry is SENDING, unless its head is off the link. -/
theorem witness_ItemKeyRequestsOrRefuses_evicted :
    let s := onSlot 0 (fun l => { l with presence := .absent }) (crowded .stale)
    s.ccu.armed = true ∧ (∀ g, onLink (headSlot g) s = true → ∀ x ∈ (copies g s).entries, x.state = .current)
      ∧ (selectItem 0 ham s).port.latched.inStep = true := by decide +kernel
theorem witness_ItemKeyRequestsOrRefuses_refused :
    let full := onTicket 0 (fun t => { t with lines := List.replicate 24 slice }) serving
    ({ desk with tot := powerOnTot } : State).tot.day ≠ .opened
      ∧ (ctx 0 (onCtx 0 (fun c => { c with request := some (request .line 101 none) }) desk)).request ≠ none
      ∧ findItem 999999 desk = none ∧ findItem 303 desk = some brie ∧ brie.state = .withdrawn
      ∧ (ctx 0 desk).labelMark = false ∧ (ctx 0 desk).held = none ∧ role 0 desk = .service
      ∧ 24 ≤ (ticket 0 full).lines.length ∧ (ctx 0 full).held = some ⟨0, 1⟩
      ∧ (ctx 1 (onCtx 1 (fun c => { c with batch := .done }) desk)).batch = .done := by decide +kernel
/-- LABEL at a PREPACK head refused as ITEM is. -/
theorem witness_ItemKeyRequestsOrRefuses_label :
    let s := fun (n : Nat) (b : Batch) (d : DayState) => keyed 1 .label 0
      (onCtx 1 (fun c => { c with selected := some n, batch := b }) { desk with tot := { desk.tot with day := d } })
    Keyed 1 ⟨.label, 0⟩ [] (s 101 .done .opened) ∧ role 1 (s 101 .done .opened) = .prepack
      ∧ (ctx 1 (s 101 .done .opened)).operator.isSome ∧ (ctx 1 (s 101 .done .opened)).request = none
      ∧ (ctx 1 (s 101 .done .opened)).selected = some 101 ∧ findItem 101 (s 101 .done .opened) = some ham
      ∧ (ctx 1 (after (.keyLabel 1) (s 101 .done .closing))).message = some ⟨.dayClosed, 200⟩
      ∧ (ctx 1 (after (.keyLabel 1) (s 999999 .done .opened))).message = some ⟨.noItem, 200⟩
      ∧ (ctx 1 (after (.keyLabel 1) (s 303 .done .opened))).message = some ⟨.withdrawn, 200⟩
      ∧ (ctx 1 (after (.keyLabel 1) (s 101 .done .opened))).message = some ⟨.batchDone, 200⟩ := by
  unfold Keyed
  decide +kernel
theorem witness_CountClearLabelBatchKeys :
    Keyed 0 ⟨.count, 999⟩ [] (keyed 0 .count 999 desk) ∧ Keyed 0 ⟨.count, 1000⟩ [] (keyed 0 .count 1000 desk)
      ∧ Keyed 0 ⟨.clear, 0⟩ [] (keyed 0 .clear 0 desk) ∧ Keyed 0 ⟨.label, 0⟩ [] (keyed 0 .label 0 desk)
      ∧ Keyed 1 ⟨.label, 0⟩ [] (keyed 1 .label 0 desk) ∧ (ctx 1 (keyed 1 .label 0 desk)).selected = none
      ∧ Keyed 1 ⟨.batch, 0⟩ [] (keyed 1 .batch 0 desk) ∧ Keyed 1 ⟨.batch, 1000⟩ [] (keyed 1 .batch 1000 desk)
      ∧ role 0 desk = .service ∧ role 1 desk = .prepack ∧ (ctx 0 desk).operator.isSome
      ∧ (ctx 1 desk).operator.isSome := by
  unfold Keyed
  decide +kernel
theorem witness_NextAndSkipMoveNumbers :
    let waiting := onSnu (fun u => { u with waiting := [⟨7, true⟩, ⟨8, false⟩] }) desk
    let called := onCtx 0 (fun c => { c with nowServing := some 7 }) desk
    Keyed 0 ⟨.next, 0⟩ [] (keyed 0 .next 0 waiting) ∧ role 0 waiting = .service ∧ (ctx 0 waiting).operator.isSome
      ∧ (ctx 0 waiting).held = none ∧ (ctx 0 waiting).nowServing = none ∧ waiting.tot.day = .opened
      ∧ Keyed 0 ⟨.next, 0⟩ [] (keyed 0 .next 0 desk) ∧ desk.snu.waiting = []
      ∧ Keyed 0 ⟨.skip, 0⟩ [] (keyed 0 .skip 0 called) ∧ (ctx 0 called).nowServing = some 7 := by
  unfold Keyed
  decide +kernel
theorem witness_OpenKeyOpensTicket :
    Keyed 0 ⟨.openKey, 0⟩ [] (keyed 0 .openKey 0 desk) ∧ role 0 desk = .service ∧ (ctx 0 desk).operator = some 0
      ∧ (ctx 0 desk).held = none ∧ desk.tot.day = .opened ∧ (ctx 0 desk).nowServing = none
      ∧ desk.snu.next ∉ numbersInPlay desk := by
  unfold Keyed
  decide +kernel
theorem witness_ParkAndPickHandTickets :
    Keyed 0 ⟨.park, 0⟩ [] (keyed 0 .park 0 serving) ∧ (ctx 0 serving).held = some ⟨0, 1⟩
      ∧ Keyed 0 ⟨.pick, 7⟩ [] (keyed 0 .pick 7 (onCtx 0 (fun c => { c with held := none }) (ticketIn .parked)))
      ∧ openTicket (ticket 0 (ticketIn .parked)) = true ∧ (ticket 0 (ticketIn .parked)).service = some 7
      ∧ (ctx 0 (onCtx 0 (fun c => { c with held := none }) (ticketIn .parked))).operator.isSome
      ∧ role 0 (ticketIn .parked) = .service := by
  unfold Keyed
  decide +kernel
theorem witness_VoidKeysFoldAndRelease :
    Keyed 0 ⟨.voidLast, 0⟩ [] (keyed 0 .voidLast 0 serving) ∧ Keyed 0 ⟨.voidTicket, 0⟩ [] (keyed 0 .voidTicket 0 serving)
      ∧ role 0 serving = .service ∧ (ctx 0 serving).operator.isSome ∧ (ctx 0 serving).held = some ⟨0, 1⟩
      ∧ (ticket 0 serving).lines.getLast? = some slice ∧ (ctx 0 serving).lastLine = some ⟨⟨0, 1⟩, slice.position⟩ := by
  unfold Keyed
  decide +kernel
theorem witness_TotalKeyClosesTicket :
    Keyed 0 ⟨.total, 0⟩ [] (keyed 0 .total 0 serving) ∧ role 0 serving = .service ∧ (ctx 0 serving).operator.isSome
      ∧ (ctx 0 serving).held = some ⟨0, 1⟩ ∧ (ticket 0 serving).lines ≠ [] ∧ (queue 0 serving).length < 16
      ∧ Keyed 0 ⟨.total, 0⟩ [] (keyed 0 .total 0 desk) ∧ (ctx 0 desk).held = none := by
  unfold Keyed
  decide +kernel

/-! ### Hypotheses met: frame starts and captures -/

/-- The desk with a waiting frame-start signal and a request that has waited `n` frames. -/
def waited (n : Nat) : State :=
  onCtx 0 (fun c => { c with request := some { request .line 101 none with waited := n } })
    { desk with hand := { desk.hand with hsu := 1 } }

theorem witness_FrameStartCountsAtHeads :
    (waited 298).resetLow = false ∧ 0 < (waited 298).hand.hsu ∧ activeItem 101 (waited 298) = true
      ∧ (waited 298).tot.day = .opened ∧ 298 + 1 < 300 ∧ 300 ≤ 299 + 1
      ∧ (ctx 0 (waited 299)).request = some { request .line 101 none with waited := 299 }
      ∧ (ctx 1 (waited 299)).request = none ∧ (ctx 1 (waited 299)).selected = none
      ∧ activeItem 303 (waited 0) = false ∧ copyCurrent 0 101 (waited 299) = false
      ∧ (ctx 0 (after .headServiceFrameStart (waited 299))).message = some ⟨.copyWait, 199⟩
      ∧ (ctx 0 (after .headServiceFrameStart { waited 0 with tot := powerOnTot })).message = some ⟨.dayClosed, 199⟩
      ∧ (ctx 0 (after .headServiceFrameStart (waited 298))).request
        = some { request .line 101 none with waited := 299 }
      ∧ (ctx 2 (onCtx 2 (fun c => { c with selected := some 303, message := some ⟨.busy, 1⟩ }) (waited 0))).selected
        = some 303
      ∧ (ctx 2 (onCtx 2 (fun c => { c with message := some ⟨.busy, 1⟩ }) (waited 0))).message = some ⟨.busy, 1⟩ := by
  decide +kernel
/-- A stable weight of 1 kg on head 0's scale, a CURRENT copy of the ham, and a request for it. -/
def ready (p : Purpose) (ticket : Option TicketId) (s : State) : State :=
  onCopies 0 (fun _ => ⟨[copyOfHam .current none], []⟩)
    (onChan 0 (fun _ => { scale .active with
        last := some (activeResult (inRole .service) .armed true none 10000), verdict := .eligible })
      (onCtx 0 (fun c => { c with request := some (request p 101 ticket) }) s))

/-- What the display of R52 holds: a WEIGHED item of a ticket with a CURRENT copy, a STALE one, a COUNTED one and a FIXED
one. -/
theorem witness_DisplaysAndOffersFollow_fields :
    let s := ready .line (some ⟨0, 1⟩) serving
    let counted := onCopies 0 (fun _ => ⟨[⟨0, 1, 202, 0, .current, none⟩], []⟩)
      (onCtx 0 (fun c => { c with request := some { request .line 202 (some ⟨0, 1⟩) with count := some 3 } }) s)
    let fixed := onItems (fun l => l.map fun i => { i with mode := .fixed }) s
    composeDisplay 0 s = ⟨some 10000, some .kg, true, false, false, false, false, some 101, some [72, 97, 109], some 2490,
        some 2490, some ⟨7, 1, 249⟩, none, none, false⟩
      ∧ composeDisplay 0 (onCopies 0 (fun _ => ⟨[copyOfHam .stale none], []⟩) s)
        = ⟨some 10000, some .kg, true, false, false, false, false, some 101, some [72, 97, 109], none, none,
          some ⟨7, 1, 249⟩, none, none, true⟩
      ∧ (composeDisplay 0 counted).weight = some 3 ∧ (composeDisplay 0 counted).unitText = some .pcs
      ∧ (composeDisplay 0 counted).amount = some 150 ∧ (composeDisplay 0 fixed).weight = none
      ∧ (composeDisplay 0 fixed).unitText = none ∧ (composeDisplay 0 fixed).amount = some 2490 := by decide +kernel
/-- The message field of R52 in its order: the fault, the head's message, the verdict of a pending WEIGHED request. A
DISABLED head shows nothing. -/
theorem witness_DisplaysAndOffersFollow_message :
    let s := ready .line (some ⟨0, 1⟩) serving
    let low := onChan 0 (fun c => { c with verdict := .notEligible .belowMin }) s
    let told := onCtx 0 (fun c => { c with message := some ⟨.busy, 1⟩ }) low
    let off := onCtx 3 (fun c => { c with message := some ⟨.busy, 1⟩, nowServing := some 4 }) s
    (composeDisplay 0 low).message = some .belowMin
      ∧ (composeDisplay 0 (onChan 0 (fun c => { c with verdict := .notEligible .unstable }) s)).message = none
      ∧ (composeDisplay 0 told).message = some .busy
      ∧ (composeDisplay 0 (onChan 0 (fun c => { c with state := .cellFault }) told)).message = some .cell
      ∧ role 3 off = .disabled ∧ (composeDisplay 3 off).message = none ∧ (composeDisplay 3 off).nowServing = none := by
  decide +kernel
theorem witness_LineCaptureAppendsLine :
    let s := ready .line (some ⟨0, 1⟩) serving
    s.resetLow = false ∧ (ctx 0 s).request = some (request .line 101 (some ⟨0, 1⟩)) ∧ (ctx 0 s).operator = some 0
      ∧ entryOf 101 (copies 0 s) = some (copyOfHam .current none) ∧ itemAt 0 s = some { ham with refs := 1 }
      ∧ (chan 0 s).verdict = .eligible ∧ ((chan 0 s).last.bind (·.shown)).getD 0 = 10000
      ∧ (ticket 0 s).state = .held ∧ (ticket 0 s).serial = 1 ∧ (ticket 0 s).lines.length < 24
      ∧ (ticket 0 s).total + 2490 ≤ 99999999 ∧ (settings 0 s).lineLabels = false := by decide +kernel
theorem witness_LineCaptureAppendsLine_amount : amountOf .weighed 2490 10000 = .ok 2490 := rfl
/-- What keeps a LINE capture waiting and what refuses it. -/
theorem witness_LineCaptureAppendsLine_else :
    let s := ready .line (some ⟨0, 1⟩) serving
    let priced := fun p : Nat => { s with itb := ⟨[{ ham with refs := 1, price := p }, roll], 0⟩ }
    let full := onTicket 0 (fun t => { t with total := 99999999 }) s
    let labels := { s with wge := { s.wge with settings := s.wge.settings.put 0 { settings 0 s with lineLabels := true } } }
    let busy := onQueue 0 (fun _ => List.replicate 16 ⟨5, none, 1, 1, false, .text [[65]]⟩) labels
    copyCurrent 0 101 (onCopies 0 (fun _ => emptyCopies) s) = false
      ∧ (chan 0 (onChan 0 (fun c => { c with verdict := .notEligible .locked }) s)).verdict ≠ .eligible
      ∧ itemAt 0 (priced 0) = some { ham with refs := 1, price := 0 }
      ∧ (ctx 0 (after (.captureLineComplete 0) (priced 0))).message = some ⟨.noPrice, 200⟩
      ∧ 99999999 < (ticket 0 full).total + 2490 ∧ (ticket 0 full).state = .held
      ∧ (ticket 0 full).lines.length < 24
      ∧ (ctx 0 (after (.captureLineComplete 0) full)).message = some ⟨.ticketLimit, 200⟩
      ∧ (settings 0 busy).lineLabels = true ∧ 16 ≤ (queue (settings 0 busy).printer busy).length
      ∧ (ticket 0 busy).total + 2490 ≤ 99999999
      ∧ (ctx 0 (after (.captureLineComplete 0) busy)).message = some ⟨.printerBusy, 200⟩ := by decide +kernel
theorem witness_LineCaptureAppendsLine_errors :
    amountOf .weighed 0 10000 = .error .noPrice ∧ amountOf .counted 10000 1000 = .error .amountOver := ⟨rfl, rfl⟩
theorem witness_LabelCaptureQueuesPack :
    let s := ready .label none desk
    s.resetLow = false ∧ (ctx 0 s).request = some (request .label 101 none) ∧ (ctx 0 s).operator = some 0
      ∧ entryOf 101 (copies 0 s) = some (copyOfHam .current none) ∧ itemAt 0 s = some ham
      ∧ (chan 0 s).verdict = .eligible ∧ (queue 0 s).length < 16 := by decide +kernel
theorem witness_LabelCaptureQueuesPack_else :
    let s := ready .prepack none desk
    let busy := onQueue 0 (fun _ => List.replicate 16 ⟨5, none, 1, 1, false, .text [[65]]⟩) s
    (ctx 0 s).request = some (request .prepack 101 none) ∧ (ctx 0 s).operator = some 0
      ∧ copyCurrent 0 101 (onCopies 0 (fun _ => emptyCopies) s) = false
      ∧ (chan 0 (onChan 0 (fun c => { c with verdict := .notEligible .unstable }) s)).verdict ≠ .eligible
      ∧ 16 ≤ (queue (settings 0 busy).printer busy).length ∧ itemAt 0 busy = some ham
      ∧ entryOf 101 (copies 0 busy) = some (copyOfHam .current none)
      ∧ (ctx 0 (after (.captureLabelComplete 0) busy)).message = some ⟨.printerBusy, 200⟩ := by decide +kernel

/-! ### Hypotheses met: items -/

theorem witness_AddItemPlacesRecord :
    let f : RawItem := ⟨999999, [65], 1, none, none, 15, 3⟩
    Taking 1 (.addItem f 999999) (asked (.addItem f 999999) desk) ∧ (itemFieldsOf f).isSome
      ∧ findItem 999999 desk = none ∧ (∀ i ∈ desk.itb.items, i.index ≠ 3)
      ∧ (∀ j < 3, ∃ i ∈ desk.itb.items, i.index = j) ∧ findItem 101 desk ≠ none ∧ 999999 < 1000000 := by
  unfold Taking
  decide +kernel
/-- A full table. -/
theorem witness_AddItemPlacesRecord_full :
    ∀ k < 1024, ∃ i ∈ (List.range 1024).map (fun n => { ham with number := n + 1, index := n }), i.index = k := by
  intro k hk
  exact ⟨_, List.mem_map.mpr ⟨k, List.mem_range.mpr hk, rfl⟩, rfl⟩
theorem witness_AddItemPlacesRecord_bad :
    let f : RawItem := ⟨5, [], 1, none, none, 15, 3⟩
    itemFieldsOf f = none ∧ Taking 1 (.addItem f 1) (asked (.addItem f 1) desk)
      ∧ Taking 1 (.updateItem f) (asked (.updateItem f) desk) := by
  unfold Taking
  exact ⟨rfl, ⟨rfl, rfl⟩, rfl, rfl⟩
theorem witness_UpdateAndReinstateStaleCopies :
    let f : RawItem := ⟨101, [65], 1, some 10000, none, 15, 3⟩
    Taking 1 (.updateItem f) (asked (.updateItem f) desk) ∧ (itemFieldsOf f).isSome
      ∧ findItem 101 (asked (.updateItem f) desk) = some ham
      ∧ Taking 1 (.reinstateItem 303) (asked (.reinstateItem 303) desk)
      ∧ findItem 303 (asked (.reinstateItem 303) desk) = some brie ∧ brie.state = .withdrawn
      ∧ Taking 1 (.reinstateItem 101) (asked (.reinstateItem 101) desk) ∧ ham.state = .active := by
  unfold Taking
  decide +kernel
theorem witness_UpdateAndReinstateStaleCopies_refused :
    let f : RawItem := ⟨999999, [65], 1, some 10000, none, 15, 3⟩
    Taking 1 (.updateItem f) (asked (.updateItem f) desk) ∧ (itemFieldsOf f).isSome ∧ findItem f.number desk = none
      ∧ Taking 1 (.reinstateItem 0) (asked (.reinstateItem 0) desk)
      ∧ Taking 1 (.reinstateItem 1000000) (asked (.reinstateItem 1000000) desk)
      ∧ Taking 1 (.reinstateItem 1) (asked (.reinstateItem 1) desk) ∧ findItem 1 desk = none := by
  unfold Taking
  decide +kernel
theorem witness_PricesStagedAndCommitted :
    Taking 1 (.stagePrice 101 999999) (asked (.stagePrice 101 999999) desk)
      ∧ Taking 1 (.stagePrice 0 5) (asked (.stagePrice 0 5) desk)
      ∧ Taking 1 (.unstagePrice 101) (asked (.unstagePrice 101) desk)
      ∧ Taking 1 .commitPrices (asked .commitPrices desk)
      ∧ ∃ p, ({ ham with pending := some 2590 } : Item).pending = some p ∧ p ≠ ham.price := by
  unfold Taking
  refine ⟨by decide, by decide, by decide, by decide, 2590, rfl, by decide⟩
theorem witness_WithdrawRemovesFromSale :
    Taking 1 (.withdrawItem 101) (asked (.withdrawItem 101) serving)
      ∧ findItem 101 (asked (.withdrawItem 101) serving) = some { ham with refs := 1 }
      ∧ Taking 1 (.withdrawItem 202) (asked (.withdrawItem 202) serving)
      ∧ findItem 202 (asked (.withdrawItem 202) serving) = some roll ∧ roll.refs = 0 ∧ roll.acc = emptyAcc
      ∧ Taking 1 (.withdrawItem 303) (asked (.withdrawItem 303) serving)
      ∧ findItem 303 (asked (.withdrawItem 303) serving) = some brie := by
  unfold Taking
  decide +kernel
theorem witness_WithdrawRemovesFromSale_laws :
    Directory serving ∧ Places serving ∧ CopyLaw serving ∧ QueueLaw serving := by
  unfold Directory Places CopyLaw CopyListLaw QueueLaw
  decide +kernel

theorem witness_WithdrawRemovesFromSale_refused :
    Taking 1 (.withdrawItem 0) (asked (.withdrawItem 0) desk)
      ∧ Taking 1 (.withdrawItem 1000000) (asked (.withdrawItem 1000000) desk)
      ∧ Taking 1 (.withdrawItem 999999) (asked (.withdrawItem 999999) desk) ∧ findItem 999999 desk = none := by
  unfold Taking
  decide +kernel
/-- A PREPACK job of the roll, not folded yet. -/
def rollPack (tag : Tag) : Job :=
  ⟨tag, some 1, 1, 1, false, .prepack ⟨202, [72], .counted, 3, 50, 150, 0, none, none, none, 0⟩ ⟨1, 1, 3, 1, 0⟩⟩

/-- The counter while printer 0 is fed a pack of the roll and a text waits behind it, the watch armed and a STALE copy
of the roll alone in its way. -/
def feeding (k : PrinterState) (load : Option LoadPoint) : State :=
  let s := onPrinter 0 (fun c => { c with state := k, load := load })
    (onQueue 0 (fun _ => [rollPack 5, ⟨6, none, 1, 1, false, .text [[65]]⟩])
      (onCopies 0 (fun _ => ⟨[⟨4, 1, 202, 0, .stale, none⟩, copyOfHam .current none], []⟩) serving))
  { s with ccu := { s.ccu with armed := true } }

/-- The purge of an item whose pack is being fed: the copy removed and the watch met, the pack's chunks owed a DROP, the
text started. -/
theorem witness_WithdrawRemovesFromSale_feeding :
    let s := asked (.withdrawItem 202) (feeding .printing (some .done))
    let t := after .withdrawItem s
    Directory s ∧ Places s ∧ CopyLaw s ∧ QueueLaw s ∧ FeedLaw s ∧ Taking 1 (.withdrawItem 202) s
      ∧ findItem 202 s = some roll ∧ (queue 0 s).head? = some (rollPack 5) ∧ t.port.latched.inStep = true
      ∧ t.ccu.armed = false ∧ (copies 0 t).drops = [4] ∧ (printer 0 t).owedDrop = some 5
      ∧ (printer 0 t).state = .loading ∧ (printer 0 t).load = some (.chunk 0) ∧ (queue 0 t).length = 1
      ∧ (printer 0 (after .withdrawItem (asked (.withdrawItem 202) (feeding .loading (some (.chunk 0)))))).owedDrop
        = none := by
  unfold Directory Places CopyLaw CopyListLaw QueueLaw FeedLaw Taking
  decide +kernel

/-! ### Hypotheses met: settings and host tickets -/

theorem witness_ConfigurationStoredWithItsEffects :
    let f : RawHead := ⟨2, 1, 0, 20000, 0, .single 150000 5, 0, 0, 3000⟩
    let g : RawHead := ⟨2, 0, 0, 65536, 0, .single 150000 5, 0, 0, 0⟩
    let busy : RawHead := ⟨0, 1, 0, 20000, 0, .single 150000 5, 0, 0, 3000⟩
    let bad : RawHead := ⟨8, 1, 0, 20000, 0, .single 150000 5, 0, 0, 3000⟩
    Taking 1 (.configureHead f) (asked (.configureHead f) serving) ∧ (headSettingsOf f).isSome
      ∧ (ctx 2 serving).request = none ∧ (ctx 2 serving).held = none ∧ role 2 serving = .service
      ∧ Taking 1 (.configureHead g) (asked (.configureHead g) serving) ∧ (headSettingsOf g).isSome
      ∧ Taking 1 (.configureHead busy) (asked (.configureHead busy) serving) ∧ (headSettingsOf busy).isSome
      ∧ (ctx 0 serving).operator.isSome ∧ (ctx 0 serving).held.isSome
      ∧ Taking 1 (.configureHead bad) (asked (.configureHead bad) serving) ∧ headSettingsOf bad = none := by
  unfold Taking
  decide +kernel
theorem witness_ConfigurationStoredWithItsEffects_pair :
    let f : RawPair := ⟨3, 4, 3, 80, 2, 8⟩
    let same : RawPair := ⟨3, 8, 6, 20, 1, 4⟩
    let bad : RawPair := ⟨3, 5, 3, 80, 2, 8⟩
    Taking 1 (.configurePair f) (asked (.configurePair f) serving)
      ∧ pairSettingsOf f = some (3, ⟨4, 3, 80, .proportional, 8⟩)
      ∧ (⟨4, 3, 80, .proportional, 8⟩ : PairSettings) ≠ serving.wge.pairs.look 3
      ∧ Taking 1 (.configurePair same) (asked (.configurePair same) serving)
      ∧ pairSettingsOf same = some (3, serving.wge.pairs.look 3)
      ∧ Taking 1 (.configurePair bad) (asked (.configurePair bad) serving) ∧ pairSettingsOf bad = none := by
  unfold Taking
  decide +kernel
/-- A request pending at an ACTIVE head when its settings or its pair's restart the channel: it is examined, and
stands while the verdict is UNSTABLE. -/
theorem witness_ConfigurationStoredWithItsEffects_pending :
    let f : RawHead := ⟨0, 1, 0, 20000, 0, .single 150000 5, 0, 0, 3000⟩
    let g : RawPair := ⟨0, 4, 3, 80, 2, 8⟩
    let s := onCtx 0 (fun c => { c with autoHold := true }) (ready .label none desk)
    let x := asked (.configureHead f) s
    let y := asked (.configurePair g) s
    Taking 1 (.configureHead f) x ∧ (headSettingsOf f).map (·.1) = some 0 ∧ (ctx 0 x).held = none
      ∧ (headSettingsOf f).map (·.2.role) = some (settings 0 x).role
      ∧ (headSettingsOf f).map (·.2.span) ≠ some (settings 0 x).span ∧ (chan 0 x).state = .active
      ∧ (ctx 0 x).request.isSome ∧ (ctx 0 (after .configureHead x)).request.isSome
      ∧ (ctx 0 (after .configureHead x)).autoHold = false ∧ (chan 0 (after .configureHead x)).state = .settling
      ∧ Taking 1 (.configurePair g) y ∧ pairSettingsOf g = some (0, ⟨4, 3, 80, .proportional, 8⟩)
      ∧ (⟨4, 3, 80, .proportional, 8⟩ : PairSettings) ≠ y.wge.pairs.look 0 ∧ (0 : Head).val = 2 * (0 : PairIndex).val
      ∧ (1 : Head).val = 2 * (0 : PairIndex).val + 1 ∧ (chan 1 y).state ≠ .active
      ∧ (ctx 0 (after .configurePair y)).request.isSome ∧ (ctx 0 (after .configurePair y)).autoHold = false := by
  unfold Taking
  decide +kernel
theorem witness_SettingsCommandsStore :
    Taking 1 (.setNumberRange 1 999) (asked (.setNumberRange 1 999) State.reset)
      ∧ Taking 1 (.setNumberRange 5 5) (asked (.setNumberRange 5 5) desk)
      ∧ Taking 1 (.setNumberRange 1 2) (asked (.setNumberRange 1 2) desk)
      ∧ Taking 1 (.setSlots 2047) (asked (.setSlots 2047) desk)
      ∧ (∀ i : Slot, (Table.gen (n := 11) fun i => (2047 : Nat).testBit i.val).look i = (2047 : Nat).testBit i.val)
      ∧ Taking 1 (.setSlots 2048) (asked (.setSlots 2048) desk) ∧ Taking 1 .linkRestart (asked .linkRestart desk)
      ∧ Taking 1 (.readLink 1) (asked (.readLink 1) desk) ∧ Taking 1 (.setCollection 1) (asked (.setCollection 1) desk)
      ∧ Taking 1 (.setCollection 2) (asked (.setCollection 2) desk) := by
  unfold Taking
  decide +kernel
theorem witness_HostVoidsAndCollectsTickets :
    let void := fun s => asked (.voidTicket 1 1) s
    let collect := fun s => asked (.collectTicket 1 1) s
    Taking 1 (.voidTicket 49 0) (asked (.voidTicket 49 0) serving)
      ∧ Taking 1 (.collectTicket 1 256) (asked (.collectTicket 1 256) serving)
      ∧ Taking 1 (.voidTicket 1 1) (void serving) ∧ (ticket 0 (void serving)).state = .held
      ∧ (ticket 0 (void serving)).serial = 1 ∧ (ticket 0 (void (ticketIn .parked))).state = .parked
      ∧ (ticket 0 (void (ticketIn .closing))).state = .closing
      ∧ Taking 1 (.collectTicket 1 1) (collect (ticketIn .closed))
      ∧ (ticket 0 (collect (ticketIn .closed))).state = .closed ∧ (ticket 0 (collect serving)).state ≠ .closed
      ∧ (ticket 1 (asked (.voidTicket 2 0) serving)).state = .free := by
  unfold Taking
  decide +kernel

/-! ### Hypotheses met: the laws at an open counter -/

theorem serving_holders : HolderLaw serving := by
  refine ⟨by decide +kernel, by decide +kernel, fun h id hid => ?_⟩
  have key : ∀ h, (ctx h serving).held = if h = 0 then some ⟨0, 1⟩ else none := by decide +kernel
  rw [key] at hid
  split at hid
  · subst h
    cases hid
    decide +kernel
  · cases hid

theorem serving_refs : RefsLaw serving := by
  intro k
  have lines : ∀ t, (if openTicket (ticket t serving) then (ticket t serving).lines else [])
      = if t = 0 then [slice] else [] := by decide +kernel
  have count : openLines k serving = ((List.finRange 48).map fun t => (if t = 0 then [slice] else []).countP
      (fun l => l.index == k)).sum := by
    unfold openLines
    congr 2
    funext t
    rw [← lines t]
    split <;> rfl
  rw [count]
  by_cases h : k = 0
  · subst h
    decide +kernel
  · have none : (fun t : TicketSlot => (if t = 0 then [slice] else []).countP (fun l => l.index == k)) = fun _ => 0 := by
      funext t
      split
      · simp only [List.countP_cons, List.countP_nil, slice]
        have : ((0 : Nat) == k) = false := by simpa using fun e => h e.symm
        simp [this]
      · rfl
    rw [none]
    by_cases h1 : k = 1
    · subst h1
      decide +kernel
    · by_cases h2 : k = 2
      · subst h2
        decide +kernel
      · have : itemAt k serving = .none := by
          show ([{ ham with refs := 1 }, roll, brie].find? fun i => i.index == k) = .none
          simp [ham, roll, brie, Ne.symm h, Ne.symm h1, Ne.symm h2]
        rw [this]
        decide +kernel

/-- The open counter meets every law. -/
theorem serving_laws :
    ZeroLaw serving ∧ SignOnLaw serving ∧ MaskLaw serving ∧ PortLaw serving ∧ Directory serving ∧ Places serving
      ∧ PendingLaw serving ∧ CopyLaw serving ∧ QueueLaw serving ∧ TotalLaw serving ∧ FreeLaw serving
      ∧ QuietLaw serving ∧ NumberLaw serving ∧ LockLaw serving := by
  unfold LockLaw ZeroLaw SignOnLaw MaskLaw PortLaw Directory Places PendingLaw CopyLaw CopyListLaw QueueLaw TotalLaw TicketLaw
    FreeLaw QuietLaw NumberLaw
  decide +kernel

theorem serving_feedLaw : FeedLaw serving := by unfold FeedLaw; decide +kernel

/-- The counter with the ham withdrawn and a line of it left, and a STALE copy of the roll. -/
def withdrawn : State :=
  onCopies 0 (fun _ => ⟨[⟨0, 1, 202, 9, .stale, none⟩], []⟩)
    { serving with itb := ⟨[{ ham with refs := 1, state := .withdrawn }, roll], 0⟩ }

theorem withdrawn_laws : Directory withdrawn ∧ Places withdrawn ∧ CopyLaw withdrawn ∧ PurgeLaw withdrawn := by
  unfold Directory Places CopyLaw CopyListLaw PurgeLaw
  decide +kernel

theorem withdrawn_entries : EntryLaw withdrawn := by
  intro h e he
  have key : ∀ h, (copies h withdrawn).entries = if h = 0 then [⟨0, 1, 202, 9, .stale, none⟩] else [] := by
    decide +kernel
  rw [key] at he
  split at he
  · cases List.mem_singleton.mp he
    exact ⟨⟨roll, rfl, rfl, rfl, fun hs => absurd rfl hs⟩, fun a ha => nomatch ha⟩
  · cases he

/-- A LOCKED channel that an ACTIVE, stable sample of an empty scale arms. -/
theorem witness_StepKeepsZeroSignOnMaskAndPort_rearmed :
    let s := onChan 0 (fun c => { c with lock := .locked }) (settled 0 0 0 desk)
    (∃ t, step { s with pending := [.channelSample 0] } = .next t) ∧ (chan 0 s).lock = .locked
      ∧ (chan 0 (after (.channelSample 0) s)).lock = .armed := ⟨⟨_, rfl⟩, by decide +kernel⟩

theorem serving_packs : PacksLaw serving := by
  intro p j hj
  have : ∀ p, queue p serving = [] := by decide
  rw [this p] at hj
  cases hj

theorem serving_balance : BalanceLaw serving ∧ ItemBalanceLaw serving := by
  refine ⟨?_, ?_⟩
  · unfold BalanceLaw
    rw [if_neg (by decide)]
    intro _
    unfold GroupsBalanced accFields sumOver
    decide +kernel
  · unfold ItemBalanceLaw
    rw [if_neg (by decide)]
    intro _ _
    unfold accFields
    decide +kernel

theorem witness_StepKeeps : ∃ t, step { serving with pending := [.frameStart] } = .next t := ⟨_, rfl⟩

/-! ### Hypotheses met: frame starts, copies, labels -/

theorem witness_FrameStartsOfPoolAndCopies_idle :
    let s := onTicket 0 (fun t => { t with idle := 2999 })
      { serving with
        wge := { serving.wge with settings := serving.wge.settings.put 0 { inRole .service with idleLimit := 3000 } }
        hand := { serving.hand with tkp := 1 } }
    s.resetLow = false ∧ 0 < s.hand.tkp ∧ (ticket 0 s).holder = some 0 ∧ (settings 0 s).idleLimit ≠ 0
      ∧ (settings 0 s).idleLimit ≤ (ticket 0 s).idle + 1 := by decide +kernel
theorem witness_FrameStartsOfPoolAndCopies_copies :
    let s := fun (k : CopyState) (age : Option Nat) (v : Byte) => onInbox 0 (fun b => { b with acks := [⟨0, v⟩] })
      (onCopies 0 (fun _ => ⟨[copyOfHam k age], []⟩) { serving with hand := { serving.hand with ccu := 1 } })
    0 < (s .sending (some 9) 0).hand.ccu ∧ (inbox 0 (s .sending (some 9) 0)).acks = [⟨0, 0⟩]
      ∧ copyOfHam .sending (some 9) ∈ (copies 0 (s .sending (some 9) 0)).entries
      ∧ (∀ e ∈ (copies 0 (s .stale none 0)).entries, e.slot = 0 → e.state ≠ .sending ∨ e.age = none ∨ e.version ≠ 0)
      ∧ (ctx 0 (s .sending (some 9) 0)).request = none := by decide +kernel
/-- An acknowledgement for the item of the pending request. -/
theorem witness_FrameStartsOfPoolAndCopies_own :
    let s := onInbox 0 (fun b => { b with acks := [⟨0, 0⟩] }) (onCopies 0 (fun _ => ⟨[copyOfHam .sending (some 3)], []⟩)
      (ready .line (some ⟨0, 1⟩) { serving with ccu := { serving.ccu with armed := true } }))
    (inbox 0 s).acks = [⟨0, 0⟩] ∧ copyOfHam .sending (some 3) ∈ (copies 0 s).entries ∧ s.ccu.armed = true
      ∧ (ctx 0 s).request = some (request .line 101 (some ⟨0, 1⟩))
      ∧ (ticket 0 (after (.copyAck 0) s)).lines.length = 2 ∧ (ctx 0 (after (.copyAck 0) s)).request = none
      ∧ (after (.copyAck 0) s).port.latched.inStep = true := by decide +kernel
/-- Printer 0 with two jobs of the given tags, the first a ticket's summary. -/
def queued (k : PrinterState) (load : Option LoadPoint) : State :=
  onPrinter 0 (fun c => { c with state := k, load := load })
    (onQueue 0 (fun _ => [⟨5, some 0, 1, 1, false, .summary ⟨⟨0, 1⟩, 7, 1, 249, none⟩⟩, ⟨6, none, 16, 16, false, .text [[65]]⟩])
      (ticketIn .closing))

/-- Tags in use at the candidate and after it: queued, held in a buffer, owed a DROP. -/
theorem witness_PrinterCommandsMoveJobs_tags :
    let s := onPrinter 1 (fun c => { c with heldTag := some 7, owedDrop := some 8 })
      { queued .printing (some .done) with lbc := { (queued .printing (some .done)).lbc with candidate := 5 } }
    (∀ y < 4, tagInUse (s.lbc.candidate + BitVec.ofNat 8 y) s = true)
      ∧ tagInUse (s.lbc.candidate + BitVec.ofNat 8 4) s = false ∧ freshTag s = 9 := by decide +kernel
theorem queued_law : QueueLaw (queued .printing (some .done)) := by unfold QueueLaw; decide +kernel
theorem witness_PrinterCommandsMoveJobs :
    let s := queued .printing (some .done)
    Taking 1 (.printText 1 16 [[32, 126]]) (asked (.printText 1 16 [[32, 126]]) s) ∧ (queue 1 s).length < 16
      ∧ (queue 0 (onQueue 0 (fun _ => List.replicate 16 ⟨5, none, 1, 1, false, .text [[65]]⟩) s)).length = 16
      ∧ Taking 1 (.printText 2 1 [[32]]) (asked (.printText 2 1 [[32]]) s)
      ∧ Taking 1 (.printText 0 1 [[127]]) (asked (.printText 0 1 [[127]]) s)
      ∧ Taking 1 (.cancelJob 256) (asked (.cancelJob 256) s)
      ∧ Taking 1 (.redirectJobs 1 1) (asked (.redirectJobs 1 1) s)
      ∧ Taking 1 (.cancelJob 7) (asked (.cancelJob 7) s) ∧ (7 : Tag) ∉ queuedTags s
      ∧ Taking 1 (.cancelJob 5) (asked (.cancelJob 5) s)
      ∧ (queue 0 s).head?.map (·.tag) = some 5 ∧ (ticket 0 s).state = .closing
      ∧ Taking 1 (.redirectJobs 0 1) (asked (.redirectJobs 0 1) s) := by
  unfold Taking
  decide +kernel

/-! ### Hypotheses met: totals and the day -/

theorem witness_FoldsReachFiveAccumulators :
    itemAt 0 serving = some { ham with refs := 1 }
      ∧ (foldSale .weighed 1000 249 { emptyAcc with lines := 4294967295 }).1
        = { emptyAcc with lines := 4294967295, weight := 1000, amount := 249, saturated := true }
      ∧ (foldVoid 1 { emptyAcc with voidAmount := 281474976710654 }).2 = false := by decide +kernel
theorem witness_DayOpensAndCloses :
    Taking 1 (.openDay 2099 2 29) (asked (.openDay 2099 2 29) State.reset) ∧ monthDays 2099 2 < 29
      ∧ Taking 1 (.openDay 2096 2 29) (asked (.openDay 2096 2 29) State.reset) ∧ 29 ≤ monthDays 2096 2
      ∧ State.reset.tot.day = .closed ∧ desk.tot.day ≠ .closed
      ∧ Taking 1 .closeDay (asked .closeDay desk) ∧ desk.tot.day = .opened
      ∧ countTickets .held desk + countTickets .parked desk + countTickets .closing desk = 0
      ∧ countTickets .held serving ≠ 0 ∧ queue 0 desk ++ queue 1 desk = [] := by
  unfold Taking
  decide +kernel
/-- The desk in DAY_CLOSING with the ham's accumulator left. -/
def closing : State :=
  { desk with
    itb := ⟨[{ ham with acc := { emptyAcc with lines := 1 } }, roll], 0⟩
    tot := { desk.tot with day := .closing, cursor := some .start } }

theorem drain_first_item :
    accAt (.item 101) closing ≠ emptyAcc ∧ ∀ b, accAt b closing ≠ emptyAcc → drainRank (.item 101) ≤ drainRank b := by
  refine ⟨by decide +kernel, fun b hb => ?_⟩
  cases b with
  | grand => exact absurd rfl hb
  | head h => exact absurd (by revert h; decide) hb
  | operator n => exact absurd (by revert n; decide) hb
  | department d => exact absurd (by revert d; decide) hb
  | item n =>
    by_cases h1 : n = 101
    · subst h1
      exact Nat.le_refl _
    · refine absurd ?_ hb
      show ((findItem n closing).map (·.acc)).getD emptyAcc = emptyAcc
      by_cases h2 : n = 202
      · subst h2
        decide +kernel
      · have : findItem n closing = none := by
          show (closing.itb.items.find? fun i => i.number == n) = none
          simp [closing, ham, roll, Ne.symm h1, Ne.symm h2]
        rw [this]
        rfl
theorem witness_TotalsAreReadAndDrained :
    Taking 1 (.readTotals 4) (asked (.readTotals 4) serving) ∧ Taking 1 (.readTotals 5) (asked (.readTotals 5) serving)
      ∧ Taking 1 (.readClosing 0) (asked (.readClosing 0) closing) ∧ Directory closing ∧ Places closing
      ∧ Taking 1 (.readClosing 1) (asked (.readClosing 1) closing) ∧ closing.tot.lastEntry = none
      ∧ Taking 1 (.readClosing 2) (asked (.readClosing 2) closing) ∧ cursorRank closing.tot.cursor < drainRank .grand
      ∧ desk.tot.day ≠ .closing := by
  unfold Taking Directory Places
  decide +kernel
/-- The drain of two item accumulators in a night: one record kept, one purged. -/
theorem witness_TotalsAreReadAndDrained_items :
    let sold : Acc := { emptyAcc with lines := 1, amount := 249 }
    let s := { closing with
      itb := ⟨[{ ham with acc := sold }, { brie with acc := sold }], 0⟩
      tot := { closing.tot with grand := emptyAcc, cursor := some (.after .grand) }
      tkp := powerOnTkp }
    let t := after .readClosing (asked (.readClosing 0) s)
    Directory s ∧ Places s ∧ QuietLaw s ∧ accAt (.item 101) s = sold ∧ t.itb.items.map (·.number) = [101, 303]
      ∧ accAt (.item 101) t = emptyAcc ∧ t.tot.hold = s.tot.hold ∧ t.tot.day = .closing
      ∧ (after .readClosing (asked (.readClosing 0) t)).itb.items = [ham] := by
  unfold Directory Places QuietLaw
  decide +kernel
theorem witness_TotalsAreReadAndDrained_end (a : AccKey) : accAt a State.reset = emptyAcc := by
  cases a with
  | grand => rfl
  | head h => revert h; decide
  | operator n => revert n; decide
  | department d => revert d; decide
  | item n => rfl

/-! ### Hypotheses met: the link -/

theorem witness_FrameStartTakesPendingChanges :
    let s := { counter with lnk := { counter.lnk with
      slots := counter.lnk.slots.put 3 ⟨.joining, 49, 0, 0⟩
      pendingMask := some ((Table.const 11 true).put 0 false), restart := true } }
    s.resetLow = false ∧ s.lnk.pendingMask.isSome ∧ s.lnk.restart = true ∧ presence 3 s = .joining
      ∧ 50 ≤ (slotLink 3 s).joinWait + 1 ∧ s.lnk.mask.look 0 = true
      ∧ ((Table.const 11 true).put 0 false).look 0 = false ∧ onLink 0 s = true
      ∧ ((Table.const 11 true).put 0 false).look 1 = s.lnk.mask.look 1
      ∧ counter.lnk.pendingMask = none ∧ counter.lnk.restart = false := by decide +kernel
theorem witness_FrameStartTakesPendingChanges_on :
    let s := { counter with lnk := { counter.lnk with
      mask := (Table.const 11 true).put 4 false
      slots := counter.lnk.slots.put 4 ⟨.disabled, 0, 0, 0⟩
      pendingMask := some (Table.const 11 true) } }
    s.lnk.mask.look 4 = false ∧ (Table.const 11 true).look (4 : Slot) = true ∧ presence 4 s = .disabled := by
  decide +kernel
/-- A frame start that takes a mask and a restart: the slots' results, and the numbers of the heads that both lose. -/
theorem witness_FrameStartTakesPendingChanges_both :
    let s := onCtx 0 (fun c => { c with nowServing := some 7 }) (onCtx 1 (fun c => { c with nowServing := some 9 })
      { desk with lnk := { desk.lnk with
        pendingMask := some (((Table.const 11 true).put 0 false).put 5 false), restart := true } })
    onLink 0 s = true ∧ onLink 1 s = true ∧ presence 5 s = .absent ∧ (ctx 0 s).operator.isSome
      ∧ (after .frameStart s).snu.waiting = [⟨9, false⟩, ⟨7, false⟩]
      ∧ presence 0 (after .frameStart s) = .disabled ∧ presence 1 (after .frameStart s) = .absent
      ∧ presence 5 (after .frameStart s) = .disabled := by decide +kernel
/-- The loss of the only head out of step, by a mask, by a restart and by both, meets the armed watch; nothing pending
changes nothing. -/
theorem witness_FrameStartTakesPendingChanges_watch :
    let s := onCopies 0 (fun _ => ⟨[copyOfHam .stale none], []⟩) { desk with ccu := { desk.ccu with armed := true } }
    let mask := { s with lnk := { s.lnk with pendingMask := some ((Table.const 11 true).put 0 false) } }
    let restart := { s with lnk := { s.lnk with restart := true } }
    (after .slotMaskTakesEffect mask).port.latched.inStep = true ∧ (after .slotMaskTakesEffect mask).ccu.armed = false
      ∧ ctx 1 (after .slotMaskTakesEffect mask) = ctx 1 s ∧ (ctx 0 (after .slotMaskTakesEffect mask)).operator = none
      ∧ (after .linkRestartTakesEffect restart).port.latched.inStep = true
      ∧ (after .frameStart mask).port.latched.inStep = true ∧ s.lnk.pendingMask = none ∧ s.lnk.restart = false
      ∧ presence 0 s ≠ .joining := by decide +kernel
theorem witness_DownstreamPartsSend :
    let s := onCopies 0 (fun _ => ⟨[copyOfHam .sending none], []⟩) desk
    let d := onCopies 0 (fun _ => ⟨[], [3, 7]⟩) desk
    s.resetLow = false ∧ onLink (headSlot 0) s = true ∧ (headLink 0 s).refresh = false ∧ (copies 0 s).drops = []
      ∧ (ctx 0 s).request = none ∧ (∀ x ∈ (copies 0 s).entries, x.state ≠ .stale) ∧ itemAt 0 s = some ham ∧ (copies 0 d).drops = 3 :: [7]
      ∧ (copies 1 s).entries = [] ∧ onLink (headSlot 3) s = false
      ∧ presence 3 (onSlot 3 (fun _ => ⟨.joining, 0, 0, 0⟩) desk) = .joining
      ∧ (headLink 0 (onHeadLink 0 (fun l => { l with refresh := true }) desk)).refresh = true
      ∧ onLink (printerSlot 0) s = true ∧ onLink (printerSlot 1) s = false ∧ onLink dispenserSlot s = true
      ∧ CopyListLaw (copies 0 s) := by
  unfold CopyListLaw
  decide +kernel
theorem witness_DownstreamPartsSend_printer :
    (printer 0 (onPrinter 0 (fun c => { c with credit := 1 }) (queued .loading (some (.chunk 0))))).credit = 1
      ∧ (chunkParts (.summary ⟨⟨0, 1⟩, 7, 1, 249, none⟩)).length = 5
      ∧ (printer 0 (queued .printing (some .done))).owedDrop = none := by decide +kernel
/-- The ranks of R78: the request's item before a STALE entry, a STALE entry before one that is due again. -/
theorem witness_DownstreamPartsSend_ranks :
    let stale : CopyEntry := ⟨1, 1, 202, 0, .stale, none⟩
    let again : CopyEntry := { copyOfHam .sending (some 10) with slot := 2 }
    let s := onCopies 0 (fun _ => ⟨[again, stale], []⟩) desk
    let asks := onCtx 0 (fun c => { c with request := some (request .label 101 none) }) s
    CopyListLaw (copies 0 s) ∧ (copies 0 s).entries = [again] ++ stale :: [] ∧ (∀ x ∈ [again], x.state ≠ .stale)
      ∧ itemAt 1 s = some roll ∧ itemAt 0 s = some ham
      ∧ (copies 0 asks).entries = [] ++ again :: [stale] ∧ (ctx 0 asks).request.isSome
      ∧ (copies 0 (after (.headUpdate 0) s)).entries.map (·.age) = [some 10, some 0]
      ∧ (copies 0 (after (.headUpdate 0) asks)).entries.map (·.age) = [some 0, none] := by
  unfold CopyListLaw
  decide +kernel
theorem witness_UpstreamRoundTrip :
    slotClass 7 = .head ∧ slotClass 8 = .printer ∧ slotClass 10 = .dispenser
      ∧ judge 7 (writeUpstream (.head ⟨-8388608, some ⟨255, 16777215, 15⟩, some ⟨255, 255⟩⟩))
        = .good (.head ⟨-8388608, some ⟨255, 16777215, 15⟩, some ⟨255, 255⟩⟩)
      ∧ judge 9 (writeUpstream (.printer ⟨8, .paperOut, some 255, 16⟩)) = .good (.printer ⟨8, .paperOut, some 255, 16⟩) := by
  decide +kernel
theorem witness_HeadReportHandsItsParts :
    judge (headSlot 0) (writeHeadReport ⟨5, some ⟨3, 999999, 0⟩, some ⟨15, 1⟩⟩)
        = .good (.head ⟨5, some ⟨3, 999999, 0⟩, some ⟨15, 1⟩⟩)
      ∧ judge (headSlot 0) (writeHeadReport ⟨5, some ⟨19, 0, 0⟩, some ⟨16, 1⟩⟩)
        = .good (.head ⟨5, some ⟨19, 0, 0⟩, some ⟨16, 1⟩⟩)
      ∧ presence (headSlot 0) desk = .online ∧ presence (headSlot 5) desk = .absent := by decide +kernel
theorem witness_UpstreamMovesPresence :
    judge 3 (writeJoin .head) = .good (.join (slotClass 3)) ∧ presence 3 desk = .absent ∧ (ctx 3 desk).request = none
      ∧ judge 9 (writeJoin .printer) = .good (.join (slotClass 9)) ∧ presence 9 desk = .absent
      ∧ judge 0 (writeJoin .head) = .good (.join (slotClass 0)) ∧ onLink 0 desk = true
      ∧ judge 10 (writeJoin .dispenser) = .good (.join (slotClass 10)) ∧ slotClass 10 ≠ .printer
      ∧ judge 10 (writeJoin .printer) = .good (.join .printer) ∧ judge 0 [1] = .badCrc
      ∧ presence 5 (onSlot 5 (fun l => { l with presence := .disabled }) desk) = .disabled
      ∧ (slotLink 0 (onSlot 0 (fun _ => ⟨.silent, 0, 18, 0⟩) desk)).misses + 1 < (pairSettings 0 desk).silence
      ∧ (pairSettings 0 desk).silence ≤ (slotLink 0 (onSlot 0 (fun _ => ⟨.silent, 0, 19, 0⟩) desk)).misses + 1 := by
  decide +kernel
/-- The loss of a head that serves: its ticket parked, its number in front, its operator signed on nowhere. -/
theorem witness_UpstreamMovesPresence_loss :
    let s := onCtx 0 (fun c => { c with nowServing := some 9 })
      (onSlot 0 (fun _ => ⟨.silent, 0, 19, 0⟩) serving)
    let t := after (.silenceLoss 0) s
    (ctx 0 s).operator = some 0 ∧ (ctx 0 s).held = some ⟨0, 1⟩ ∧ (ticket 0 t).state = .parked
      ∧ t.snu.waiting = [⟨9, false⟩] ∧ signedOnAt 0 t = none := by decide +kernel
theorem witness_UpstreamMovesPresence_empty :
    judge 0 [] = .malformed ∧ presence 0 desk = .online
      ∧ (slotLink 0 (after (.upstreamRejected 0 []) desk)).errors = 1 := by decide +kernel
theorem witness_PrinterReportTakenInOrder :
    judge (printerSlot 0) (writePrinterReport ⟨2, .ready, some 5, 1⟩) = .good (.printer ⟨2, .ready, some 5, 1⟩)
      ∧ judge (printerSlot 0) (writePrinterReport ⟨0, .paperOut, none, 0⟩) = .good (.printer ⟨0, .paperOut, none, 0⟩)
      ∧ onLink (printerSlot 0) (queued .printing (some .done)) = true
      ∧ (printer 0 (queued .printing (some .done))).state ≠ .offline
      ∧ (printer 0 (queued .printing (some .done))).load = some .done
      ∧ (printer 0 (queued .printing (some .done))).printed < 1
      ∧ (printer 0 desk).state = .offline ∧ presence (printerSlot 1) desk = .absent
      ∧ presence (printerSlot 0) (onSlot (printerSlot 0) (fun _ => ⟨.joining, 0, 0, 0⟩) desk) = .joining := by
  decide +kernel
theorem witness_DispenserReportTakesPresses :
    judge dispenserSlot (writeDispenserReport 4) = .good (.dispenser 4) ∧ presence dispenserSlot desk = .online
      ∧ desk.snu.counter = none
      ∧ (onSnu (fun u => { u with counter := some 255 }) desk).snu.counter = some 255
      ∧ (256 + (4 : Byte).toNat - (255 : Byte).toNat) % 256 = 5
      ∧ presence dispenserSlot (onSlot dispenserSlot (fun l => { l with presence := .absent }) desk) = .absent := by
  decide +kernel

end Sys2Proof.Tests
end

section
/-! SUPPORT. How the row of a host command that leaves its state alone ends, and the settlements of the reading
commands, the reset values, rounding, amounts and verdicts. -/

namespace Sys2Proof.Machine

/-! ### Indices read from numbers -/

@[simp] theorem index?_val {k : Nat} (i : Fin k) : index? k i.val = some i := by simp [index?]

theorem index?_none {k n : Nat} (h : k ≤ n) : index? k n = none := by simp [index?, h]

@[simp] theorem ticketSlotOf_succ (t : TicketSlot) : ticketSlotOf (t.val + 1) = some t := by simp [ticketSlotOf]

theorem ticketSlotOf_none {n : Nat} (h : n = 0 ∨ 48 < n) : ticketSlotOf n = none := by
  unfold ticketSlotOf
  split
  · rfl
  · exact index?_none (by omega)

/-! ### The answer of a row that takes its command (R199) -/

/-- A placed answer is `answered` but for the past views of the port. -/
theorem sameBehind_place (p : InProcess) (a : Answer) :
    SameBehind (place p a) (answered p.serial p.cmd a.status a.reply a.state) := rfl

/-- A row that takes its command leaves its owner's answer, behind the displays. -/
theorem takes_owner_sameBehind {pick : HostCmd → Option (State → Answer)} {n : Byte} {c : HostCmd} {s u : State}
    {f : State → Answer} {status : Status} {reply : Reply} (h : Taking n c s) (hp : pick c = some f)
    (hf : f s = ⟨status, reply, u⟩) :
    ∃ t, takes (owner pick) s = .next t ∧ SameBehind t (answered n c status reply u) := by
  obtain ⟨hr, hip⟩ := h
  obtain ⟨t, ht, hb⟩ := takes_high_behind (owner pick) hr
  refine ⟨t, ht, hb.trans ?_⟩
  rw [owner_some hip hp, hf]
  exact sameBehind_place ⟨n, c⟩ ⟨status, reply, u⟩

/-- A row whose owner leaves the state alone answers and does nothing else: no display is composed, and the view in
which RDY was low is a past one. -/
theorem takes_owner_unchanged {pick : HostCmd → Option (State → Answer)} {n : Byte} {c : HostCmd} {s : State}
    {f : State → Answer} {status : Status} {reply : Reply} (h : Taking n c s) (hp : pick c = some f)
    (hf : f s = ⟨status, reply, s⟩) : takes (owner pick) s = .next (answered n c status reply s) := by
  obtain ⟨hr, hip⟩ := h
  have changed : portView (place ⟨n, c⟩ ⟨status, reply, s⟩) ≠ portView s := by
    simp [portView, rdy, place, hip, hr]
  have settled : settle s (place ⟨n, c⟩ ⟨status, reply, s⟩) = place ⟨n, c⟩ ⟨status, reply, s⟩ :=
    settle_eq_self_of_blocks rfl rfl rfl rfl rfl
  rw [takes_high _ hr, owner_some hip hp, hf, settled, noted, if_neg changed]
  rfl

/-! ### What each reading command answers -/

theorem readHead_val (h : Head) (s : State) : readHead h.val s = ⟨.done,
    .head ⟨service h s, ctx h s, display h s, settings h s, pairSettings h s, (chan h s).state, (chan h s).zero,
      (chan h s).manual, (chan h s).offer, (chan h s).lock, (chan h s).window.length, (chan h s).history.length,
      (chan h s).last⟩, s⟩ := by
  simp [readHead, done]

theorem readHead_bad {k : Nat} (s : State) (h : 8 ≤ k) : readHead k s = ⟨.badValue, .empty, s⟩ := by
  simp [readHead, refuse, index?_none h]

theorem readLink_bad {k : Nat} (s : State) (h : 2 ≤ k) : readLink k s = ⟨.badValue, .empty, s⟩ := by
  match k, h with
  | k + 2, _ => rfl

theorem readCopies_val (h : Head) (s : State) : readCopies h.val s = ⟨.done,
    .copies ⟨(copies h s).entries, (copies h s).drops, (copies h s).entries.all (fun e => e.state == .current),
      s.ccu.armed⟩, s⟩ := by
  simp [readCopies, done, inStep]

theorem readCopies_bad {k : Nat} (s : State) (h : 8 ≤ k) : readCopies k s = ⟨.badValue, .empty, s⟩ := by
  simp [readCopies, refuse, index?_none h]

theorem readPrinter_val (p : Printer) (s : State) : readPrinter p.val s = ⟨.done,
    .printer ⟨printer p s, queue p s, s.lbc.candidate, s.lbc.date⟩, s⟩ := by
  simp [readPrinter, done]

theorem readPrinter_bad {k : Nat} (s : State) (h : 2 ≤ k) : readPrinter k s = ⟨.badValue, .empty, s⟩ := by
  simp [readPrinter, refuse, index?_none h]

theorem numberGood_iff (k : Nat) : numberGood k = true ↔ 1 ≤ k ∧ k ≤ 999999 := by
  rw [numberGood, Bool.and_eq_true, decide_eq_true_iff, decide_eq_true_iff]
  rfl

theorem findItemCommand_found {k : Nat} {i : Item} {s : State} (hk : 1 ≤ k ∧ k ≤ 999999) (hi : findItem k s = some i) :
    findItemCommand k s = ⟨.done, .item i s.itb.items.length s.itb.generation, s⟩ := by
  simp [findItemCommand, named, (numberGood_iff k).2 hk, hi, done, itemReply]

theorem findItemCommand_missing {k : Nat} {s : State} (hk : 1 ≤ k ∧ k ≤ 999999) (hi : findItem k s = none) :
    findItemCommand k s = ⟨.notFound, .empty, s⟩ := by
  simp [findItemCommand, named, (numberGood_iff k).2 hk, hi, refuse]

theorem findItemCommand_bad {k : Nat} (s : State) (hk : k = 0 ∨ 999999 < k) :
    findItemCommand k s = ⟨.badValue, .empty, s⟩ := by
  have bad : numberGood k = false := by
    rw [Bool.eq_false_iff, Ne, numberGood_iff]
    omega
  simp [findItemCommand, named, bad, refuse]

theorem nextItemCommand_bad {k : Nat} (s : State) (hk : 999999 < k) : nextItemCommand k s = ⟨.badValue, .empty, s⟩ := by
  simp [nextItemCommand, Config.itemNumberLimit, hk, refuse]

theorem readTicket_found {k : TicketSlot} {u : Byte} {s : State} (hf : (ticket k s).state ≠ .free)
    (hu : (ticket k s).serial = u) : readTicket (k.val + 1) u.toNat s = ⟨.done, .ticket (ticket k s), s⟩ := by
  have le : ¬255 < u.toNat := by have := u.isLt; omega
  simp [readTicket, onNamed, le, hf, hu, done]

theorem readTicket_missing {k u : Nat} {m : TicketSlot} {s : State} (hk : k = m.val + 1) (hu : u ≤ 255)
    (hm : (ticket m s).state = .free ∨ (ticket m s).serial.toNat ≠ u) :
    readTicket k u s = ⟨.notFound, .empty, s⟩ := by
  subst hk
  simp [readTicket, onNamed, hu, hm, refuse]

theorem readTicket_bad {k u : Nat} (s : State) (h : k = 0 ∨ 48 < k ∨ 255 < u) :
    readTicket k u s = ⟨.badValue, .empty, s⟩ := by
  by_cases hk : k = 0 ∨ 48 < k
  · simp [readTicket, onNamed, ticketSlotOf_none hk, refuse]
  · have hu : 255 < u := by omega
    simp only [readTicket, onNamed, refuse, if_pos hu]
    split <;> rfl

theorem readHold_page {k : Nat} {hold : Hold} {s : State} (hh : s.tot.hold = some hold)
    (hk : k < max 1 ((hold.entries.length + 15) / 16)) : readHold k s = ⟨.done, .page hold.serial hold.group
      (max 1 ((hold.entries.length + 15) / 16)) ((hold.entries.drop (16 * k)).take 16), s⟩ := by
  have lt : k < pageCount hold.entries.length := hk
  simp only [readHold, hh, if_pos lt, done, pageOf, Config.pageEntries, Nat.mul_comm k]
  rfl

theorem readHold_bad {k : Nat} {hold : Hold} {s : State} (hh : s.tot.hold = some hold)
    (hk : max 1 ((hold.entries.length + 15) / 16) ≤ k) : readHold k s = ⟨.badValue, .empty, s⟩ := by
  have ge : ¬k < pageCount hold.entries.length := Nat.not_lt.2 hk
  simp only [readHold, hh, if_neg ge, refuse]

theorem readHold_none {k : Nat} {s : State} (hh : s.tot.hold = none) : readHold k s = ⟨.notFound, .empty, s⟩ := by
  simp [readHold, hh, refuse]

theorem readClosing_repeat {e : DrainEntry} {s : State} (hd : s.tot.day = .closing) (he : s.tot.lastEntry = some e) :
    readClosing 1 s = ⟨.done, .drained e, s⟩ := by
  simp [readClosing, drainRepeat, hd, he, done]

/-- Settles O12: every case is a row whose owner leaves the state alone. -/
theorem readingCommandsChangeNothing : Obligations.ReadingCommandsChangeNothing := by
  intro n s
  refine ⟨fun h ht => takes_owner_unchanged ht rfl (readHead_val h s),
    fun ht => takes_owner_unchanged ht rfl rfl,
    fun k i ht h1 h2 hi => takes_owner_unchanged ht rfl (findItemCommand_found ⟨h1, h2⟩ hi),
    fun h ht => takes_owner_unchanged ht rfl (readCopies_val h s),
    fun ht => ⟨Table.gen fun h => (ctx h s).nowServing, fun h => Table.look_gen _ h,
      takes_owner_unchanged ht rfl rfl⟩,
    fun k u ht hf hu => takes_owner_unchanged ht rfl (readTicket_found hf hu),
    fun p ht => takes_owner_unchanged ht rfl (readPrinter_val p s),
    fun k hold ht hh hk => takes_owner_unchanged ht rfl (readHold_page hh hk),
    fun e ht hd he => takes_owner_unchanged ht rfl (readClosing_repeat hd he),
    fun k u => ⟨fun ht hk => takes_owner_unchanged ht rfl (readHead_bad s hk),
      fun ht hk => takes_owner_unchanged ht rfl (readLink_bad s hk),
      fun ht hk => takes_owner_unchanged ht rfl (findItemCommand_bad s hk),
      fun ht h1 h2 hi => takes_owner_unchanged ht rfl (findItemCommand_missing ⟨h1, h2⟩ hi),
      fun ht hk => takes_owner_unchanged ht rfl (nextItemCommand_bad s hk),
      fun ht hk => takes_owner_unchanged ht rfl (readCopies_bad s hk),
      fun ht hk => takes_owner_unchanged ht rfl (readTicket_bad s hk),
      fun m ht hk hu hm => takes_owner_unchanged ht rfl (readTicket_missing hk hu hm),
      fun ht hk => takes_owner_unchanged ht rfl (readPrinter_bad s hk),
      fun ht hh => takes_owner_unchanged ht rfl (readHold_none hh),
      fun hold ht hh hk => takes_owner_unchanged ht rfl (readHold_bad hh hk)⟩⟩

/-! ### Reset values -/

/-- Settles O5: the state after a power-on is written out, and every value is read from it. -/
theorem powerOnValues : Obligations.PowerOnValues := by
  intro s
  refine ⟨_, rfl, rfl, rfl, ?_⟩
  have noLatched : anyLatched noFlags = false := by decide +kernel
  simp [State.reset, powerOnWge, powerOnPair, powerOnSettings, settings, chan, idleChannel, ctx, powerOnHsu, offCtx,
    signedOnAt, powerOnItb, copies, powerOnCcu, emptyCopies, powerOnSnu, ticket, powerOnTkp, freeTicket, queue,
    printer, powerOnLbc, offlinePrinter, powerOnTot, powerOnLnk, slotLink, resetSlot, headLink, resetHeadLink,
    powerOnPort, noLatched]

/-! ### Rounding (00_scope.md section 4.2) -/

/-- The quotient of `roundAway` brings a numerator within half a divisor, and above it at a tie. -/
theorem roundQuotient_near (a den : Nat) (hd : 0 < den) :
    2 * a ≤ 2 * ((2 * a + den) / (2 * den) * den) + den ∧ 2 * ((2 * a + den) / (2 * den) * den) ≤ 2 * a + den
      ∧ 2 * a ≠ 2 * ((2 * a + den) / (2 * den) * den) + den := by
  have split := Nat.div_add_mod (2 * a + den) (2 * den)
  have small := Nat.mod_lt (2 * a + den) (Nat.mul_pos two_pos hd)
  have assoc : 2 * den * ((2 * a + den) / (2 * den)) = 2 * ((2 * a + den) / (2 * den) * den) := by ring
  omega

theorem roundAway_mul (num : Int) (den : Nat) : roundAway num den * den
    = if num < 0 then -(((2 * num.natAbs + den) / (2 * den) * den : Nat) : Int)
      else (((2 * num.natAbs + den) / (2 * den) * den : Nat) : Int) := by
  unfold roundAway
  split <;> simp

/-- Settles O15: on the quotient's bounds, for either sign of the numerator. -/
theorem roundsHalfAwayFromZero : Obligations.RoundsHalfAwayFromZero := by
  intro num den hd
  have near := roundQuotient_near num.natAbs den hd
  rw [roundAway_mul]
  generalize (2 * num.natAbs + den) / (2 * den) * den = m at near ⊢
  split <;> omega

/-! ### Amounts (R27) -/

/-- Settles O20: the amount of a sale mode, judged by the price and then by the limit. -/
theorem amountFollowsPriceFormula : Obligations.AmountFollowsPriceFormula := by
  intro mode price quantity a ha
  have judged : amountOf mode price quantity
      = if price = 0 then .error .noPrice else if 9999999 < a then .error .amountOver else .ok a := by
    subst ha
    cases mode <;> rfl
  exact ⟨fun h0 => by rw [judged, if_pos h0], fun h0 above => by simp [judged, h0, above],
    fun h0 within => by rw [judged, if_neg h0, if_neg (Nat.not_lt.2 within)]⟩

/-! ### The result of an ACTIVE sample (R17 to R21) -/

theorem isOver_iff (sc : ScaleType) (gross : Int) :
    isOver sc gross = true ↔ (maxTop sc : Int) + 9 * divTop sc < gross := by
  simp [isOver]

theorem isUnder_iff (sc : ScaleType) (gross : Int) : isUnder sc gross = true ↔ gross < -(20 * divSmall sc : Int) := by
  simp [isUnder]

/-- The shown weight is absent exactly where OVER or UNDER is set. -/
theorem activeResult_shown (cfg : HeadSettings) (lock : Lock) (stable : Bool) (tare : Option Tare) (gross : Int) :
    (activeResult cfg lock stable tare gross).shown = none
      ↔ isOver cfg.scale gross = true ∨ isUnder cfg.scale gross = true := by
  simp only [activeResult]
  split <;> simp_all

/-- A shown weight is the net to the nearest division. -/
theorem activeResult_shown_some {cfg : HeadSettings} {lock : Lock} {stable : Bool} {tare : Option Tare}
    {gross net w : Int} {d : Nat} (hn : (activeResult cfg lock stable tare gross).net = some net)
    (hd : (activeResult cfg lock stable tare gross).division = some d)
    (hw : (activeResult cfg lock stable tare gross).shown = some w) : w = roundAway net d * d := by
  simp only [activeResult, Option.some.injEq] at hn hd hw
  split at hw
  · cases hw
  · subst hn hd
    exact (Option.some.inj hw).symm

/-- What R21 says of the two conditions on the weight of a stable sample. -/
theorem verdictOf_stable (sc : ScaleType) (lock : Lock) (gross : Int) (shown : Option Int) :
    (isOver sc gross = true ∨ (maxTop sc : Int) < gross →
        verdictOf sc lock true gross shown = .notEligible .overCap)
      ∧ (¬(isOver sc gross = true ∨ (maxTop sc : Int) < gross) →
        ((shown = none ∨ ∃ w, shown = some w ∧ w < 20 * divSmall sc) →
          verdictOf sc lock true gross shown = .notEligible .belowMin)
        ∧ (¬(shown = none ∨ ∃ w, shown = some w ∧ w < 20 * divSmall sc) →
          verdictOf sc lock true gross shown = match lock with
            | .locked => .notEligible .locked
            | .armed => .eligible)) := by
  refine ⟨fun heavy => by simp [verdictOf, heavy], fun within => ?_⟩
  simp only [verdictOf, Bool.not_true, Bool.false_eq_true, if_false, Bool.or_eq_true, decide_eq_true_eq, if_neg within]
  cases shown with
  | none => simp
  | some w =>
    by_cases low : w < 20 * (divSmall sc : Int)
    · simp [low]
    · cases lock <;> simp [low]

/-- Settles O19: net, division and indicators are fields of the result, and the verdict is taken apart by `verdictOf_stable`. -/
theorem verdictNamesFirstFailure : Obligations.VerdictNamesFirstFailure := by
  rintro cfg lock stable tare gross net r d1 max1 dTop top isHigh isLow heavy light rfl hsc hnet hHigh hLow hHeavy hLight
  obtain ⟨rfl, rfl, rfl, rfl⟩ : d1 = divSmall cfg.scale ∧ max1 = maxFirst cfg.scale ∧ dTop = divTop cfg.scale
      ∧ top = maxTop cfg.scale := by
    cases e : cfg.scale <;> simp_all [divSmall, maxFirst, divTop, maxTop]
  have high : isHigh ↔ isOver cfg.scale gross = true := hHigh.trans (isOver_iff ..).symm
  have low : isLow ↔ isUnder cfg.scale gross = true := hLow.trans (isUnder_iff ..).symm
  have absent := activeResult_shown cfg lock stable tare gross
  rw [← high, ← low] at absent
  have netIs : (activeResult cfg lock stable tare gross).net = some net := by rw [hnet]; rfl
  have overIs : heavy ↔ isOver cfg.scale gross = true ∨ (maxTop cfg.scale : Int) < gross := by rw [hHeavy, high]
  have lightIs : ¬heavy → (light ↔ (activeResult cfg lock stable tare gross).shown = none
      ∨ ∃ w, (activeResult cfg lock stable tare gross).shown = some w ∧ w < 20 * divSmall cfg.scale) := by
    intro notHeavy
    have notHigh : ¬isHigh := fun h => notHeavy (hHeavy.2 (.inl h))
    rw [hLight, absent]
    simp [notHigh]
  obtain ⟨vHeavy, vRest⟩ := verdictOf_stable cfg.scale lock gross (activeResult cfg lock stable tare gross).shown
  rw [← overIs] at vHeavy vRest
  have verdictIs : (activeResult cfg lock stable tare gross).verdict
      = verdictOf cfg.scale lock stable gross (activeResult cfg lock stable tare gross).shown := rfl
  refine ⟨rfl, rfl, rfl, netIs, rfl, by rw [hnet]; rfl, absent, fun w d hw hd => activeResult_shown_some netIs hd hw,
    high.symm, low.symm, ?_, ?_, ?_⟩
  · simp [activeResult]
  · cases tare <;> simp [activeResult]
  · rw [verdictIs]
    cases stable with
    | false => simp [verdictOf]
    | true =>
      by_cases h : heavy
      · simp [vHeavy h, h]
      · obtain ⟨vLight, vLock⟩ := vRest h
        rw [← lightIs h] at vLight vLock
        by_cases l : light
        · simp [vLight l, h, l]
        · rw [vLock l]
          cases lock <;> simp [h, l]

end Sys2Proof.Machine
end

section
/-! SUPPORT. The laws of the device at reset. -/

namespace Sys2Proof.Machine

/-! ### What stands in each record at reset -/

@[simp] theorem settings_reset (h : Head) : settings h State.reset = powerOnSettings := by
  simp [settings, State.reset, powerOnWge]

@[simp] theorem chan_reset (h : Head) : chan h State.reset = idleChannel 0 := by
  simp [chan, State.reset, powerOnWge]

@[simp] theorem ctx_reset (h : Head) : ctx h State.reset = offCtx := by simp [ctx, State.reset, powerOnHsu]

@[simp] theorem signedOnAt_reset (n : Operator) : signedOnAt n State.reset = none := by
  simp [signedOnAt, State.reset, powerOnHsu]

@[simp] theorem ticket_reset (t : TicketSlot) : ticket t State.reset = freeTicket 0 := by
  simp [ticket, State.reset, powerOnTkp]

@[simp] theorem copies_reset (h : Head) : copies h State.reset = emptyCopies := by
  simp [copies, State.reset, powerOnCcu]

@[simp] theorem printer_reset (p : Printer) : printer p State.reset = offlinePrinter := by
  simp [printer, State.reset, powerOnLbc]

@[simp] theorem queue_reset (p : Printer) : queue p State.reset = [] := by simp [queue, State.reset, powerOnLbc]

@[simp] theorem items_reset : State.reset.itb.items = [] := rfl

@[simp] theorem snu_reset : State.reset.snu = powerOnSnu := rfl

/-! ### The laws -/

theorem zeroLaw_reset : ZeroLaw State.reset := by
  intro h
  simp [zeroLow, zeroHigh, powerOnSettings, idleChannel]

theorem signOnLaw_reset : SignOnLaw State.reset := by simp [SignOnLaw, offCtx]

theorem maskLaw_reset : MaskLaw State.reset := by
  intro i
  simp [presence, slotLink, State.reset, powerOnLnk, resetSlot]

theorem portLaw_reset : PortLaw State.reset := by simp [PortLaw, State.reset, powerOnPort]

theorem lockLaw_reset : LockLaw State.reset := by simp [LockLaw, idleChannel]

theorem copyLaw_reset : CopyLaw State.reset := by simp [CopyLaw, CopyListLaw, emptyCopies]

theorem entryLaw_reset : EntryLaw State.reset := by simp [EntryLaw, emptyCopies]

theorem queueLaw_reset : QueueLaw State.reset := by simp [QueueLaw, queuedTags]

theorem feedLaw_reset : FeedLaw State.reset := fun p _ => queue_reset p

theorem totalLaw_reset : TotalLaw State.reset := by simp [TotalLaw, TicketLaw, freeTicket, lineSum]

theorem freeLaw_reset : FreeLaw State.reset := by simp [FreeLaw, freeTicket]

theorem holderLaw_reset : HolderLaw State.reset := by simp [HolderLaw, freeTicket, offCtx]

theorem openTicket_free (serial : Byte) : openTicket (freeTicket serial) = false := rfl

/-- No service number stands anywhere at reset. -/
theorem numbersInPlay_reset : numbersInPlay State.reset = [] := by
  simp [numbersInPlay, offCtx, openTicket_free, powerOnSnu]

theorem numberLaw_reset : NumberLaw State.reset := by
  simp [NumberLaw, numbersInPlay_reset, powerOnSnu]

theorem quietLaw_reset : QuietLaw State.reset := by
  simp [QuietLaw, openTicket_free, unfoldedPacks, offCtx]

theorem refsLaw_reset : RefsLaw State.reset := by
  simp [RefsLaw, openLines, openTicket_free, itemAt]

theorem packsLaw_reset : PacksLaw State.reset := by simp [PacksLaw]

/-- Every group adds up to nothing at reset. -/
theorem balanceLaw_reset : BalanceLaw State.reset := by
  have quiet : State.reset.tot.day ≠ .closing := by decide
  rw [BalanceLaw, if_neg quiet]
  intro _ f hf
  have zero : f emptyAcc = 0 := by
    simp only [accFields, List.mem_cons, List.not_mem_nil, or_false] at hf
    rcases hf with rfl | rfl | rfl | rfl | rfl | rfl <;> rfl
  simp [sumOver, State.reset, powerOnTot, zero]

theorem itemBalanceLaw_reset : ItemBalanceLaw State.reset := by
  have quiet : State.reset.tot.day ≠ .closing := by decide
  rw [ItemBalanceLaw, if_neg quiet]
  intro _ _ f hf
  simp only [accFields, List.mem_cons, List.not_mem_nil, or_false] at hf
  rcases hf with rfl | rfl | rfl | rfl | rfl | rfl <;> rfl

/-- Settles O53. -/
theorem resetMeetsEveryLaw : Obligations.ResetMeetsEveryLaw := by
  have noItems : Directory State.reset ∧ Places State.reset ∧ PendingLaw State.reset ∧ PurgeLaw State.reset := by
    simp [Directory, Places, PendingLaw, PurgeLaw]
  obtain ⟨directory, places, pending, purge⟩ := noItems
  exact ⟨zeroLaw_reset, signOnLaw_reset, maskLaw_reset, portLaw_reset, directory, places, pending, copyLaw_reset,
    queueLaw_reset, totalLaw_reset, freeLaw_reset, holderLaw_reset, numberLaw_reset, quietLaw_reset, refsLaw_reset,
    packsLaw_reset, balanceLaw_reset, itemBalanceLaw_reset, lockLaw_reset, purge, entryLaw_reset, feedLaw_reset⟩

end Sys2Proof.Machine
end

section
/-! SUPPORT. What the hub's operations keep of a weighing channel, of the sign-on table, of the slots' presence and of
the port: `Kept` composes, so an operation keeps what its parts keep. -/

namespace Sys2Proof.Machine

/-! ### One channel: what an event may do to it -/

/-- A zero count within Z0 ± ZR (R16). -/
def ZeroIn (cfg : HeadSettings) (c : Channel) : Prop := zeroLow cfg ≤ c.zero ∧ c.zero ≤ zeroHigh cfg

/-- A channel that is LOCKED and ELIGIBLE is none (R21, R22). -/
def LockIn (c : Channel) : Prop := c.lock = .locked → c.verdict ≠ .eligible

/-- What `Rearmed` says, of a channel under its settings. -/
def RearmedIn (cfg : HeadSettings) (c : Channel) : Prop :=
  (∃ r g, c.last = some r ∧ r.state = .active ∧ r.stable = true ∧ r.gross = some g ∧ g ≤ 10 * divSmall cfg.scale)
    ∨ c.window.length ≤ 1 ∧ c.history.length ≤ 1

theorem rearmed_iff (h : Head) (t : State) : Rearmed h t ↔ RearmedIn (settings h t) (chan h t) := Iff.rfl

/-- What every sample and every other event keeps of a channel under settings `cfg`: its zero count in range, no
ELIGIBLE verdict under a LOCKED lock, and a lock armed only for a reason of R22. -/
structure ChanLawful (cfg : HeadSettings) (c d : Channel) : Prop where
  zero : ZeroIn cfg c → ZeroIn cfg d
  lock : LockIn c → LockIn d
  rearmed : c.lock = .locked → d.lock = .armed → RearmedIn cfg d

/-- What every event but a sample keeps of a channel: a lock that was armed for a reason still has it. -/
structure ChanKept (cfg : HeadSettings) (c d : Channel) : Prop extends ChanLawful cfg c d where
  reason : RearmedIn cfg c → RearmedIn cfg d

theorem ChanKept.refl (cfg : HeadSettings) (c : Channel) : ChanKept cfg c c :=
  ⟨⟨id, id, fun l a => by rw [l] at a; cases a⟩, id⟩

/-- After an event that armed the lock for a reason, an event that keeps reasons. -/
theorem ChanLawful.trans_kept {cfg : HeadSettings} {c d e : Channel} (h : ChanLawful cfg c d) (k : ChanKept cfg d e) :
    ChanLawful cfg c e where
  zero z := k.zero (h.zero z)
  lock l := k.lock (h.lock l)
  rearmed hc he := by
    cases hd : d.lock with
    | locked => exact k.rearmed hd he
    | armed => exact k.reason (h.rearmed hc hd)

theorem ChanKept.trans {cfg : HeadSettings} {c d e : Channel} (h : ChanKept cfg c d) (k : ChanKept cfg d e) :
    ChanKept cfg c e :=
  ⟨h.toChanLawful.trans_kept k, fun r => k.reason (h.reason r)⟩

/-- An event that moves no more of a channel than its state, runs, tare and offer, and its verdict to one not
eligible. -/
theorem ChanKept.of_same {cfg : HeadSettings} {c d : Channel} (hz : d.zero = c.zero) (hl : d.lock = c.lock)
    (hv : d.verdict = c.verdict ∨ d.verdict ≠ .eligible) (hr : d.last = c.last) (hw : d.window = c.window)
    (hh : d.history = c.history) : ChanKept cfg c d where
  zero z := by rwa [ZeroIn, hz]
  lock k l := by
    obtain e | e := hv
    · rw [e]; exact k (hl ▸ l)
    · exact e
  rearmed l a := by rw [hl, l] at a; cases a
  reason r := by rwa [RearmedIn, hr, hw, hh]

/-- An event that empties a channel and arms it. -/
theorem ChanKept.of_emptied {cfg : HeadSettings} {c d : Channel} (hz : ZeroIn cfg c → ZeroIn cfg d)
    (hl : d.lock = .armed) (hw : d.window = []) (hh : d.history = []) : ChanKept cfg c d where
  zero := hz
  lock _ l := by rw [hl] at l; cases l
  rearmed _ _ := .inr (by simp [hw, hh])
  reason _ := .inr (by simp [hw, hh])

theorem zeroIn_z0 (cfg : HeadSettings) (c : Channel) (h : c.zero = cfg.z0) : ZeroIn cfg c := by
  simp [ZeroIn, zeroLow, zeroHigh, h]

theorem chanKept_restart (cfg : HeadSettings) (c : Channel) : ChanKept cfg c (restartChannel c) :=
  .of_emptied id rfl rfl rfl

theorem chanKept_idle (cfg : HeadSettings) (c : Channel) : ChanKept cfg c (toIdle cfg c) :=
  .of_emptied (fun _ => zeroIn_z0 _ _ rfl) rfl rfl rfl

theorem chanKept_startSettling (cfg : HeadSettings) (c : Channel) : ChanKept cfg c (startSettling c) := by
  unfold startSettling
  split
  · exact .of_same rfl rfl (.inl rfl) rfl rfl rfl
  · exact .refl cfg c

theorem chanKept_missed (cfg : HeadSettings) (c : Channel) : ChanKept cfg c (missedSample c) :=
  .of_same rfl rfl (.inr Verdict.noConfusion) rfl rfl rfl

/-- A capture locks the channel, and the verdict with it. -/
theorem chanKept_lock (cfg : HeadSettings) (c : Channel) : ChanKept cfg c (lockChannel c) where
  zero := id
  lock _ _ := Verdict.noConfusion
  rearmed _ a := Lock.noConfusion a
  reason := id

/-- ZERO sets Z only within ZR of Z0 (R24). -/
theorem chanKept_zeroKey {cfg : HeadSettings} {p : PairSettings} {c d : Channel} (h : zeroKey cfg p c = .ok d) :
    ChanKept cfg c d := by
  unfold zeroKey at h
  simp only at h
  split at h
  · cases h
  split at h
  · cases h
  split at h
  · cases h
  split at h
  · cases h
  next near =>
    cases h
    refine ⟨⟨fun _ => ?_, id, fun l a => by rw [l] at a; cases a⟩, fun r => ?_⟩
    · simp only [ZeroIn, zeroLow, zeroHigh]
      omega
    · obtain r | ⟨w, -⟩ := r
      · exact .inl r
      · exact .inr ⟨w, Nat.zero_le 1⟩

/-- TARE changes the manual tare alone (R25). -/
theorem tareKey_ok {cfg : HeadSettings} {c d : Channel} (h : tareKey cfg c = .ok d) :
    ∃ m, d = { c with manual := m } := by
  unfold tareKey at h
  simp only at h
  (repeat' split at h) <;> cases h <;> exact ⟨_, rfl⟩

theorem chanKept_manual (cfg : HeadSettings) (c : Channel) (m : Option Nat) : ChanKept cfg c { c with manual := m } :=
  .of_same rfl rfl (.inl rfl) rfl rfl rfl

/-! ### A sample (R9 to R22) -/

/-- A clamped zero count is in range (R16). -/
theorem clampZero_in (cfg : HeadSettings) (z : Int) :
    zeroLow cfg ≤ (clampZero cfg z).1 ∧ (clampZero cfg z).1 ≤ zeroHigh cfg := by
  have order : zeroLow cfg ≤ zeroHigh cfg := by simp only [zeroLow, zeroHigh]; omega
  unfold clampZero
  split
  · exact ⟨order, le_rfl⟩
  split
  · exact ⟨le_rfl, order⟩
  · omega

/-- A verdict is ELIGIBLE under an armed lock only (R21). -/
theorem verdictOf_locked (sc : ScaleType) (stable : Bool) (gross : Int) (shown : Option Int) :
    verdictOf sc .locked stable gross shown ≠ .eligible := by
  unfold verdictOf
  (repeat' split) <;> simp_all

/-- An ACTIVE sample: Z by the clamp, the verdict by the lock before it, the lock armed by a stable gross of at most
10 d1. -/
theorem chanLawful_active (cfg : HeadSettings) (p : PairSettings) (q : Bool) (c : Channel) (window : List Int) :
    ChanLawful cfg c (activeSample cfg p q c window).chan where
  zero z := by
    simp only [activeSample, ZeroIn]
    split
    · exact clampZero_in ..
    · exact z
  lock _ l := by
    simp only [activeSample] at l ⊢
    split at l
    · cases l
    · simp only [activeResult, l]
      exact verdictOf_locked _ _ _ _
  rearmed l a := by
    simp only [activeSample] at a
    split at a
    · next h =>
      simp only [Bool.and_eq_true, decide_eq_true_eq] at h
      exact .inl ⟨_, _, rfl, rfl, h.1, rfl, by exact_mod_cast h.2⟩
    · rw [l] at a; cases a

/-- A sample after which the window is short leaves zero count and lock alone. -/
theorem chanLawful_filter (cfg : HeadSettings) (p : PairSettings) (q : Bool) (c : Channel) (raw : Int) :
    ChanLawful cfg c (filterSample cfg p q c raw).chan := by
  simp only [filterSample]
  split
  · exact ⟨id, fun _ _ => Verdict.noConfusion, fun l a => by rw [show c.lock = .armed from a] at l; cases l⟩
  · exact chanLawful_active ..

theorem chanLawful_rail (cfg : HeadSettings) (c : Channel) : ChanLawful cfg c (railSample c).chan := by
  unfold railSample
  split <;>
    exact ⟨id, fun _ _ => Verdict.noConfusion, fun l a => by rw [show c.lock = .armed from a] at l; cases l⟩

/-- A list that `pushLast` makes of the empty list holds one value at most. -/
theorem length_pushLast_nil (n : Nat) (x : Int) : (pushLast n [] x).length ≤ 1 := by simp [pushLast]

/-- The sample that ends a fault finds the channel emptied and armed, and is the first since. -/
theorem chanLawful_leaveFault (cfg : HeadSettings) (p : PairSettings) (q : Bool) (c : Channel) (raw : Int) :
    ChanLawful cfg c (filterSample cfg p q (leaveFault c) raw).chan where
  zero z := (chanLawful_filter cfg p q (leaveFault c) raw).zero z
  lock _ := (chanLawful_filter cfg p q (leaveFault c) raw).lock fun l => Lock.noConfusion l
  rearmed _ _ := by
    refine .inr ?_
    simp only [filterSample]
    split
    · exact ⟨length_pushLast_nil .., Nat.zero_le 1⟩
    · exact ⟨length_pushLast_nil .., length_pushLast_nil ..⟩

theorem chanLawful_fault (cfg : HeadSettings) (p : PairSettings) (q : Bool) (c : Channel) (raw : Int) :
    ChanLawful cfg c (faultSample cfg p q c raw).chan := by
  have stays (n : Nat) (r : ChanResult) :
      ChanLawful cfg c { c with clearRun := n, last := some r, verdict := .notEligible .cell } :=
    ⟨id, fun _ _ => Verdict.noConfusion, fun l a => by rw [show c.lock = .armed from a] at l; cases l⟩
  simp only [faultSample]
  split
  · exact stays ..
  split
  · exact stays ..
  · exact chanLawful_leaveFault ..

/-- Every sample is lawful to its channel. -/
theorem chanLawful_process {cfg : HeadSettings} {p : PairSettings} {q : Bool} {c : Channel} {raw : Int} {d : Processed}
    (h : process cfg p q c raw = some d) : ChanLawful cfg c d.chan := by
  unfold process at h
  split at h
  · cases h
  · cases h; exact chanLawful_fault ..
  all_goals
    cases h
    split
    · exact chanLawful_rail ..
    · exact chanLawful_filter ..

end Sys2Proof.Machine
end

section
/-! SUPPORT. `Kept`, operation by operation. -/

namespace Sys2Proof.Machine

/-! ### What an event keeps of the hub -/

/-- What every event but a sample, a reset, a command of the host and a new mask keeps: the port's command and
response, what the port has shown, the settings, each channel as `ChanKept` says, and the sign-on table in agreement
with the heads. -/
structure KeptBeside (s t : State) : Prop where
  inProcess : t.port.inProcess = s.port.inProcess
  buffer : t.port.buffer = s.port.buffer
  shown : t.shown = s.shown
  settings : ∀ h, settings h t = settings h s
  chans : ∀ h, ChanKept (Machine.settings h s) (chan h s) (chan h t)
  signOn : SignOnLaw s → SignOnLaw t

/-- The same with the slot mask, and with DISABLED slots staying so and others staying out of it. -/
structure Kept (s t : State) : Prop extends KeptBeside s t where
  mask : t.lnk.mask = s.lnk.mask
  disabled : ∀ i, presence i t = .disabled ↔ presence i s = .disabled

theorem KeptBeside.trans {s t u : State} (h : KeptBeside s t) (k : KeptBeside t u) : KeptBeside s u where
  inProcess := k.inProcess.trans h.inProcess
  buffer := k.buffer.trans h.buffer
  shown := k.shown.trans h.shown
  settings a := (k.settings a).trans (h.settings a)
  chans a := (h.chans a).trans (h.settings a ▸ k.chans a)
  signOn l := k.signOn (h.signOn l)

theorem Kept.trans {s t u : State} (h : Kept s t) (k : Kept t u) : Kept s u :=
  ⟨h.toKeptBeside.trans k.toKeptBeside, k.mask.trans h.mask, fun i => (k.disabled i).trans (h.disabled i)⟩

/-- The sign-on law speaks of the heads' operators and of the sign-on table alone. -/
theorem signOnLaw_congr {s t : State} (ho : ∀ h, (ctx h t).operator = (ctx h s).operator)
    (hs : t.hsu.signOn = s.hsu.signOn) : SignOnLaw s → SignOnLaw t := by
  simp only [SignOnLaw, signedOnAt, ho, hs]
  exact id

/-- An operation that writes neither the Link Controller, nor the Weighing Engine, nor the Head Service Unit, and no more
of the port than its flags. -/
theorem Kept.of_blocks {s t : State} (h : t.port.inProcess = s.port.inProcess ∧ t.port.buffer = s.port.buffer
    ∧ t.shown = s.shown ∧ t.lnk = s.lnk ∧ t.wge = s.wge ∧ t.hsu = s.hsu) : Kept s t := by
  obtain ⟨hp, hb, hs, hl, hw, hh⟩ := h
  refine ⟨⟨hp, hb, hs, fun a => by simp [Machine.settings, hw], fun a => ?_,
    signOnLaw_congr (fun a => by simp [ctx, hh]) (by rw [hh])⟩, by rw [hl], fun i => by simp [presence, slotLink, hl]⟩
  rw [show chan a t = chan a s by simp [chan, hw]]
  exact .refl ..

theorem Kept.refl (s : State) : Kept s s := .of_blocks ⟨rfl, rfl, rfl, rfl, rfl, rfl⟩

theorem Kept.ite {s t u : State} {c : Prop} [Decidable c] (h : Kept s t) (k : Kept s u) : Kept s (if c then t else u) := by
  split
  · exact h
  · exact k

theorem Kept.foldl {α : Type} {f : State → α → State} (hf : ∀ s a, Kept s (f s a)) :
    ∀ (xs : List α) (s : State), Kept s (xs.foldl f s)
  | [], s => .refl s
  | x :: xs, s => (hf s x).trans (Kept.foldl hf xs (f s x))

theorem Kept.eachHead {f : Head → State → State} (hf : ∀ h s, Kept s (f h s)) (s : State) : Kept s (eachHead f s) :=
  Kept.foldl (fun s h => hf h s) _ s

theorem Kept.notDisabled {s t : State} {i : Slot} (k : Kept s t) (h : presence i s ≠ .disabled) :
    presence i t ≠ .disabled := fun e => h ((k.disabled i).1 e)

/-! ### Updates -/

variable (s : State)

/-- A context written without its operator. -/
theorem kept_onCtx (h : Head) (f : HeadCtx → HeadCtx) (hf : (f (ctx h s)).operator = (ctx h s).operator) :
    Kept s (onCtx h f s) := by
  refine ⟨⟨rfl, rfl, rfl, fun _ => rfl, fun _ => .refl .., signOnLaw_congr (fun a => ?_) rfl⟩, rfl, fun _ => .rfl⟩
  rw [ctx_onCtx]
  split
  · next e => rw [hf, e]
  · rfl

theorem kept_onChan (h : Head) (f : Channel → Channel) (hf : ChanKept (settings h s) (chan h s) (f (chan h s))) :
    Kept s (onChan h f s) := by
  refine ⟨⟨rfl, rfl, rfl, fun _ => rfl, fun a => ?_, signOnLaw_congr (fun _ => rfl) rfl⟩, rfl, fun _ => .rfl⟩
  rw [chan_onChan]
  split
  · next e => rw [e]; exact hf
  · exact .refl ..

theorem kept_onSlot (i : Slot) (f : SlotLink → SlotLink)
    (hf : (f (slotLink i s)).presence = .disabled ↔ presence i s = .disabled) : Kept s (onSlot i f s) := by
  refine ⟨⟨rfl, rfl, rfl, fun _ => rfl, fun _ => .refl .., signOnLaw_congr (fun _ => rfl) rfl⟩, rfl, fun j => ?_⟩
  rw [presence, slotLink_onSlot]
  split
  · next e => rw [hf, e]
  · rfl

theorem kept_onHeadLink (h : Head) (f : HeadLink → HeadLink) : Kept s (onHeadLink h f s) :=
  ⟨⟨rfl, rfl, rfl, fun _ => rfl, fun _ => .refl .., signOnLaw_congr (fun _ => rfl) rfl⟩, rfl, fun _ => .rfl⟩

theorem kept_latch (f : Latched → Latched) : Kept s (latch f s) := .of_blocks ⟨rfl, rfl, rfl, rfl, rfl, rfl⟩

theorem kept_onSnu (f : Snu → Snu) : Kept s (onSnu f s) := .of_blocks ⟨rfl, rfl, rfl, rfl, rfl, rfl⟩

theorem kept_onTicket (t : TicketSlot) (f : Ticket → Ticket) : Kept s (onTicket t f s) :=
  .of_blocks ⟨rfl, rfl, rfl, rfl, rfl, rfl⟩

theorem kept_onCopies (h : Head) (f : CopyList → CopyList) : Kept s (onCopies h f s) :=
  .of_blocks ⟨rfl, rfl, rfl, rfl, rfl, rfl⟩

theorem kept_onPrinter (p : Printer) (f : PrinterCtx → PrinterCtx) : Kept s (onPrinter p f s) :=
  .of_blocks ⟨rfl, rfl, rfl, rfl, rfl, rfl⟩

theorem kept_onQueue (p : Printer) (f : List Job → List Job) : Kept s (onQueue p f s) :=
  .of_blocks ⟨rfl, rfl, rfl, rfl, rfl, rfl⟩

theorem kept_onInbox (h : Head) (f : Inbox → Inbox) : Kept s (onInbox h f s) := .of_blocks ⟨rfl, rfl, rfl, rfl, rfl, rfl⟩

theorem kept_send (i : Fin 12) (m : Downstream) : Kept s (send i m s) := .of_blocks ⟨rfl, rfl, rfl, rfl, rfl, rfl⟩

theorem kept_recompose (h : Head) : Kept s (recompose h s) :=
  ⟨⟨rfl, rfl, rfl, fun _ => rfl, fun _ => .refl .., signOnLaw_congr (fun _ => rfl) rfl⟩, rfl, fun _ => .rfl⟩

theorem kept_renewOffer (h : Head) : Kept s (renewOffer h s) :=
  kept_onChan s h _ (.of_same rfl rfl (.inl rfl) rfl rfl rfl)

/-! ### Copies, items, accumulators, tickets and labels -/

theorem kept_examineWatch : Kept s (examineWatch s) := by
  unfold examineWatch
  split
  · exact .of_blocks ⟨rfl, rfl, rfl, rfl, rfl, rfl⟩
  · exact .refl s

theorem kept_selectItem (h : Head) (i : Item) : Kept s (selectItem h i s) := by
  unfold selectItem
  dsimp only
  split
  · exact (kept_onCopies ..).trans (kept_examineWatch _)
  · exact kept_onCopies ..

theorem kept_foldInto (f : Acc → Acc × Bool) (k : FoldKeys) : Kept s (foldInto f k s) := by
  unfold foldInto
  exact .ite (.of_blocks ⟨rfl, rfl, rfl, rfl, rfl, rfl⟩) (.of_blocks ⟨rfl, rfl, rfl, rfl, rfl, rfl⟩)

theorem kept_releaseRef (k : Nat) : Kept s (releaseRef k s) := .of_blocks (by simp)

theorem kept_walkLines {fold : Line → State → State} (hf : ∀ l s, Kept s (fold l s)) (ls : List Line) :
    Kept s (walkLines fold ls s) :=
  .foldl (fun s l => (hf l s).trans (kept_releaseRef ..)) ls s

theorem kept_voidRecord (t : TicketSlot) : Kept s (voidRecord t s) :=
  ((kept_onTicket ..).trans (kept_walkLines _ (fun _ _ => kept_foldInto ..) _)).trans (kept_onTicket ..)

theorem kept_queueJob (p : Printer) (source : Option Head) (copies : Nat) (content : Content) :
    Kept s (queueJob p source copies content s) := .of_blocks (by simp)

theorem kept_closeRecord (t : TicketSlot) (h : Head) (p : Printer) : Kept s (closeRecord t h p s) :=
  (((kept_onTicket ..).trans (kept_walkLines _ (fun _ _ => kept_foldInto ..) _)).trans (kept_queueJob ..)).trans
    (kept_onTicket ..)

theorem kept_voidNewest (t : TicketSlot) : Kept s (voidNewest t s) := by
  unfold voidNewest
  split
  · exact .refl s
  · exact ((kept_foldInto ..).trans (kept_onTicket ..)).trans (kept_releaseRef ..)

theorem kept_foldPack (p : Printer) (j : Job) : Kept s (foldPack p j s) := by
  unfold foldPack
  split
  · exact .ite (.refl s) ((kept_onQueue ..).trans (kept_foldInto ..))
  · exact .refl s

theorem kept_completeJob (p : Printer) (j : Job) : Kept s (completeJob p j s) := .of_blocks (by simp)

theorem kept_startIfIdle (p : Printer) : Kept s (startIfIdle p s) := .of_blocks (by simp)

theorem kept_reloadPrinter (p : Printer) : Kept s (reloadPrinter p s) := .of_blocks (by simp)

theorem kept_stopPrinter (p : Printer) : Kept s (stopPrinter p s) := .of_blocks ⟨rfl, rfl, rfl, rfl, rfl, rfl⟩

theorem kept_countCopies (p : Printer) (n : Nat) : Kept s (countCopies p n s) := by
  have counted (j : Job) : Kept s (onPrinter p (fun c => { c with printed := n }) (foldPack p j s)) :=
    (kept_foldPack ..).trans (kept_onPrinter ..)
  unfold countCopies
  dsimp only
  split
  · exact .refl s
  · exact .ite (.ite ((counted _).trans (kept_completeJob ..)) ((counted _).trans (kept_onQueue ..))) (.refl s)

theorem kept_stopOrRecover (p : Printer) (cond : Condition) : Kept s (stopOrRecover p cond s) := by
  unfold stopOrRecover
  dsimp only
  split
  · exact .ite (.of_blocks (by simp)) (.refl s)
  · exact .ite (.refl s) (kept_stopPrinter ..)

theorem kept_takePrinterReport (p : Printer) (r : PrinterReport) : Kept s (takePrinterReport p r s) :=
  .ite (.refl s) ((((kept_onPrinter ..).trans (kept_countCopies ..)).trans (kept_stopOrRecover ..)).trans
    (kept_reloadPrinter ..))

theorem kept_printerOnline (p : Printer) (r : PrinterReport) : Kept s (printerOnline p r s) :=
  ((kept_onPrinter ..).trans (kept_takePrinterReport ..)).trans (kept_startIfIdle ..)

/-! ### Service numbers -/

theorem kept_refusePress : Kept s (refusePress s) := .of_blocks ⟨rfl, rfl, rfl, rfl, rfl, rfl⟩

theorem kept_press : Kept s (press s) := .ite (kept_refusePress s) (kept_onSnu ..)

theorem kept_presses (n : Nat) : Kept s (presses n s) := by
  induction n generalizing s with
  | zero => exact .refl s
  | succ n ih => exact (kept_press s).trans (ih _)

theorem kept_takePresses (n : Nat) : Kept s (takePresses n s) :=
  .ite ((kept_presses ..).trans (kept_refusePress _)) (kept_presses ..)

theorem kept_takeCounter (c : Byte) : Kept s (takeCounter c s) := by
  unfold takeCounter
  dsimp only
  split
  · exact kept_onSnu ..
  · exact (kept_onSnu ..).trans (kept_takePresses ..)

theorem kept_returnNumber (h : Head) : Kept s (returnNumber h s) := by
  unfold returnNumber
  split
  · exact .refl s
  · exact (kept_onSnu ..).trans (kept_onCtx _ _ _ rfl)

/-! ### Messages and requests -/

theorem kept_setMessage (h : Head) (code : Code) : Kept s (setMessage h code s) := kept_onCtx _ _ _ rfl

theorem kept_dropRequest (h : Head) : Kept s (dropRequest h s) := kept_onCtx _ _ _ rfl

theorem kept_refuseRequest (h : Head) (code : Code) : Kept s (refuseRequest h code s) :=
  (kept_dropRequest ..).trans (kept_setMessage ..)

theorem kept_cancelRequest (h : Head) (code : Code) : Kept s (cancelRequest h code s) :=
  .ite (kept_refuseRequest ..) (.refl s)

theorem leaving_operator (id : TicketId) (c : HeadCtx) : (leaving id c).operator = c.operator := by
  unfold leaving
  dsimp only
  split <;> rfl

theorem kept_leaveTicket (h : Head) (id : TicketId) : Kept s (leaveTicket h id s) :=
  kept_onCtx _ _ _ (leaving_operator ..)

theorem kept_idlePark (t : TicketSlot) : Kept s (idlePark t s) := by
  unfold idlePark
  dsimp only
  split
  · exact ((kept_onTicket ..).trans (kept_leaveTicket ..)).trans (kept_setMessage ..)
  · exact .refl s

/-! ### Captures -/

theorem kept_queueAtHead (h : Head) (content : Content) : Kept s (queueAtHead h content s) :=
  .ite ((kept_queueJob ..).trans (kept_setMessage ..)) (kept_queueJob ..)

theorem kept_lockFor (k : Capture) : Kept s (lockFor k s) := by
  unfold lockFor
  split
  · exact kept_onChan s _ _ (chanKept_lock ..)
  · exact .refl s
  · exact .refl s

theorem kept_endRequest (h : Head) : Kept s (endRequest h s) := kept_onCtx _ _ _ rfl

theorem kept_completeLine (k : Capture) (id : TicketId) : Kept s (completeLine k id s) := by
  have appended (l : Line) : Kept s (appendLine id.slot l (lockFor k s)) :=
    (kept_lockFor s k).trans (.of_blocks (by simp))
  have lined := (appended (lineOf k ((ticket id.slot (lockFor k s)).lines.length + 1) (lockFor k s))).trans
    (kept_onCtx _ k.head (fun c => { c with lastLine := some ⟨id, (ticket id.slot (lockFor k s)).lines.length + 1⟩ })
      rfl)
  unfold completeLine
  exact (lined.trans (.ite (kept_queueAtHead ..) (.refl _))).trans (kept_endRequest ..)

theorem kept_countBatch (h : Head) : Kept s (countBatch h s) := by
  unfold countBatch
  split
  · exact .ite ((kept_onCtx _ _ _ rfl).trans (kept_setMessage ..)) (kept_onCtx _ _ _ rfl)
  · exact .refl s
  · exact .refl s

theorem kept_completeLabel (k : Capture) (purpose : Purpose) : Kept s (completeLabel k purpose s) := by
  have queued := (kept_lockFor s k).trans (kept_queueAtHead _ k.head (.prepack (labelOf k (lockFor k s))
    (foldOf k (lockFor k s))))
  unfold completeLabel
  dsimp only
  split
  · exact (queued.trans (kept_countBatch ..)).trans (kept_endRequest ..)
  · exact queued.trans (kept_endRequest ..)
  · exact queued.trans (kept_endRequest ..)

theorem kept_finish (k : Capture) (q : Request) : Kept s (finish k q s) := by
  unfold finish
  dsimp only
  split
  · exact .ite (.refl s) (.ite (kept_refuseRequest ..) (.ite (kept_refuseRequest ..) (kept_completeLine ..)))
  · exact .refl s
  · exact .ite (kept_refuseRequest ..) (kept_completeLabel ..)

theorem kept_complete (h : Head) (q : Request) (i : Item) : Kept s (complete h q i s) := by
  unfold complete
  dsimp only
  split
  · exact .refl s
  split
  · exact kept_refuseRequest ..
  · exact kept_finish ..

theorem kept_examine (h : Head) : Kept s (examine h s) := by
  unfold examine
  split
  · exact .refl s
  split
  · exact .refl s
  · exact .ite (kept_complete ..) (.refl s)

theorem kept_makeRequest (h : Head) (i : Item) (q : Request) : Kept s (makeRequest h i q s) :=
  ((kept_onCtx _ _ _ rfl).trans (kept_selectItem ..)).trans (kept_examine ..)

theorem kept_takenItem (h : Head) (n : Nat) : Kept s (takenItem h n s) := by
  unfold takenItem
  split
  · exact kept_onCtx _ _ _ rfl
  · exact kept_onCtx _ _ _ rfl
  · exact .refl s

theorem kept_askItem (h : Head) (n : Nat) : Kept s (askItem h n s) := by
  unfold askItem
  split
  · exact kept_setMessage ..
  · exact (kept_takenItem ..).trans (kept_makeRequest ..)

/-- The state in which a channel result comes to the examination: the cancellations of R46 made, then the hold of R50
cleared. -/
def resultTaken (h : Head) (r : ChanResult) (fault newOver : Bool) (s : State) : State :=
  let s := if fault then cancelRequest h .cell s else s
  let s := if newOver then cancelRequest h .overCap s else s
  if clearsHold (settings h s) r then onCtx h (fun c => { c with autoHold := false }) s else s

/-- What a channel result does once its request has come to the examination, or none was pending. -/
def resultJudged (h : Head) (r : ChanResult) (waiting : Bool) (s : State) : State :=
  if waiting then examine h s
  else
    match autoItem h r s with
    | some i => makeRequest h i (autoRequest i) s
    | none => s

theorem handResult_eq (h : Head) (r : ChanResult) (fault newOver : Bool) : handResult h r fault newOver s
    = recompose h (resultJudged h r (ctx h s).request.isSome (resultTaken h r fault newOver s)) := rfl

theorem kept_resultTaken (h : Head) (r : ChanResult) (fault newOver : Bool) :
    Kept s (resultTaken h r fault newOver s) := by
  have cell : Kept s (if fault then cancelRequest h .cell s else s) := .ite (kept_cancelRequest ..) (.refl s)
  unfold resultTaken
  exact (cell.trans (.ite (kept_cancelRequest ..) (.refl _))).trans (.ite (kept_onCtx _ _ _ rfl) (.refl _))

theorem kept_resultJudged (h : Head) (r : ChanResult) (waiting : Bool) : Kept s (resultJudged h r waiting s) := by
  unfold resultJudged
  refine .ite (kept_examine ..) ?_
  split
  · exact kept_makeRequest ..
  · exact .refl s

theorem kept_handResult (h : Head) (r : ChanResult) (fault newOver : Bool) : Kept s (handResult h r fault newOver s) :=
  ((kept_resultTaken ..).trans (kept_resultJudged ..)).trans (kept_recompose ..)

/-! ### The channel's events -/

theorem kept_restart (h : Head) : Kept s (restart h s) :=
  have restarted := kept_onChan s h _ (chanKept_restart ..)
  .ite (restarted.trans (kept_handResult ..)) restarted

theorem kept_goIdle (h : Head) : Kept s (goIdle h s) :=
  (kept_onChan s h _ (chanKept_idle ..)).trans (kept_handResult ..)

theorem kept_takeAck (h : Head) (a : Ack) : Kept s (takeAck h a s) := by
  unfold takeAck
  dsimp only
  split
  · exact .refl s
  · exact ((kept_onCopies ..).trans (.ite (kept_examine ..) (.refl _))).trans (kept_examineWatch _)

/-! ### Frame starts at the heads and the tickets -/

theorem kept_frameRequest (h : Head) : Kept s (frameRequest h s) := by
  unfold frameRequest
  split
  · exact .refl s
  split
  · exact kept_refuseRequest ..
  · exact kept_onCtx _ _ _ rfl

theorem kept_frameSelected (h : Head) : Kept s (frameSelected h s) := by
  unfold frameSelected
  split
  · exact .refl s
  · exact .ite (.refl s) ((kept_onCtx _ _ _ rfl).trans (kept_setMessage ..))

theorem kept_frameMessage (h : Head) : Kept s (frameMessage h s) := kept_onCtx _ _ _ rfl

theorem kept_frameHead (h : Head) : Kept s (frameHead h s) :=
  ((kept_frameRequest ..).trans (kept_frameSelected ..)).trans (kept_frameMessage ..)

theorem kept_frameTicket (t : TicketSlot) : Kept s (frameTicket t s) :=
  .ite (.refl s) (.ite (kept_idlePark ..) (kept_onTicket ..))

/-! ### Sign-on and sign-off (R35, R36) -/

/-- What a sign-off does before it writes the sign-on entry and the context: the request dropped, the ticket parked, the
number returned. -/
def beforeSignOff (h : Head) (s : State) : State :=
  returnNumber h (match (ctx h (dropRequest h s)).held with
    | some id => parkRecord id.slot (onCtx h (fun c => { c with held := none }) (dropRequest h s))
    | none => dropRequest h s)

theorem signOff_none {h : Head} {s : State} (ho : (ctx h s).operator = none) : signOff h s = s := by simp [signOff, ho]

theorem signOff_some {h : Head} {op : Operator} {s : State} (ho : (ctx h s).operator = some op) :
    signOff h s = onCtx h (fun _ => offCtx) (setSignOn op none (beforeSignOff h s)) := by
  simp only [signOff, ho]
  rfl

theorem kept_beforeSignOff (h : Head) : Kept s (beforeSignOff h s) := by
  refine Kept.trans ?_ (kept_returnNumber ..)
  split
  · exact ((kept_dropRequest ..).trans (kept_onCtx _ _ _ rfl)).trans (kept_onTicket ..)
  · exact kept_dropRequest ..

@[simp] theorem operator_returnNumber (h a : Head) : (ctx a (returnNumber h s)).operator = (ctx a s).operator := by
  unfold returnNumber
  split
  · rfl
  · rw [ctx_onCtx]
    split
    · next e => rw [e]; rfl
    · rfl

@[simp] theorem operator_dropRequest (h a : Head) : (ctx a (dropRequest h s)).operator = (ctx a s).operator := by
  rw [dropRequest, ctx_onCtx]
  split
  · next e => rw [e]; rfl
  · rfl

@[simp] theorem operator_beforeSignOff (h a : Head) : (ctx a (beforeSignOff h s)).operator = (ctx a s).operator := by
  rw [beforeSignOff, operator_returnNumber, ← operator_dropRequest s h a]
  split
  · rw [parkRecord, ctx_onTicket, ctx_onCtx]
    split
    · next e => rw [e]
    · rfl
  · rfl

@[simp] theorem signOn_beforeSignOff (h : Head) : (beforeSignOff h s).hsu.signOn = s.hsu.signOn := by
  have returned (u : State) : (returnNumber h u).hsu.signOn = u.hsu.signOn := by
    unfold returnNumber
    split <;> rfl
  rw [beforeSignOff, returned]
  split <;> rfl

/-- The operators after a sign-off. -/
theorem operator_signOff (h a : Head) :
    (ctx a (signOff h s)).operator = if a = h then none else (ctx a s).operator := by
  cases ho : (ctx h s).operator with
  | none =>
    rw [signOff_none ho]
    split
    · next e => rw [e, ho]
    · rfl
  | some op =>
    rw [signOff_some ho, ctx_onCtx]
    split
    · rfl
    · exact operator_beforeSignOff s h a

/-- The sign-on table after a sign-off. -/
theorem signedOnAt_signOff (h : Head) (n : Operator) :
    signedOnAt n (signOff h s) = if (ctx h s).operator = some n then none else signedOnAt n s := by
  cases ho : (ctx h s).operator with
  | none => rw [signOff_none ho]; rfl
  | some op =>
    rw [signOff_some ho, signedOnAt_onCtx, signedOnAt_setSignOn, signedOnAt, signOn_beforeSignOff]
    by_cases e : n = op
    · simp [e]
    · simp [e, Ne.symm e, signedOnAt]

/-- A sign-off empties an entry of the sign-on table with the operator it named. -/
theorem signOnLaw_signOff (h : Head) (law : SignOnLaw s) : SignOnLaw (signOff h s) := by
  intro n a
  rw [signedOnAt_signOff, operator_signOff]
  have at_h := law n h
  have at_a := law n a
  by_cases there : (ctx h s).operator = some n
  · have entry : signedOnAt n s = some h := at_h.2 there
    rw [if_pos there]
    split
    · simp
    · next ne => simp [← at_a, entry, Ne.symm ne]
  · rw [if_neg there, at_a]
    split
    · next e => simp [e, there]
    · rfl

theorem kept_signOff (h : Head) : Kept s (signOff h s) := by
  have law := signOnLaw_signOff s h
  cases ho : (ctx h s).operator with
  | none => rw [signOff_none ho]; exact .refl s
  | some op =>
    have before := kept_beforeSignOff s h
    rw [signOff_some ho] at law ⊢
    exact { before with signOn := law }

theorem kept_loseContext (h : Head) : Kept s (loseContext h s) :=
  (kept_signOff ..).trans (kept_onCtx _ _ _ (by rw [operator_signOff, if_pos rfl]; rfl))

theorem kept_changeRole (h : Head) : Kept s (changeRole h s) := (kept_signOff ..).trans (kept_onCtx _ _ _ rfl)

/-- A sign-on at a head without an operator of an operator without an entry (R35). -/
theorem signOnLaw_signOn {h : Head} {op : Operator} {s : State} (ho : (ctx h s).operator = none)
    (hs : signedOnAt op s = none) (law : SignOnLaw s) : SignOnLaw (signOn h op s) := by
  intro n a
  have at_a := law n a
  rw [signOn, signedOnAt_onCtx, signedOnAt_setSignOn, ctx_onCtx]
  split <;> split
  · next e f => simp [e, f]
  · next e f => rw [ctx_setSignOn, ← at_a, e, hs]; simp [Ne.symm f]
  · next e f => rw [at_a, f, ho]; simp [Ne.symm e]
  · exact at_a

theorem Kept.signOn_of {s u : State} (k : Kept s u) (h : Head) (op : Operator)
    (law : SignOnLaw s → SignOnLaw (Machine.signOn h op u)) : Kept s (Machine.signOn h op u) :=
  { k with signOn := law }

theorem kept_movedMessage (h : Head) (parked : Bool) : Kept s (movedMessage h parked s) :=
  .ite (kept_setMessage ..) (.refl s)

@[simp] theorem operator_movedMessage (h a : Head) (parked : Bool) :
    (ctx a (movedMessage h parked s)).operator = (ctx a s).operator := by
  unfold movedMessage
  split
  · rw [setMessage, ctx_onCtx]
    split
    · next e => rw [e]
    · rfl
  · rfl

@[simp] theorem signedOnAt_movedMessage (h : Head) (n : Operator) (parked : Bool) :
    signedOnAt n (movedMessage h parked s) = signedOnAt n s := by
  unfold movedMessage
  split <;> rfl

theorem kept_signOnKey (h : Head) (n : Nat) : Kept s (signOnKey h n s) := by
  unfold signOnKey
  split
  · exact kept_setMessage ..
  next op _ =>
    split
    · next absent =>
      refine (kept_signOff s h).signOn_of h op fun law => signOnLaw_signOn ?_ ?_ (signOnLaw_signOff s h law)
      · rw [operator_signOff, if_pos rfl]
      · rw [signedOnAt_signOff, absent, ite_self]
    · next h' there =>
      refine .ite (.refl s) ?_
      have off := ((kept_signOff s h').trans (kept_signOff _ h)).trans
        (kept_movedMessage _ h' (ctx h' s).held.isSome)
      refine off.signOn_of h op fun law => signOnLaw_signOn ?_ ?_ (off.signOn law)
      · rw [operator_movedMessage, operator_signOff, if_pos rfl]
      · rw [signedOnAt_movedMessage, signedOnAt_signOff, signedOnAt_signOff, if_pos ((law op h').1 there), ite_self]

/-! ### Keys (R33 to R49) -/

/-- A key's row keeps what the key's own rule keeps. -/
theorem kept_takeKey (k : KeyKind) (h : Head) (act : Nat → State → State) (ha : ∀ n u, Kept u (act n u)) :
    Kept s (takeKey k h act s) := by
  have passed (n : Nat) (u : State) : Kept u (gate k h (act n) u) := by
    have before : Kept u (keyAtTicket h (clearMessage h u)) := by
      refine (kept_onCtx u h (fun c => { c with message := none }) rfl).trans ?_
      unfold keyAtTicket
      split
      · exact kept_onTicket ..
      · exact .refl _
    exact .ite (.refl u) (.ite (before.trans (kept_setMessage ..)) (.ite (before.trans (ha ..)) before))
  unfold takeKey
  split
  · exact .refl s
  · exact .ite ((kept_onInbox ..).trans (passed ..)) (.refl s)

theorem kept_countKey (h : Head) (n : Nat) : Kept s (countKey h n s) :=
  .ite (kept_setMessage ..) (.ite (kept_onCtx _ _ _ rfl) (.ite (kept_onCtx _ _ _ rfl) (kept_onCtx _ _ _ rfl)))

theorem kept_labelKey (h : Head) : Kept s (labelKey h s) := by
  refine .ite (.ite (kept_setMessage ..) ?_) (.ite (kept_setMessage ..) (kept_onCtx _ _ _ rfl))
  split
  · exact kept_askItem ..
  · exact kept_setMessage ..

theorem kept_batchKey (h : Head) (n : Nat) : Kept s (batchKey h n s) := .ite (kept_setMessage ..) (kept_onCtx _ _ _ rfl)

theorem kept_clearKey (h : Head) : Kept s (clearKey h s) := (kept_dropRequest ..).trans (kept_onCtx _ _ _ rfl)

/-- A weighing key that the channel takes keeps what its change of the channel keeps. -/
theorem kept_weighingKey (h : Head) (r : Except Code Channel)
    (hr : ∀ d, r = .ok d → ChanKept (settings h s) (chan h s) d) : Kept s (weighingKey h r s) := by
  unfold weighingKey
  split
  · exact kept_onChan _ _ _ (hr _ rfl)
  · exact kept_setMessage ..

theorem kept_zeroKey (h : Head) :
    Kept s (weighingKey h (zeroKey (settings h s) (pairSettings h s) (chan h s)) s) :=
  kept_weighingKey _ _ _ fun _ hd => chanKept_zeroKey hd

theorem kept_tareKey (h : Head) : Kept s (weighingKey h (tareKey (settings h s) (chan h s)) s) := by
  refine kept_weighingKey _ _ _ fun d hd => ?_
  obtain ⟨m, rfl⟩ := tareKey_ok hd
  exact chanKept_manual ..

theorem kept_nextKey (h : Head) : Kept s (nextKey h s) := by
  refine .ite (kept_setMessage ..) (.ite (kept_setMessage ..) ?_)
  unfold callNext
  split
  · exact kept_setMessage ..
  · exact (kept_onSnu ..).trans (kept_onCtx _ _ _ rfl)

theorem kept_skipKey (h : Head) : Kept s (skipKey h s) := by
  refine .ite (kept_setMessage ..) ?_
  split
  · exact kept_setMessage ..
  · exact (kept_onSnu ..).trans (kept_onCtx _ _ _ rfl)

theorem kept_openWith (h : Head) (op : Operator) (n : Nat) : Kept s (openWith h op n s) := by
  unfold openWith
  split
  · exact kept_setMessage ..
  · exact ((kept_onTicket ..).trans (kept_onSnu ..)).trans (kept_onCtx _ _ _ rfl)

theorem kept_openKey (h : Head) : Kept s (openKey h s) := by
  unfold openKey
  split
  · exact .refl s
  refine .ite (kept_setMessage ..) (.ite (kept_setMessage ..) ?_)
  split
  · exact kept_openWith ..
  · exact .ite (kept_setMessage ..) ((kept_onSnu ..).trans (kept_openWith ..))

theorem kept_withTicket (h : Head) (f : TicketId → State → State) (hf : ∀ id u, Kept u (f id u)) :
    Kept s (withTicket h f s) := by
  unfold withTicket
  split
  · exact kept_setMessage ..
  · exact hf ..

theorem kept_pickKey (h : Head) (n : Nat) : Kept s (pickKey h n s) := by
  refine .ite (kept_setMessage ..) ?_
  split
  · exact kept_setMessage ..
  · exact .ite ((kept_onTicket ..).trans (kept_onCtx _ _ _ rfl)) (kept_setMessage ..)

theorem kept_voidLast (h : Head) (id : TicketId) : Kept s (voidLast h id s) := by
  unfold voidLast
  split
  · exact kept_setMessage ..
  · exact .ite ((kept_voidNewest ..).trans (kept_onCtx _ _ _ rfl)) (kept_setMessage ..)

theorem kept_totalTicket (h : Head) (id : TicketId) : Kept s (totalTicket h id s) :=
  have closed := (kept_closeRecord s id.slot h (settings h s).printer).trans (kept_leaveTicket _ h id)
  .ite (kept_setMessage ..) (.ite (kept_setMessage ..) (.ite (closed.trans (kept_setMessage ..)) closed))

end Sys2Proof.Machine
end

section
/-! SUPPORT. `Kept` along the counter link, and a new slot mask, which keeps all but the DISABLED slots. -/

namespace Sys2Proof.Machine

variable (s : State)

/-! ### Presence (R181 to R184) -/

theorem kept_countError (i : Slot) : Kept s (countError i s) := .ite (.refl s) (kept_onSlot _ _ _ .rfl)

/-- A slot that is not DISABLED moves to another such state. -/
theorem kept_setPresence {i : Slot} {p : Presence} (hp : p ≠ .disabled) (hi : presence i s ≠ .disabled) :
    Kept s (setPresence i p s) := kept_onSlot _ _ _ ⟨fun e => absurd e hp, fun e => absurd e hi⟩

theorem kept_ownersLose (i : Slot) : Kept s (ownersLose i s) := by
  unfold ownersLose
  split
  · exact (((((kept_onHeadLink ..).trans (kept_latch ..)).trans (kept_loseContext ..)).trans (kept_goIdle ..)).trans
      (kept_onCopies ..)).trans (kept_examineWatch _)
  · exact (kept_latch s _).trans (kept_onPrinter ..)
  · exact (kept_latch s _).trans (kept_onSnu ..)

theorem kept_loseSlot {i : Slot} (hi : presence i s ≠ .disabled) : Kept s (loseSlot .absent i s) :=
  (kept_setPresence s Presence.noConfusion hi).trans (kept_ownersLose ..)

theorem kept_ownersJoin (i : Slot) : Kept s (ownersJoin i s) := by
  unfold ownersJoin
  split
  · exact ((kept_onHeadLink ..).trans (kept_restart ..)).trans (kept_onCopies ..)
  · exact .refl s
  · exact kept_onSnu ..

theorem kept_joinSlot {i : Slot} (hi : presence i s ≠ .disabled) : Kept s (joinSlot i s) :=
  (kept_onSlot _ _ _ ⟨Presence.noConfusion, fun e => absurd e hi⟩).trans (kept_ownersJoin ..)

theorem kept_takeJoin {i : Slot} (hi : presence i s ≠ .disabled) : Kept s (takeJoin i s) :=
  have lost : Kept s (if onLink i s then loseSlot .absent i s else s) := .ite (kept_loseSlot s hi) (.refl s)
  lost.trans (kept_joinSlot _ (lost.notDisabled hi))

theorem onLink_notDisabled {i : Slot} {s : State} (h : onLink i s = true) : presence i s ≠ .disabled := by
  intro e
  simp [onLink, e] at h

theorem kept_channelMiss (i : Slot) : Kept s (channelMiss i s) := by
  unfold channelMiss
  split
  · exact kept_onChan _ _ _ (chanKept_missed ..)
  · exact .refl s

theorem kept_takeMiss (i : Slot) : Kept s (takeMiss i s) := by
  unfold takeMiss
  split
  · exact .refl s
  next on =>
    have hi : presence i s ≠ .disabled := onLink_notDisabled (by simpa using on)
    have missed := kept_channelMiss s i
    exact .ite (missed.trans (kept_loseSlot _ (missed.notDisabled hi)))
      ((kept_onSlot _ _ _ ⟨Presence.noConfusion, fun e => absurd e hi⟩).trans (kept_channelMiss ..))

/-! ### Good reports and upstream parts (R176 to R189) -/

theorem kept_takeKeyEvent (h : Head) (k : WireKey) : Kept s (takeKeyEvent h k s) := by
  refine .ite (.refl s) ?_
  split
  · exact .ite ((kept_onHeadLink ..).trans (kept_onInbox ..)) ((kept_onHeadLink ..).trans (kept_countError ..))
  · exact (kept_onHeadLink ..).trans (kept_countError ..)

theorem kept_takeWireAck (h : Head) (a : WireAck) : Kept s (takeWireAck h a s) := by
  unfold takeWireAck
  split
  · exact (kept_onHeadLink ..).trans (kept_onInbox ..)
  · exact kept_countError ..

theorem kept_handHead (h : Head) (r : HeadReport) : Kept s (handHead h r s) := by
  have keyed : Kept s (match r.key with
      | some k => takeKeyEvent h k (onInbox h (fun b => { b with samples := b.samples ++ [r.raw] }) s)
      | none => onInbox h (fun b => { b with samples := b.samples ++ [r.raw] }) s) := by
    split
    · exact (kept_onInbox ..).trans (kept_takeKeyEvent ..)
    · exact kept_onInbox ..
  unfold handHead
  dsimp only
  split
  · exact keyed.trans (kept_takeWireAck ..)
  · exact keyed

theorem kept_channelOnline (h : Head) : Kept s (channelOnline h s) :=
  .ite (.refl s) (kept_onChan _ _ _ (chanKept_startSettling ..))

theorem kept_handOn (i : Slot) (first : Bool) (m : Upstream) : Kept s (handOn i first m s) := by
  unfold handOn
  split
  · exact (Kept.ite (kept_channelOnline ..) (.refl s)).trans (kept_handHead ..)
  · exact .ite (kept_printerOnline ..) (kept_takePrinterReport ..)
  · exact kept_takeCounter ..
  · exact .refl s

theorem kept_takeReport (i : Slot) (m : Upstream) : Kept s (takeReport i m s) := by
  have online (first : Bool) (hi : presence i s ≠ .disabled) : Kept s (handOn i first m (setPresence i .online s)) :=
    (kept_setPresence s Presence.noConfusion hi).trans (kept_handOn ..)
  unfold takeReport
  split
  · exact .refl s
  · exact .refl s
  all_goals next e => exact online _ (by simp [e])

theorem kept_rejectPart (i : Slot) : Kept s (rejectPart i s) := (kept_countError ..).trans (kept_takeMiss ..)

theorem kept_upstreamPart (i : Slot) (part : Option (List Byte)) : Kept s (upstreamPart i part s) := by
  unfold upstreamPart
  split
  · exact .refl s
  next on =>
    have hi : presence i s ≠ .disabled := by simpa using on
    split
    · exact kept_takeMiss ..
    · exact kept_rejectPart ..
    · exact kept_rejectPart ..
    next m _ =>
      cases m with
      | join k => exact .ite (kept_takeJoin s hi) (kept_rejectPart ..)
      | head | printer | dispenser => exact kept_takeReport ..

/-! ### Frame start (R174) -/

theorem kept_restartSlot (i : Slot) : Kept s (restartSlot i s) := by
  unfold restartSlot
  split
  next e => exact kept_loseSlot s (by simp [e])
  next e => exact kept_loseSlot s (by simp [e])
  next e => exact kept_setPresence s Presence.noConfusion (by simp [e])
  · exact .refl s
  · exact .refl s

/-- The Link Controller written but for its mask and its slots. -/
theorem kept_link (u : Lnk) (hm : u.mask = s.lnk.mask) (hs : u.slots = s.lnk.slots) : Kept s { s with lnk := u } :=
  ⟨⟨rfl, rfl, rfl, fun _ => rfl, fun _ => .refl .., signOnLaw_congr (fun _ => rfl) rfl⟩, hm,
    fun i => by simp [presence, slotLink, hs]⟩

theorem kept_restartDone : Kept s { s with lnk := { s.lnk with restart := false } } := kept_link s _ rfl rfl

theorem kept_applyRestart : Kept s (applyRestart s) := by
  have restarted : Kept s (eachSlotDown restartSlot s) := .foldl (fun u i => kept_restartSlot u i) _ s
  unfold applyRestart
  dsimp only
  split
  · exact restarted.trans (kept_restartDone (eachSlotDown restartSlot s))
  · exact .refl s

theorem kept_joinWait (i : Slot) : Kept s (joinWait i s) := by
  refine kept_onSlot _ _ _ ?_
  rw [presence]
  split
  next e =>
    rw [e]
    dsimp only
    split <;> simp
  · rfl

theorem kept_countFrame : Kept s (countFrame s) :=
  (kept_link s { s.lnk with frame := s.lnk.frame + 1 } rfl rfl).trans (.of_blocks ⟨rfl, rfl, rfl, rfl, rfl, rfl⟩)

/-! ### A new slot mask (R180) -/

theorem keptBeside_onSlot (i : Slot) (f : SlotLink → SlotLink) : KeptBeside s (onSlot i f s) :=
  ⟨rfl, rfl, rfl, fun _ => rfl, fun _ => .refl .., signOnLaw_congr (fun _ => rfl) rfl⟩

theorem keptBeside_link (u : Lnk) : KeptBeside s { s with lnk := u } :=
  ⟨rfl, rfl, rfl, fun _ => rfl, fun _ => .refl .., signOnLaw_congr (fun _ => rfl) rfl⟩

theorem keptBeside_maskSlot (m : Table Bool 11) (i : Slot) : KeptBeside s (maskSlot m i s) := by
  unfold maskSlot
  split
  · split
    · exact (keptBeside_onSlot ..).trans (kept_ownersLose ..).toKeptBeside
    · exact keptBeside_onSlot ..
  · split
    · exact keptBeside_onSlot ..
    · exact (Kept.refl s).toKeptBeside
  · exact (Kept.refl s).toKeptBeside
  · exact (Kept.refl s).toKeptBeside

theorem KeptBeside.foldl {α : Type} {f : State → α → State} (hf : ∀ s a, KeptBeside s (f s a)) :
    ∀ (xs : List α) (s : State), KeptBeside s (xs.foldl f s)
  | [], s => (Kept.refl s).toKeptBeside
  | x :: xs, s => (hf s x).trans (KeptBeside.foldl hf xs (f s x))

theorem keptBeside_applyMask : KeptBeside s (applyMask s) := by
  unfold applyMask
  split
  · exact (Kept.refl s).toKeptBeside
  next m _ =>
    have masked : KeptBeside s (eachSlotDown (maskSlot m) s) := .foldl (fun u i => keptBeside_maskSlot u m i) _ s
    exact masked.trans (keptBeside_link ..)

theorem presence_setPresence (i j : Slot) (p : Presence) :
    presence j (setPresence i p s) = if j = i then p else presence j s := by
  rw [presence, setPresence, slotLink_onSlot]
  split <;> rfl

/-- A loss that leaves slot `i` DISABLED disables no other. -/
theorem disabled_loseSlot (i j : Slot) :
    presence j (loseSlot .disabled i s) = .disabled ↔ j = i ∨ presence j s = .disabled := by
  rw [loseSlot, (kept_ownersLose ..).disabled, presence_setPresence]
  split <;> simp_all

theorem mask_maskSlot (m : Table Bool 11) (i : Slot) : (maskSlot m i s).lnk.mask = s.lnk.mask := by
  unfold maskSlot
  split
  · split
    · exact (kept_ownersLose ..).mask
    · rfl
  · split <;> rfl
  · rfl
  · rfl

/-- One slot under a new mask, where DISABLED stood for the old one: it now stands for the new one. -/
theorem disabled_maskSlot_same {m : Table Bool 11} {i : Slot} {s : State}
    (hi : presence i s = .disabled ↔ s.lnk.mask.look i = false) :
    presence i (maskSlot m i s) = .disabled ↔ m.look i = false := by
  unfold maskSlot
  split
  next old new =>
    split
    · simp [disabled_loseSlot, new]
    · simp [presence_setPresence, new]
  next old new => simp [hi.2 old, presence_setPresence, new]
  next old new => simp [hi, old, new]
  next old new => simp [hi, old, new]

theorem disabled_maskSlot_ne {m : Table Bool 11} {i j : Slot} (ne : j ≠ i) :
    presence j (maskSlot m i s) = .disabled ↔ presence j s = .disabled := by
  unfold maskSlot
  split
  · split
    · simp [disabled_loseSlot, ne]
    · simp [presence_setPresence, ne]
  · split
    · simp [presence_setPresence, ne]
    · rfl
  · rfl
  · rfl

/-- A run of slots, each once, under a new mask: those of the run follow the new mask, the others stay as they are. -/
theorem disabled_foldl_maskSlot (m : Table Bool 11) : ∀ (is : List Slot) (s : State), is.Nodup →
    (∀ i ∈ is, presence i s = .disabled ↔ s.lnk.mask.look i = false) → ∀ j,
    presence j (is.foldl (fun s i => maskSlot m i s) s) = .disabled
      ↔ if j ∈ is then m.look j = false else presence j s = .disabled
  | [], s, _, _, j => by simp
  | i :: is, s, nodup, old, j => by
    obtain ⟨notIn, nodup⟩ := List.nodup_cons.1 nodup
    have rest : ∀ k ∈ is, presence k (maskSlot m i s) = .disabled ↔ (maskSlot m i s).lnk.mask.look k = false := by
      intro k hk
      have ne : k ≠ i := fun e => notIn (e ▸ hk)
      rw [disabled_maskSlot_ne s ne, mask_maskSlot]
      exact old k (List.mem_cons_of_mem _ hk)
    rw [List.foldl_cons, disabled_foldl_maskSlot m is _ nodup rest j]
    by_cases e : j = i
    · subst e
      simp only [notIn, if_false, List.mem_cons_self, if_true]
      exact disabled_maskSlot_same (old j List.mem_cons_self)
    · simp only [List.mem_cons, e, false_or]
      split
      · rfl
      · exact disabled_maskSlot_ne s e

theorem maskLaw_maskTaken (m : Table Bool 11) (old : Option (Table Bool 11)) :
    MaskLaw { s with lnk := { s.lnk with mask := m, pendingMask := old } }
      ↔ ∀ i, presence i s = .disabled ↔ m.look i = false := Iff.rfl

theorem maskLaw_applyMask (law : MaskLaw s) : MaskLaw (applyMask s) := by
  unfold applyMask
  split
  · exact law
  next m _ =>
    refine (maskLaw_maskTaken _ m none).2 fun i => ?_
    have listed : ∀ i : Slot, i ∈ allSlots.reverse := by decide
    have slots := disabled_foldl_maskSlot m allSlots.reverse s (by decide) (fun j _ => law j) i
    rwa [if_pos (listed i)] at slots

theorem Kept.maskLaw {s t : State} (k : Kept s t) (law : MaskLaw s) : MaskLaw t := by
  intro i
  rw [k.disabled, k.mask]
  exact law i

/-- What a frame start does after the mask. -/
theorem kept_afterMask : Kept (applyMask s) (frameStart s) :=
  ((kept_applyRestart _).trans (.foldl (fun u i => kept_joinWait u i) _ _)).trans (kept_countFrame _)

/-! ### Downstream parts (R175, R178) -/

theorem kept_sendWelcome (i : Slot) : Kept s (sendWelcome i s) := by
  have cleared : Kept s (clearRefresh i s) := by
    unfold clearRefresh
    split
    · exact kept_onHeadLink ..
    · exact .refl s
  exact .ite (kept_send ..) (.ite (cleared.trans (kept_send ..)) (.refl s))

theorem kept_sendHeadUpdate (h : Head) : Kept s (sendHeadUpdate h s) := .of_blocks (by simp)

theorem kept_sendPrinterUpdate (p : Printer) : Kept s (sendPrinterUpdate p s) := .of_blocks (by simp)

theorem kept_sendDispenserUpdate : Kept s (sendDispenserUpdate s) := .of_blocks (by simp)

end Sys2Proof.Machine
end

section
/-! SUPPORT. From `Kept` to the laws: every row keeps the zero counts, the locks, the sign-on table, the slot mask and the
port in order. -/

namespace Sys2Proof.Machine

/-! ### The laws across one event -/

/-- What an event keeps, a sample, a new mask and the work of a command among them. -/
structure Lawful (s t : State) : Prop where
  shown : t.shown = s.shown
  zero : ZeroLaw s → ZeroLaw t
  lock : LockLaw s → LockLaw t
  rearmed : ∀ h, (chan h s).lock = .locked → (chan h t).lock = .armed → Rearmed h t
  signOn : SignOnLaw s → SignOnLaw t
  mask : MaskLaw s → MaskLaw t

/-- An event leaves the command in process with the buffer as it was, or ends it. -/
def PortKept (s t : State) : Prop :=
  t.port.inProcess = none ∨ t.port.inProcess = s.port.inProcess ∧ t.port.buffer = s.port.buffer

/-- What a step keeps of the laws. -/
structure LawsStep (s t : State) : Prop where
  zero : ZeroLaw s → ZeroLaw t
  signOn : SignOnLaw s → SignOnLaw t
  mask : MaskLaw s → MaskLaw t
  port : PortLaw s → PortLaw t
  lock : LockLaw s → LockLaw t
  rearmed : ∀ h, (chan h s).lock = .locked → (chan h t).lock = .armed → Rearmed h t

theorem KeptBeside.lawful {s t : State} (k : KeptBeside s t) (mask : MaskLaw s → MaskLaw t) : Lawful s t where
  shown := k.shown
  zero law h := by
    rw [k.settings]
    exact (k.chans h).zero (law h)
  lock law h := (k.chans h).lock (law h)
  rearmed h l a := by
    rw [rearmed_iff, k.settings]
    exact (k.chans h).rearmed l a
  signOn := k.signOn
  mask := mask

theorem KeptBeside.portKept {s t : State} (k : KeptBeside s t) : PortKept s t := .inr ⟨k.inProcess, k.buffer⟩

theorem Kept.lawful {s t : State} (k : Kept s t) : Lawful s t := k.toKeptBeside.lawful k.maskLaw

theorem Lawful.trans_kept {s t u : State} (l : Lawful s t) (k : Kept t u) : Lawful s u where
  shown := k.shown.trans l.shown
  zero law := k.lawful.zero (l.zero law)
  lock law := k.lawful.lock (l.lock law)
  signOn law := k.signOn (l.signOn law)
  mask law := k.maskLaw (l.mask law)
  rearmed h locked armed := by
    cases between : (chan h t).lock with
    | locked => exact k.lawful.rearmed h between armed
    | armed =>
      rw [rearmed_iff, k.settings]
      exact (k.chans h).reason (l.rearmed h locked between)

theorem Lawful.of_blocks {s t : State} (h : t.shown = s.shown ∧ t.lnk = s.lnk ∧ t.wge = s.wge ∧ t.hsu = s.hsu) :
    Lawful s t := by
  obtain ⟨hs, hl, hw, hh⟩ := h
  refine ⟨hs, ?_, ?_, ?_, signOnLaw_congr (fun a => by simp [ctx, hh]) (by rw [hh]), ?_⟩
  · simp [ZeroLaw, settings, chan, hw]
  · simp [LockLaw, chan, hw]
  · intro h locked armed
    rw [show chan h t = chan h s by simp [chan, hw], locked] at armed
    cases armed
  · simp [MaskLaw, presence, slotLink, hl]

/-- The end of every event keeps what its own work kept. -/
theorem kept_settle (old s : State) : Kept s (settle old s) := by
  refine .eachHead (fun h u => ?_) s
  have offered : Kept u (if itemInHand h old = itemInHand h u then u else renewOffer h u) :=
    .ite (.refl u) (kept_renewOffer ..)
  unfold settleHead
  exact offered.trans (.ite (.refl _) (kept_recompose ..))

/-- The view an event leaves behind has RDY low while its command stands, so the port stays in order. -/
theorem lawsStep_noted {s v : State} (l : Lawful s v) (p : PortKept s v) : LawsStep s (noted s v) := by
  have port (law : PortLaw s) : v.port.inProcess.isSome →
      v.port.buffer = none ∧ (∀ w ∈ v.shown, w.rdy = false) ∧ (portView s).rdy = false := by
    intro busy
    obtain none | ⟨same, buffer⟩ := p
    · rw [none] at busy; cases busy
    · rw [same] at busy
      obtain ⟨empty, views⟩ := law busy
      refine ⟨buffer.trans empty, l.shown ▸ views, ?_⟩
      simp [portView, rdy, Option.isNone_eq_false_iff.2 busy]
  obtain ⟨-, e⟩ | ⟨-, e⟩ := noted_eq s v
  · rw [e]
    exact { l with port := fun law busy => ⟨(port law busy).1, (port law busy).2.1⟩ }
  · rw [e]
    refine ⟨l.zero, l.signOn, l.mask, fun law busy => ?_, l.lock, l.rearmed⟩
    obtain ⟨empty, views, low⟩ := port law busy
    exact ⟨empty, by simpa [low] using views⟩

theorem LawsStep.refl (s : State) : LawsStep s s where
  zero := id
  signOn := id
  mask := id
  port := id
  lock := id
  rearmed _ l a := by rw [l] at a; cases a

/-! ### The three kinds of row -/

/-- The row of an event. -/
theorem lawsStep_takes {f : State → State} {s t : State} (e : takes f s = .next t) (l : Lawful s (f s))
    (p : PortKept s (f s)) : LawsStep s t := by
  obtain ⟨-, rfl⟩ | ⟨-, rfl⟩ := takes_next e
  · exact .refl _
  · refine lawsStep_noted (l.trans_kept (kept_settle ..)) ?_
    simpa only [PortKept, settle_frame] using p

theorem lawsStep_event {f : State → State} {s t : State} (e : takes f s = .next t) (k : Kept s (f s)) :
    LawsStep s t := lawsStep_takes e k.lawful k.portKept

/-- The row of a command of the host: its answer ends the command. -/
theorem lawsStep_command {pick : HostCmd → Option (State → Answer)} {s t : State}
    (e : takes (owner pick) s = .next t) (work : ∀ c f, pick c = some f → Lawful s (f s).state) : LawsStep s t := by
  have owned : Lawful s (owner pick s) ∧ PortKept s (owner pick s) := by
    unfold owner
    split
    · exact ⟨(Kept.refl s).lawful, (Kept.refl s).portKept⟩
    next p _ =>
      split
      next f hf => exact ⟨{ work _ _ hf with }, .inl rfl⟩
      · exact ⟨(Kept.refl s).lawful, (Kept.refl s).portKept⟩
  exact lawsStep_takes e owned.1 owned.2

/-- A transaction, which writes the port and what it has shown. -/
theorem lawsStep_port {s t : State} (h : t.lnk = s.lnk ∧ t.wge = s.wge ∧ t.hsu = s.hsu)
    (port : PortLaw s → PortLaw t) : LawsStep s t := by
  obtain ⟨hl, hw, hh⟩ := h
  have same : Lawful s { t with shown := s.shown } := .of_blocks ⟨rfl, hl, hw, hh⟩
  exact ⟨same.zero, same.signOn, same.mask, port, same.lock, same.rearmed⟩

/-! ### Samples -/

/-- The flags that a sample latches at its head (R10, R16). -/
def sampleFlags (h : Head) (p : Processed) (s : State) : State :=
  let s := if p.zeroLimit then flagZeroLimit h s else s
  if p.cellFault then flagCellFault h s else s

theorem takeSample_none {h : Head} {raw : Int} {s : State}
    (e : process (settings h s) (pairSettings h s) (ctx h s).request.isSome (chan h s) raw = none) :
    takeSample h raw s = s := by simp [takeSample, e]

/-- A sample: the channel, the flags, then its result at the head. -/
theorem takeSample_some {h : Head} {raw : Int} {s : State} {p : Processed}
    (e : process (settings h s) (pairSettings h s) (ctx h s).request.isSome (chan h s) raw = some p) :
    takeSample h raw s
      = handResult h p.result p.cellFault p.newOver (sampleFlags h p (onChan h (fun _ => p.chan) s)) := by
  simp only [takeSample, e, sampleFlags]

theorem kept_sampleFlags (h : Head) (p : Processed) (s : State) : Kept s (sampleFlags h p s) := by
  have limit : Kept s (if p.zeroLimit then flagZeroLimit h s else s) := .ite (kept_latch ..) (.refl s)
  exact limit.trans (.ite (kept_latch ..) (.refl _))

theorem lawful_onChan {h : Head} {d : Channel} {s : State} (own : ChanLawful (settings h s) (chan h s) d) :
    Lawful s (onChan h (fun _ => d) s) := by
  have chans (a : Head) : ChanLawful (settings a s) (chan a s) (chan a (onChan h (fun _ => d) s)) := by
    rw [chan_onChan]
    split
    · next e => rw [e]; exact own
    · exact (ChanKept.refl ..).toChanLawful
  exact ⟨rfl, fun law a => (chans a).zero (law a), fun law a => (chans a).lock (law a), fun a => (chans a).rearmed,
    signOnLaw_congr (fun _ => rfl) rfl, id⟩

theorem lawful_takeSample (h : Head) (raw : Int) (s : State) :
    Lawful s (takeSample h raw s) ∧ PortKept s (takeSample h raw s) := by
  cases e : process (settings h s) (pairSettings h s) (ctx h s).request.isSome (chan h s) raw with
  | none =>
    rw [takeSample_none e]
    exact ⟨(Kept.refl s).lawful, (Kept.refl s).portKept⟩
  | some p =>
    have after := (kept_sampleFlags h p (onChan h (fun _ => p.chan) s)).trans
      (kept_handResult _ h p.result p.cellFault p.newOver)
    rw [takeSample_some e]
    exact ⟨(lawful_onChan (chanLawful_process e)).trans_kept after, .inr ⟨after.inProcess, after.buffer⟩⟩

theorem lawful_takeHanded (h : Head) (p : Int → Bool) (s : State) :
    Lawful s (takeHanded h p s) ∧ PortKept s (takeHanded h p s) := by
  unfold takeHanded
  split
  · exact ⟨(Kept.refl s).lawful, (Kept.refl s).portKept⟩
  next raw rest _ =>
    split
    · have sample := lawful_takeSample h raw (onInbox h (fun b => { b with samples := rest }) s)
      exact ⟨{ sample.1 with }, sample.2⟩
    · exact ⟨(Kept.refl s).lawful, (Kept.refl s).portKept⟩

/-! The three rows that take a sample, unfolded to their event. -/

theorem exec_channelSample (h : Head) (s : State) :
    exec (.channelSample h) s = takes (fun s => takeHanded h (fun _ => true) s) s := rfl

theorem exec_cellFaultEntry (h : Head) (s : State) :
    exec (.cellFaultEntry h) s = takes (fun s => takeHanded h (entersFault (chan h s)) s) s := rfl

theorem exec_cellFaultRecovery (h : Head) (s : State) :
    exec (.cellFaultRecovery h) s = takes (fun s => takeHanded h (leavesFault (chan h s)) s) s := rfl

theorem lawsStep_sample {h : Head} {p : State → Int → Bool} {s t : State}
    (e : takes (fun s => takeHanded h (p s) s) s = .next t) : LawsStep s t :=
  have taken := lawful_takeHanded h (p s) s
  lawsStep_takes e taken.1 taken.2

/-! ### Transactions -/

theorem portLaw_endTransaction (bytes : List Byte) (s : State) (law : PortLaw s) : PortLaw (endTransaction bytes s) :=
  fun busy => ⟨(law busy).1, fun _ hv => nomatch hv⟩

theorem portLaw_readResponse (n : Nat) (s : State) (law : PortLaw s) : PortLaw (readResponse n s) := by
  unfold readResponse
  split
  · exact law
  · exact portLaw_endTransaction _ _ law

/-- An accepted command comes with an empty buffer and views that end with its transaction. -/
theorem portLaw_accept (code : Byte) (bytes sent : List Byte) (s : State) :
    PortLaw (accept code bytes (endTransaction sent s)) := by
  unfold accept
  dsimp only
  split
  · exact fun _ => ⟨rfl, fun _ hv => nomatch hv⟩
  · exact fun busy => nomatch busy

theorem portLaw_judgeCommand (ago : Nat) (bytes : List Byte) (s : State) (law : PortLaw s) :
    PortLaw (judgeCommand ago bytes s) := by
  unfold judgeCommand
  split
  · exact law
  · dsimp only
    split
    · exact portLaw_readResponse _ _ law
    split
    · exact portLaw_accept _ _ _ _
    · exact portLaw_endTransaction _ _ law

theorem lawsStep_transacts {f : State → State} {s t : State} (e : transacts f s = .next t)
    (h : (f s).lnk = s.lnk ∧ (f s).wge = s.wge ∧ (f s).hsu = s.hsu) (port : PortLaw s → PortLaw (f s)) :
    LawsStep s t := by
  unfold transacts at e
  split at e
  · cases e; exact .refl s
  · cases e; exact lawsStep_port h port

/-! ### Resets -/

theorem lawsStep_powerOn {s t : State} (e : exec .powerOnReset s = .next t) : LawsStep s t := by
  cases e
  refine ⟨fun _ => zeroLaw_reset, fun _ => signOnLaw_reset, fun _ => maskLaw_reset, fun _ => portLaw_reset,
    fun _ => lockLaw_reset, fun h _ _ => .inr ?_⟩
  have emptied : chan h State.reset = idleChannel 0 := chan_reset h
  exact ⟨emptied ▸ Nat.zero_le 1, emptied ▸ Nat.zero_le 1⟩

theorem operator_loseContext (h a : Head) (s : State) :
    (ctx a (loseContext h s)).operator = if a = h then none else (ctx a s).operator := by
  rw [loseContext, ctx_onCtx]
  split
  · rfl
  next ne => rw [operator_signOff, if_neg ne]

theorem operator_foldl_loseContext (a : Head) : ∀ (hs : List Head) (s : State),
    (ctx a (hs.foldl (fun s h => loseContext h s) s)).operator = if a ∈ hs then none else (ctx a s).operator
  | [], s => by simp
  | h :: hs, s => by
    rw [List.foldl_cons, operator_foldl_loseContext a hs, operator_loseContext]
    by_cases e : a = h <;> simp [e]

/-- After a hub reset no head has an operator. -/
theorem operator_resetHeads (s : State) (h : Head) : (ctx h (resetHeads s)).operator = none := by
  have listed : ∀ h : Head, h ∈ allHeads.reverse := by decide
  have run := operator_foldl_loseContext h allHeads.reverse s
  rw [if_pos (listed h)] at run
  simpa only [resetHeads, ctx] using run

theorem lawful_hubReset (s : State) : Lawful s (hubResetEffects s) := by
  have settingsKept (h : Head) : settings h (hubResetEffects s) = settings h s := by
    simp [hubResetEffects, settings, resetChannels]
  have chans (h : Head) : chan h (hubResetEffects s) = idleChannel (settings h s).z0 := by
    simp [hubResetEffects, chan, resetChannels, settings]
  have operators (h : Head) : (ctx h (hubResetEffects s)).operator = none := by
    have kept : ctx h (hubResetEffects s) = ctx h (resetHeads s) := by simp [hubResetEffects, ctx]
    rw [kept, operator_resetHeads]
  have table (n : Operator) : signedOnAt n (hubResetEffects s) = none := by
    simp [hubResetEffects, signedOnAt, resetHeads]
  refine ⟨by simp, fun _ h => ?_, fun _ h => ?_, fun h _ _ => .inr ?_, fun _ n h => ?_, fun _ i => ?_⟩
  · rw [settingsKept, chans]
    exact zeroIn_z0 _ _ rfl
  · rw [chans]
    exact fun l => Lock.noConfusion l
  · rw [chans]
    exact ⟨Nat.zero_le 1, Nat.zero_le 1⟩
  · rw [table, operators]
    exact ⟨fun e => Option.noConfusion rfl (heq_of_eq e), fun e => Option.noConfusion rfl (heq_of_eq e)⟩
  · have slot : slotLink i (hubResetEffects s) = resetSlot (s.lnk.mask.look i) := by
      simp [hubResetEffects, slotLink, resetLink]
    have mask : (hubResetEffects s).lnk.mask = s.lnk.mask := by simp [hubResetEffects, resetLink]
    rw [presence, slot, mask, resetSlot]
    cases s.lnk.mask.look i <;> simp

theorem lawsStep_pinFall {s t : State} (e : exec .resetPinFall s = .next t) : LawsStep s t := by
  cases e
  have reset := (lawful_hubReset s).trans_kept (kept_settle s _)
  refine lawsStep_noted { reset with } (.inl ?_)
  have port : (settle s (hubResetEffects s)).port = (hubResetEffects s).port := by simp
  exact (congrArg Port.inProcess port).trans rfl

theorem lawsStep_pinRise {s t : State} (e : exec .resetPinRise s = .next t) : LawsStep s t := by
  cases e
  exact lawsStep_noted { (Kept.refl s).lawful with } (.inr ⟨rfl, rfl⟩)

end Sys2Proof.Machine
end

section
/-! SUPPORT. The commands of the host that write more than their own tables, and the settlement of the step lemma for
zero counts, locks, the sign-on table, the slot mask and the port. -/

namespace Sys2Proof.Machine

/-! ### CONFIGURE_HEAD and CONFIGURE_PAIR (R3, R4) -/

/-- What CONFIGURE_HEAD does to a channel that stays out of IDLE, after the new calibration: the tare of a new scale
type, the restart, the start of weighing. -/
def afterCalibration (h : Head) (old new : HeadSettings) (s : State) : State :=
  let scale := old.scale != new.scale
  let enabled := old.role == .disabled && new.role != .disabled
  let s := if scale then onChan h (fun c => { c with manual := none }) s else s
  let s := if calibrationChanged old new || scale || enabled then restart h s else s
  if enabled && onLink (headSlot h) s then onChan h startSettling s else s

theorem channelEffects_eq (h : Head) (old new : HeadSettings) (s : State) : channelEffects h old new s
    = if old.role != .disabled && new.role == .disabled then goIdle h s
      else afterCalibration h old new
        (if calibrationChanged old new then onChan h (fun c => { c with manual := none, zero := new.z0 }) s else s) := rfl

theorem kept_afterCalibration (h : Head) (old new : HeadSettings) (s : State) :
    Kept s (afterCalibration h old new s) := by
  have tare : Kept s (if old.scale != new.scale then onChan h (fun c => { c with manual := none }) s else s) :=
    .ite (kept_onChan _ _ _ (chanKept_manual ..)) (.refl s)
  unfold afterCalibration
  exact (tare.trans (.ite (kept_restart ..) (.refl _))).trans
    (.ite (kept_onChan _ _ _ (chanKept_startSettling ..)) (.refl _))

theorem kept_channelEffects {h : Head} {old new : HeadSettings} {s : State} (hs : settings h s = new) :
    Kept s (channelEffects h old new s) := by
  have calibrated : ChanKept (settings h s) (chan h s) { chan h s with manual := none, zero := new.z0 } :=
    ⟨⟨fun _ => zeroIn_z0 _ _ (by rw [hs]), id, fun l a => by rw [show (chan h s).lock = .armed from a] at l; cases l⟩,
      id⟩
  rw [channelEffects_eq]
  exact .ite (kept_goIdle ..) ((Kept.ite (kept_onChan _ _ _ calibrated) (.refl s)).trans (kept_afterCalibration ..))

theorem Kept.zeroIn {s t : State} (k : Kept s t) (h : Head) (z : ZeroIn (settings h s) (chan h s)) :
    ZeroIn (settings h s) (chan h t) := (k.chans h).zero z

/-- A zero count that the new settings may have put out of range is set to the new Z0. -/
theorem zeroIn_channelEffects {h : Head} {old new : HeadSettings} {s : State} (hs : settings h s = new)
    (z : calibrationChanged old new = false → ZeroIn new (chan h s)) :
    ZeroIn new (chan h (channelEffects h old new s)) := by
  rw [channelEffects_eq]
  split
  · have idle : ZeroIn (settings h s) (chan h (onChan h (toIdle (settings h s)) s)) := by
      rw [chan_onChan_same]
      exact zeroIn_z0 _ _ rfl
    exact hs ▸ (kept_handResult (onChan h (toIdle (settings h s)) s) h (blankResult .idle unstable) false false).zeroIn h
      idle
  · split
    · have calibrated : ZeroIn (settings h s)
          (chan h (onChan h (fun c => { c with manual := none, zero := new.z0 }) s)) := by
        rw [chan_onChan_same]
        exact zeroIn_z0 _ _ (by rw [hs])
      exact hs ▸ (kept_afterCalibration h old new _).zeroIn h calibrated
    next same =>
      have z := z (by simpa using same)
      subst hs
      exact (kept_afterCalibration h old _ s).zeroIn h z

/-- Settings of the same calibration have the same range of zero counts (R16). -/
theorem zeroIn_congr {old new : HeadSettings} {c : Channel} (same : calibrationChanged old new = false)
    (z : ZeroIn old c) : ZeroIn new c := by
  simp only [calibrationChanged, Bool.or_eq_false_iff, bne_eq_false_iff_eq] at same
  obtain ⟨⟨hz0, -⟩, hzr⟩ := same
  simpa only [ZeroIn, zeroLow, zeroHigh, hz0, hzr] using z

/-- The state a CONFIGURE_HEAD that is taken leaves. -/
def configured (h : Head) (new : HeadSettings) (s : State) : State :=
  let old := settings h s
  let s := storeSettings h new s
  let s := if old.role != new.role then changeRole h s else s
  let s := channelEffects h old new s
  if old.scale != new.scale then onHeadLink h (fun l => { l with refresh := true }) s else s

theorem configureHead_eq (f : RawHead) (s : State) : configureHead f s
    = match headSettingsOf f with
      | none => refuse .badValue s
      | some (h, new) => if service h s == .serving then refuse .wrongState s else done .empty (configured h new s) := rfl

theorem lawful_configured (h : Head) (new : HeadSettings) (s : State) : Lawful s (configured h new s) := by
  have role : Kept (storeSettings h new s) (if (settings h s).role != new.role
      then changeRole h (storeSettings h new s) else storeSettings h new s) := .ite (kept_changeRole ..) (.refl _)
  generalize hu : (if (settings h s).role != new.role
      then changeRole h (storeSettings h new s) else storeSettings h new s) = u at role
  have newSettings : settings h u = new := by rw [role.settings, settings_storeSettings_same]
  have effects := role.trans (kept_channelEffects (old := settings h s) newSettings)
  have after (v : State) : Kept v (if (settings h s).scale != new.scale
      then onHeadLink h (fun l => { l with refresh := true }) v else v) := .ite (kept_onHeadLink ..) (.refl v)
  have whole := effects.trans (after _)
  have e : configured h new s = if (settings h s).scale != new.scale
      then onHeadLink h (fun l => { l with refresh := true }) (channelEffects h (settings h s) new u)
      else channelEffects h (settings h s) new u := by rw [← hu]; rfl
  rw [← e] at whole
  refine ⟨whole.shown, fun law a => ?_, whole.lawful.lock, whole.lawful.rearmed, whole.lawful.signOn,
    whole.lawful.mask⟩
  rw [whole.settings]
  by_cases same : a = h
  · subst same
    have before : calibrationChanged (settings a s) new = false → ZeroIn new (chan a u) := fun unchanged =>
      newSettings ▸ role.settings a ▸ role.zeroIn a (by
        rw [settings_storeSettings_same]
        exact zeroIn_congr unchanged (law a))
    have here := zeroIn_channelEffects newSettings before
    rw [settings_storeSettings_same, e]
    split
    · rwa [chan_onHeadLink]
    · exact here
  · have other : settings a (storeSettings h new s) = settings a s := by
      rw [settings_storeSettings, if_neg same]
    exact (whole.chans a).zero (by rw [other]; exact law a)

theorem lawful_configureHead (f : RawHead) (s : State) : Lawful s (configureHead f s).state := by
  rw [configureHead_eq]
  split
  · exact (Kept.refl s).lawful
  · split
    · exact (Kept.refl s).lawful
    · exact lawful_configured ..

theorem kept_storePair (p : PairIndex) (new : PairSettings) (s : State) : Kept s (storePair p new s) :=
  ⟨⟨rfl, rfl, rfl, fun _ => rfl, fun _ => .refl .., signOnLaw_congr (fun _ => rfl) rfl⟩, rfl, fun _ => .rfl⟩

theorem kept_configurePair (f : RawPair) (s : State) : Kept s (configurePair f s).state := by
  unfold configurePair
  split
  · exact .refl s
  next p new _ =>
    have stored := kept_storePair p new s
    exact .ite stored ((stored.trans (kept_restart ..)).trans (kept_restart ..))

/-! ### The other commands that write heads, channels or slots -/

theorem kept_setSlots (m : Nat) (s : State) : Kept s (setSlots m s).state := by
  unfold setSlots
  split
  · exact .refl s
  · exact kept_link _ _ rfl rfl

theorem kept_readLink (n : Nat) (s : State) : Kept s (readLink n s).state := by
  unfold readLink
  split
  · exact .refl s
  · exact .ite (.foldl (fun u i => kept_onSlot u i _ .rfl) _ s) (.refl s)

theorem kept_updateItem (f : RawItem) (s : State) : Kept s (updateItem f s).state := by
  have offers (n : Nat) (u : State) : Kept u (renewOffers n u) :=
    .eachHead (fun h v => .ite (kept_renewOffer v h) (.refl v)) u
  unfold updateItem
  split
  · exact .refl s
  next g _ =>
    split
    · exact .refl s
    next i _ =>
      have stale : Kept s (staleCopies (· == i.index) (onItemNumber g.number (updated g) s)) := .of_blocks (by simp)
      exact .ite stale (stale.trans (offers ..))

theorem kept_voidTicketCommand (slot serial : Nat) (s : State) : Kept s (voidTicketCommand slot serial s).state := by
  have released (t : TicketSlot) : Kept s (releaseHolder t s) := by
    unfold releaseHolder
    split
    · exact kept_leaveTicket ..
    · exact .refl s
  unfold voidTicketCommand onNamed
  split
  · exact .refl s
  split
  · exact .refl s
  split
  · exact .refl s
  dsimp only
  split
  · exact (released _).trans (kept_voidRecord ..)
  · exact .refl s

theorem kept_closeDay (s : State) : Kept s (closeDay s).state := by
  have numbers (u : State) : Kept u (closeNumbers u) :=
    (kept_onSnu ..).trans (.eachHead (fun h v => kept_onCtx v h _ rfl) _)
  have cancelled (u : State) : Kept u (eachHead (fun h => cancelRequest h .dayClosed) u) :=
    .eachHead (fun h v => kept_cancelRequest v h _) u
  have drain : Kept s (startDrain s) := .of_blocks ⟨rfl, rfl, rfl, rfl, rfl, rfl⟩
  unfold closeDay
  dsimp only
  split
  · exact .refl s
  split
  · exact .refl s
  · simp only [done]
    exact (drain.trans (numbers _)).trans (cancelled _)

theorem kept_linkRestart (s : State) : Kept s (linkRestart s).state := kept_link s _ rfl rfl

/-! ### Every row -/

/-! Rows unfolded to their event. -/

theorem exec_captureLabelComplete (h : Head) (s : State) : exec (.captureLabelComplete h) s
    = takes (fun s => if lineRequest h s then s else examine h s) s := rfl

theorem exec_headServiceFrameStart (s : State) : exec .headServiceFrameStart s = takes (fun s =>
    if s.hand.hsu = 0 then s else eachHead frameHead { s with hand := { s.hand with hsu := s.hand.hsu - 1 } }) s := rfl

theorem exec_copyFrameStart (s : State) : exec .copyFrameStart s = takes (fun s =>
    if s.hand.ccu = 0 then s else ageCopies { s with hand := { s.hand with ccu := s.hand.ccu - 1 } }) s := rfl

theorem exec_copyAck (h : Head) (s : State) : exec (.copyAck h) s = takes (fun s =>
    match (inbox h s).acks with
    | [] => s
    | a :: rest => takeAck h a (onInbox h (fun b => { b with acks := rest }) s)) s := rfl

theorem exec_ticketFrameStart (s : State) : exec .ticketFrameStart s = takes (fun s =>
    if s.hand.tkp = 0 then s
    else allTickets.foldl (fun s t => frameTicket t s) { s with hand := { s.hand with tkp := s.hand.tkp - 1 } }) s := rfl

theorem kept_frameHeadsTaken (s : State) :
    Kept s (eachHead frameHead { s with hand := { s.hand with hsu := s.hand.hsu - 1 } }) := by
  have counted : Kept s { s with hand := { s.hand with hsu := s.hand.hsu - 1 } } :=
    .of_blocks ⟨rfl, rfl, rfl, rfl, rfl, rfl⟩
  exact counted.trans (.eachHead (fun h u => kept_frameHead u h) _)

theorem kept_copiesAged (s : State) : Kept s (if s.hand.ccu = 0 then s
    else ageCopies { s with hand := { s.hand with ccu := s.hand.ccu - 1 } }) := by
  split
  · exact .refl s
  · exact .of_blocks (by simp)

theorem kept_ackTaken (h : Head) (s : State) : Kept s (match (inbox h s).acks with
    | [] => s
    | a :: rest => takeAck h a (onInbox h (fun b => { b with acks := rest }) s)) := by
  split
  · exact .refl s
  · exact (kept_onInbox ..).trans (kept_takeAck ..)

theorem kept_frameTicketsTaken (s : State) : Kept s (allTickets.foldl (fun s t => frameTicket t s)
    { s with hand := { s.hand with tkp := s.hand.tkp - 1 } }) := by
  have counted : Kept s { s with hand := { s.hand with tkp := s.hand.tkp - 1 } } :=
    .of_blocks ⟨rfl, rfl, rfl, rfl, rfl, rfl⟩
  exact counted.trans (.foldl (fun u k => kept_frameTicket u k) allTickets _)

/-- The rows of the commands that write neither channels nor heads nor slots. -/
def tableCommands : List Instr :=
  [.readHead, .addItem, .findItem, .nextItem, .stagePrice, .unstagePrice, .commitPrices, .withdrawItem,
    .reinstateItem, .readCopies, .setNumberRange, .readQueue, .listTickets, .readTicket, .collectTicket,
    .setCollection, .printText, .cancelJob, .redirectJobs, .readPrinter, .openDay, .readTotals, .readHold,
    .readClosing, .readStatus]

theorem lawsStep_tableCommand {c : Instr} (hc : c ∈ tableCommands) {s t : State} (e : exec c s = .next t) :
    LawsStep s t := by
  simp only [tableCommands, List.mem_cons, List.not_mem_nil, or_false] at hc
  rcases hc with rfl | rfl | rfl | rfl | rfl | rfl | rfl | rfl | rfl | rfl | rfl | rfl | rfl | rfl | rfl | rfl | rfl
      | rfl | rfl | rfl | rfl | rfl | rfl | rfl | rfl <;>
    exact lawsStep_command e fun c f h => by split at h <;> cases h; exact .of_blocks (by simp)

/-- The rows of the keys. -/
theorem lawsStep_key (k : KeyKind) (h : Head) {s t : State} (e : exec (keyRow k h) s = .next t) : LawsStep s t := by
  cases k
  case signOn => exact lawsStep_event e (kept_takeKey s _ h _ fun n u => kept_signOnKey u h n)
  case signOff => exact lawsStep_event e (kept_takeKey s _ h _ fun _ u => kept_signOff u h)
  case item => exact lawsStep_event e (kept_takeKey s _ h _ fun n u => kept_askItem u h n)
  case count => exact lawsStep_event e (kept_takeKey s _ h _ fun n u => kept_countKey u h n)
  case zero => exact lawsStep_event e (kept_takeKey s _ h _ fun _ u => kept_zeroKey u h)
  case tare => exact lawsStep_event e (kept_takeKey s _ h _ fun _ u => kept_tareKey u h)
  case clearTare =>
    exact lawsStep_event e (kept_takeKey s _ h _ fun _ u => kept_onChan u h _ (chanKept_manual ..))
  case next => exact lawsStep_event e (kept_takeKey s _ h _ fun _ u => kept_nextKey u h)
  case skip => exact lawsStep_event e (kept_takeKey s _ h _ fun _ u => kept_skipKey u h)
  case openKey => exact lawsStep_event e (kept_takeKey s _ h _ fun _ u => kept_openKey u h)
  case park =>
    exact lawsStep_event e (kept_takeKey s _ h _ fun _ u => kept_withTicket u h _ fun _ v =>
      (kept_onTicket v _ _).trans (kept_leaveTicket ..))
  case pick => exact lawsStep_event e (kept_takeKey s _ h _ fun n u => kept_pickKey u h n)
  case voidLast =>
    exact lawsStep_event e (kept_takeKey s _ h _ fun _ u => kept_withTicket u h _ fun id v => kept_voidLast v h id)
  case voidTicket =>
    exact lawsStep_event e (kept_takeKey s _ h _ fun _ u => kept_withTicket u h _ fun id v =>
      (kept_voidRecord v id.slot).trans (kept_leaveTicket ..))
  case total =>
    exact lawsStep_event e (kept_takeKey s _ h _ fun _ u => kept_withTicket u h _ fun id v => kept_totalTicket v h id)
  case label => exact lawsStep_event e (kept_takeKey s _ h _ fun _ u => kept_labelKey u h)
  case batch => exact lawsStep_event e (kept_takeKey s _ h _ fun n u => kept_batchKey u h n)
  case clear => exact lawsStep_event e (kept_takeKey s _ h _ fun _ u => kept_clearKey u h)

/-- Every row keeps the laws. -/
theorem lawsStep_exec (c : Instr) {s t : State} (e : exec c s = .next t) : LawsStep s t := by
  cases c
  case powerOnReset => exact lawsStep_powerOn e
  case resetPinFall => exact lawsStep_pinFall e
  case resetPinRise => exact lawsStep_pinRise e
  case commandTransaction => exact lawsStep_transacts e (by simp) (portLaw_judgeCommand _ _ s)
  case responseTransaction => exact lawsStep_transacts e (by simp) (portLaw_readResponse _ s)
  case configureHead =>
    exact lawsStep_command e (fun c f h => by split at h <;> cases h; exact lawful_configureHead ..)
  case configurePair =>
    exact lawsStep_command e (fun c f h => by split at h <;> cases h; exact (kept_configurePair ..).lawful)
  case setSlots => exact lawsStep_command e (fun c f h => by split at h <;> cases h; exact (kept_setSlots ..).lawful)
  case linkRestart =>
    exact lawsStep_command e (fun c f h => by split at h <;> cases h; exact (kept_linkRestart _).lawful)
  case readLink => exact lawsStep_command e (fun c f h => by split at h <;> cases h; exact (kept_readLink ..).lawful)
  case updateItem =>
    exact lawsStep_command e (fun c f h => by split at h <;> cases h; exact (kept_updateItem ..).lawful)
  case voidTicket =>
    exact lawsStep_command e (fun c f h => by split at h <;> cases h; exact (kept_voidTicketCommand ..).lawful)
  case closeDay => exact lawsStep_command e (fun c f h => by split at h <;> cases h; exact (kept_closeDay ..).lawful)
  case hubReset => exact lawsStep_command e (fun c f h => by split at h <;> cases h; exact lawful_hubReset ..)
  case readHead | addItem | findItem | nextItem | stagePrice | unstagePrice | commitPrices | withdrawItem
      | reinstateItem | readCopies | setNumberRange | readQueue | listTickets | readTicket | collectTicket
      | setCollection | printText | cancelJob | redirectJobs | readPrinter | openDay | readTotals | readHold
      | readClosing | readStatus =>
    exact lawsStep_tableCommand (by simp [tableCommands]) e
  case frameStart =>
    have beside := (keptBeside_applyMask s).trans (kept_afterMask s).toKeptBeside
    exact lawsStep_takes e (beside.lawful fun law => (kept_afterMask s).maskLaw (maskLaw_applyMask s law))
      beside.portKept
  case slotMaskTakesEffect =>
    have beside := keptBeside_applyMask s
    exact lawsStep_takes e (beside.lawful (maskLaw_applyMask s)) beside.portKept
  case linkRestartTakesEffect => exact lawsStep_event e (kept_applyRestart s)
  case joinWaitExpiry => exact lawsStep_event e (.ite (kept_joinWait s _) (.refl s))
  case headServiceFrameStart =>
    exact lawsStep_event ((exec_headServiceFrameStart s).symm.trans e) (.ite (.refl s) (kept_frameHeadsTaken s))
  case captureTimeout => exact lawsStep_event e (.ite (kept_frameRequest s _) (.refl s))
  case messageExpiry => exact lawsStep_event e (.ite (kept_frameMessage s _) (.refl s))
  case copyFrameStart => exact lawsStep_event ((exec_copyFrameStart s).symm.trans e) (kept_copiesAged s)
  case ticketFrameStart =>
    exact lawsStep_event ((exec_ticketFrameStart s).symm.trans e) (.ite (.refl s) (kept_frameTicketsTaken s))
  case ticketIdlePark => exact lawsStep_event e (.ite (kept_idlePark s _) (.refl s))
  case frameNotice => exact lawsStep_event e (kept_send s _ _)
  case welcome => exact lawsStep_event e (kept_sendWelcome s _)
  case headUpdate => exact lawsStep_event e (kept_sendHeadUpdate s _)
  case printerUpdate => exact lawsStep_event e (kept_sendPrinterUpdate s _)
  case dispenserUpdate => exact lawsStep_event e (kept_sendDispenserUpdate s)
  case headReport | printerReport | dispenserReport | join | upstreamRejected | upstreamMiss =>
    exact lawsStep_event e (kept_upstreamPart s _ _)
  case silenceLoss => exact lawsStep_event e (.ite (kept_upstreamPart s _ _) (.refl s))
  case channelSample h => exact lawsStep_sample ((exec_channelSample h s).symm.trans e)
  case cellFaultEntry h => exact lawsStep_sample ((exec_cellFaultEntry h s).symm.trans e)
  case cellFaultRecovery h => exact lawsStep_sample ((exec_cellFaultRecovery h s).symm.trans e)
  case copyAck h => exact lawsStep_event ((exec_copyAck h s).symm.trans e) (kept_ackTaken h s)
  case captureLineComplete => exact lawsStep_event e (.ite (kept_examine s _) (.refl s))
  case captureLabelComplete h =>
    exact lawsStep_event ((exec_captureLabelComplete h s).symm.trans e) (.ite (.refl s) (kept_examine s _))
  case keySignOn h => exact lawsStep_key .signOn h e
  case keySignOff h => exact lawsStep_key .signOff h e
  case keyItem h => exact lawsStep_key .item h e
  case keyCount h => exact lawsStep_key .count h e
  case keyZero h => exact lawsStep_key .zero h e
  case keyTare h => exact lawsStep_key .tare h e
  case keyClearTare h => exact lawsStep_key .clearTare h e
  case keyNext h => exact lawsStep_key .next h e
  case keySkip h => exact lawsStep_key .skip h e
  case keyOpen h => exact lawsStep_key .openKey h e
  case keyPark h => exact lawsStep_key .park h e
  case keyPick h => exact lawsStep_key .pick h e
  case keyVoidLast h => exact lawsStep_key .voidLast h e
  case keyVoidTicket h => exact lawsStep_key .voidTicket h e
  case keyTotal h => exact lawsStep_key .total h e
  case keyLabel h => exact lawsStep_key .label h e
  case keyBatch h => exact lawsStep_key .batch h e
  case keyClear h => exact lawsStep_key .clear h e

/-- Settles O54: the front row of the queue keeps the laws, and an empty queue changes nothing. -/
theorem stepKeepsZeroSignOnMaskAndPort : Obligations.StepKeepsZeroSignOnMaskAndPort := by
  intro s t e
  have laws : LawsStep s t := by
    unfold step at e
    split at e
    · cases e; exact .refl s
    · exact { lawsStep_exec _ e with }
  exact ⟨laws.zero, laws.signOn, laws.mask, laws.port, laws.lock, laws.rearmed⟩

end Sys2Proof.Machine
end

section
/-! SUPPORT. Samples taken by a channel, with what their results do at the head, and the settlements of the samples and
of the weighing keys. -/

namespace Sys2Proof.Machine

/-! ### One record written twice, or the same way -/

theorem onCtx_onCtx (h : Head) (f g : HeadCtx → HeadCtx) (s : State) :
    onCtx h f (onCtx h g s) = onCtx h (fun c => f (g c)) s := by
  simp only [onCtx, Table.change_change]

theorem onCtx_congr {h : Head} {f g : HeadCtx → HeadCtx} {s : State} (e : f (ctx h s) = g (ctx h s)) :
    onCtx h f s = onCtx h g s := by
  simp only [ctx] at e
  simp only [onCtx, Table.change, e]

theorem onChan_congr {h : Head} {f g : Channel → Channel} {s : State} (e : f (chan h s) = g (chan h s)) :
    onChan h f s = onChan h g s := by
  simp only [chan] at e
  simp only [onChan, Table.change, e]

/-- A context written as it stands. -/
theorem onCtx_same {h : Head} {f : HeadCtx → HeadCtx} {s : State} (e : f (ctx h s) = ctx h s) : onCtx h f s = s := by
  rw [onCtx_congr (g := fun c => c) e, onCtx, Table.change_id]

/-! ### A channel result at its head (R46, R50, R44) -/

theorem clearsHold_eq (cfg : HeadSettings) (r : ChanResult) : clearsHold cfg r
    = (decide (r.state = .settling ∨ r.state = .idle)
      || r.stable && r.gross.any fun g : Int => decide (g ≤ 10 * divSmall cfg.scale)) := by
  have states : (r.state == .settling || r.state == .idle) = decide (r.state = .settling ∨ r.state = .idle) := by
    cases r.state <;> rfl
  rw [clearsHold, Bool.or_assoc, states, Bool.or_comm]
  cases r.gross <;> simp

@[simp] theorem clearsHold_cellFault (cfg : HeadSettings) (v : Verdict) :
    clearsHold cfg (blankResult .cellFault v) = false := rfl

@[simp] theorem clearsHold_settling (cfg : HeadSettings) (v : Verdict) :
    clearsHold cfg (blankResult .settling v) = true := rfl

/-- Where a result cancels nothing, it does no more than clear the hold before the examination. -/
theorem resultTaken_plain (h : Head) (r : ChanResult) (s : State) : resultTaken h r false false s
    = onCtx h (fun c => { c with autoHold := c.autoHold && !clearsHold (settings h s) r }) s := by
  simp only [resultTaken, Bool.false_eq_true, if_false]
  split
  next clears => exact onCtx_congr (by simp [clears])
  next clears => exact (onCtx_same (by simp [clears])).symm

theorem examine_none {h : Head} {s : State} (e : (ctx h s).request = none) : examine h s = s := by simp [examine, e]

/-- A result that calls for no automatic request ends in the examination. -/
theorem resultJudged_examine {h : Head} {r : ChanResult} {waiting : Bool} {s : State}
    (idle : waiting = false → (ctx h s).request = none) (auto : autoItem h r s = none) :
    resultJudged h r waiting s = examine h s := by
  cases waiting with
  | true => rfl
  | false => simp [resultJudged, auto, examine_none (idle rfl)]

theorem autoItem_of_verdict {h : Head} {r : ChanResult} {s : State} (hr : r.verdict ≠ .eligible) :
    autoItem h r s = none := by simp [autoItem, hr]

/-- A result that is not eligible and cancels nothing: the hold cleared where R50 says, then the examination. -/
theorem handResult_plain {h : Head} {r : ChanResult} {s : State} (hr : r.verdict ≠ .eligible) :
    SameBehind (handResult h r false false s) (examine h
      (onCtx h (fun c => { c with autoHold := c.autoHold && !clearsHold (settings h s) r }) s)) := by
  rw [handResult_eq, resultTaken_plain, resultJudged_examine _ (autoItem_of_verdict hr)]
  · exact behind_recompose ..
  · intro idle
    simpa using idle

/-! ### Rows that take a sample -/

/-- A sample that the channel processes: the channel, the flags and the result at the head. -/
theorem takeHanded_some {h : Head} {raw : Int} {rest : List Int} {s : State} {p : Processed} {q : Int → Bool}
    (hs : Sampled h raw rest s) (hq : q raw = true)
    (hp : process (settings h s) (pairSettings h s) (ctx h s).request.isSome (chan h s) raw = some p) :
    takeHanded h q s = handResult h p.result p.cellFault p.newOver (sampleFlags h p (sampled h rest p.chan s)) := by
  simp only [takeHanded, hs.2, hq, if_true]
  exact takeSample_some hp

/-- CHANNEL_SAMPLE, behind the displays. -/
theorem channelSample_behind {h : Head} {raw : Int} {rest : List Int} {s : State} (hs : Sampled h raw rest s) :
    ∃ t, exec (.channelSample h) s = .next t ∧ SameBehind t (takeHanded h (fun _ => true) s) := by
  rw [exec_channelSample]
  exact takes_high_behind _ hs.1

/-- A sample whose result is not eligible and cancels nothing. -/
theorem channelSample_plain {h : Head} {raw : Int} {rest : List Int} {s : State} {c : Channel} {r : ChanResult}
    (hs : Sampled h raw rest s)
    (hp : process (settings h s) (pairSettings h s) (ctx h s).request.isSome (chan h s) raw = some (handed c r))
    (hr : r.verdict ≠ .eligible) : ∃ t, exec (.channelSample h) s = .next t ∧ Examined h
      (onCtx h (fun x => { x with autoHold := x.autoHold && !clearsHold (settings h s) r }) (sampled h rest c s)) t := by
  obtain ⟨t, ht, behindT⟩ := channelSample_behind hs
  refine ⟨t, ht, (examined_iff (by exact hs.1)).2 (behindT.trans ?_)⟩
  rw [takeHanded_some hs rfl hp]
  exact handResult_plain hr

/-! ### What `process` makes of a sample (R9 to R12) -/

theorem isRail_iff (raw : Int) : isRail raw = true ↔ raw = -8388608 ∨ raw = 8388607 := by simp [isRail]

theorem isRail_false {raw : Int} (low : raw ≠ -8388608) (high : raw ≠ 8388607) : isRail raw = false := by
  simp [isRail, low, high]

section
variable {cfg : HeadSettings} {p : PairSettings} {q : Bool} {c : Channel} {raw : Int}

theorem process_weighing (hc : c.state = .settling ∨ c.state = .active) : process cfg p q c raw
    = some (if isRail raw then railSample c else filterSample cfg p q c raw) := by
  obtain hc | hc := hc <;> simp [process, hc]

theorem process_fault (hc : c.state = .cellFault) : process cfg p q c raw = some (faultSample cfg p q c raw) := by
  simp [process, hc]

/-- The result that a rail sample short of the eighth leaves standing, with the verdict UNSTABLE. -/
def unstableLast (c : Channel) : ChanResult :=
  match c.last with
  | some l => { l with verdict := .notEligible .unstable }
  | none => blankResult c.state (.notEligible .unstable)

theorem railSample_short (run : c.railRun + 1 < 8) : railSample c
    = handed { c with railRun := c.railRun + 1, verdict := .notEligible .unstable } (unstableLast c) := by
  rw [railSample, if_pos (show c.railRun + 1 < Config.railSamples from run), unstableLast]
  cases c.last <;> rfl

theorem railSample_eighth (run : 8 ≤ c.railRun + 1) : railSample c =
    { chan := { c with
        state := .cellFault, railRun := 8, clearRun := 0, verdict := .notEligible .cell
        last := some (blankResult .cellFault (.notEligible .cell)) }
      result := blankResult .cellFault (.notEligible .cell), zeroLimit := false, cellFault := true, newOver := false } := by
  rw [railSample, if_neg (show ¬c.railRun + 1 < Config.railSamples from Nat.not_lt.2 run)]
  rfl

/-- A sample that leaves the channel in CELL_FAULT. -/
theorem faultSample_stays {run : Nat} (hrun : if isRail raw then run = 0 else run = c.clearRun + 1) (short : run < 8) :
    faultSample cfg p q c raw = handed { c with
        clearRun := run, verdict := .notEligible .cell, last := some (blankResult .cellFault (.notEligible .cell)) }
      (blankResult .cellFault (.notEligible .cell)) := by
  unfold faultSample
  split at hrun
  next rail => simp only [if_pos rail, hrun]
  next rail =>
    subst hrun
    simp only [if_neg rail, if_pos (show c.clearRun + 1 < Config.railSamples from short)]

theorem faultSample_recovers (rail : isRail raw = false) (run : 8 ≤ c.clearRun + 1) :
    faultSample cfg p q c raw = filterSample cfg p q (leaveFault c) raw := by
  have last : ¬c.clearRun + 1 < Config.railSamples := Nat.not_lt.2 run
  simp only [faultSample, rail, Bool.false_eq_true, if_false, if_neg last]

/-- A sample that does not fill the window. -/
theorem filterSample_short (short : c.window.length + 1 < p.depth) :
    filterSample cfg p q c raw = handed { c with
        state := .settling, window := c.window ++ [raw], railRun := 0
        last := some (blankResult .settling (.notEligible .unstable)), verdict := .notEligible .unstable }
      (blankResult .settling (.notEligible .unstable)) := by
  have joined : pushLast p.depth c.window raw = c.window ++ [raw] := by
    simp only [pushLast, List.length_append, List.length_singleton, Nat.sub_eq_zero_of_le (Nat.le_of_lt short),
      List.drop_zero]
  have few : (c.window ++ [raw]).length < p.depth := by simpa using short
  simp only [filterSample, joined, if_pos few]
  rfl

/-- A sample that fills the window. -/
theorem filterSample_full (full : p.depth ≤ (pushLast p.depth c.window raw).length) :
    filterSample cfg p q c raw = activeSample cfg p q c (pushLast p.depth c.window raw) := by
  simp only [filterSample, if_neg (Nat.not_lt.2 full)]

end

/-! ### Rail samples and cell faults -/

/-- A context after the cancellation of its request (R46, R48). -/
def cancelled (code : Code) (c : HeadCtx) : HeadCtx :=
  match c.request with
  | none => c
  | some q => { c with request := none, autoHold := c.autoHold || q.origin == .auto, message := some ⟨code, 200⟩ }

/-- The cancellation of a request, as one write of the context. -/
theorem cancelRequest_eq (h : Head) (code : Code) (s : State) :
    cancelRequest h code s = onCtx h (cancelled code) s := by
  by_cases e : (ctx h s).request.isSome = true
  · obtain ⟨q, e⟩ := Option.isSome_iff_exists.1 e
    rw [cancelRequest, if_pos (by simp [e]), refuseRequest, setMessage, dropRequest, onCtx_onCtx]
    exact onCtx_congr (by simp only [withoutRequest, cancelled, e, Config.messageFrames])
  · rw [cancelRequest, if_neg e]
    exact (onCtx_same (by simp [cancelled, Option.not_isSome_iff_eq_none.1 e])).symm

theorem request_cancelRequest (h : Head) (code : Code) (s : State) :
    (ctx h (cancelRequest h code s)).request = none := by
  rw [cancelRequest_eq, ctx_onCtx_same, cancelled]
  split
  next e => exact e
  · rfl

/-- The result of an eighth rail sample: the cancellation with CELL, and nothing else. -/
theorem handResult_fault (h : Head) (s : State) :
    SameBehind (handResult h (blankResult .cellFault (.notEligible .cell)) true false s) (cancelRequest h .cell s) := by
  have taken : resultTaken h (blankResult .cellFault (.notEligible .cell)) true false s = cancelRequest h .cell s := rfl
  have ended := request_cancelRequest h .cell s
  rw [handResult_eq, taken, resultJudged_examine (fun _ => ended) (autoItem_of_verdict Verdict.noConfusion),
    examine_none ended]
  exact behind_recompose ..

/-- Settles O16: `process` names the channel and the result of each sample, and the result does the rest at the head. -/
theorem railSamplesFaultTheCell : Obligations.RailSamplesFaultTheCell := by
  refine ⟨fun h raw rest s hs => ⟨fun idle => ?_, fun r weighing rail run hr => ?_⟩,
    fun h raw rest s high front weighing rail run => ?_,
    fun h raw rest s hs fault => ⟨fun run hrun short => ?_, fun low high run depth => ?_⟩⟩
  · obtain ⟨t, ht, behindT⟩ := channelSample_behind hs
    refine ⟨t, ht, behindT.trans ?_⟩
    have discarded : takeHanded h (fun _ => true) s = onInbox h (fun b => { b with samples := rest }) s := by
      simp only [takeHanded, hs.2, if_true]
      exact takeSample_none (by simp [process, idle])
    rw [discarded]
    exact .refl _
  · have rail := (isRail_iff raw).2 rail
    have hp := process_weighing (cfg := settings h s) (p := pairSettings h s) (q := (ctx h s).request.isSome)
      (raw := raw) weighing
    have hr : r = unstableLast (chan h s) := by
      subst hr
      unfold unstableLast
      cases (chan h s).last <;> rfl
    rw [if_pos rail, railSample_short run, ← hr] at hp
    have notEligible : r.verdict ≠ .eligible := by
      rw [hr, unstableLast]
      cases (chan h s).last <;> exact Verdict.noConfusion
    have taken := channelSample_plain hs hp notEligible
    rwa [clearsHold_eq] at taken
  · have hs : Sampled h raw rest s := ⟨high, front⟩
    have rail := (isRail_iff raw).2 rail
    have hp := process_weighing (cfg := settings h s) (p := pairSettings h s) (q := (ctx h s).request.isSome)
      (raw := raw) weighing
    rw [if_pos rail, railSample_eighth run] at hp
    have enters : entersFault (chan h s) raw = true := by
      obtain w | w := weighing <;> simp [entersFault, w, rail, Config.railSamples, run]
    have same : takeHanded h (entersFault (chan h s)) s = takeHanded h (fun _ => true) s := by
      rw [takeHanded_some hs enters hp, takeHanded_some hs rfl hp]
    obtain ⟨t, ht, behindT⟩ := channelSample_behind hs
    refine ⟨t, ?_, ht, behindT.trans ?_⟩
    · rw [exec_channelSample, takes_high _ high] at ht
      rw [exec_cellFaultEntry, takes_high _ high, same]
      exact ht
    · rw [takeHanded_some hs rfl hp]
      refine (handResult_fault ..).trans ?_
      rw [cancelRequest_eq]
      refine congrArg behind (onCtx_congr ?_)
      unfold cancelled
      cases (ctx h (sampleFlags h _ _)).request <;> rfl
  · simp only [← isRail_iff] at hrun
    have hp := process_fault (cfg := settings h s) (p := pairSettings h s) (q := (ctx h s).request.isSome)
      (raw := raw) fault
    rw [faultSample_stays hrun short] at hp
    obtain ⟨t, ht, examined⟩ := channelSample_plain hs hp Verdict.noConfusion
    refine ⟨t, ht, ?_⟩
    rwa [onCtx_same (by simp)] at examined
  · have rail := isRail_false low high
    have hp := process_fault (cfg := settings h s) (p := pairSettings h s) (q := (ctx h s).request.isSome)
      (raw := raw) fault
    have first : (leaveFault (chan h s)).window.length + 1 < (pairSettings h s).depth := depth
    rw [faultSample_recovers rail run, filterSample_short first] at hp
    have leaves : leavesFault (chan h s) raw = true := by simp [leavesFault, fault, rail, Config.railSamples, run]
    have same : takeHanded h (leavesFault (chan h s)) s = takeHanded h (fun _ => true) s := by
      rw [takeHanded_some hs leaves hp, takeHanded_some hs rfl hp]
    obtain ⟨t, ht, examined⟩ := channelSample_plain hs hp Verdict.noConfusion
    refine ⟨t, ?_, ht, ?_⟩
    · rw [exec_channelSample, takes_high _ hs.1] at ht
      rw [exec_cellFaultRecovery, takes_high _ hs.1, same]
      exact ht
    · rw [onCtx_congr (g := fun c => { c with autoHold := false }) (by simp)] at examined
      exact examined

/-- Settles O17: the sample joins a window that stays short, and its result clears the hold. -/
theorem shortWindowStaysSettling : Obligations.ShortWindowStaysSettling := by
  intro h raw rest s hs weighing low high short
  have hp := process_weighing (cfg := settings h s) (p := pairSettings h s) (q := (ctx h s).request.isSome)
    (raw := raw) weighing
  rw [isRail_false low high, if_neg Bool.false_ne_true, filterSample_short short] at hp
  obtain ⟨t, ht, examined⟩ := channelSample_plain hs hp Verdict.noConfusion
  refine ⟨t, ht, ?_⟩
  rw [onCtx_congr (g := fun c => { c with autoHold := false }) (by simp)] at examined
  exact examined

end Sys2Proof.Machine
end

section
/-! SUPPORT. A sample that fills the filter window (R12 to R22), and what its result does at the head (R46, R50, R44). -/

namespace Sys2Proof.Machine

/-! ### The stability history (R14) -/

theorem foldl_max_le_iff {x : Int} (gs : List Int) (g : Int) :
    gs.foldl max g ≤ x ↔ g ≤ x ∧ ∀ a ∈ gs, a ≤ x := by
  induction gs generalizing g with
  | nil => simp
  | cons a gs ih => simp [ih, and_assoc]

theorem le_foldl_min_iff {x : Int} (gs : List Int) (g : Int) :
    x ≤ gs.foldl min g ↔ x ≤ g ∧ ∀ a ∈ gs, x ≤ a := by
  induction gs generalizing g with
  | nil => simp
  | cons a gs ih => simp [ih, and_assoc]

/-- The largest of a list less its smallest bounds every difference of two of its values. -/
theorem spread_le_iff (d : Int) (g : Int) (gs : List Int) : gs.foldl max g - gs.foldl min g ≤ d
    ↔ ∀ a ∈ g :: gs, ∀ b ∈ g :: gs, a - b ≤ d := by
  have largest (x : Int) : gs.foldl max g ≤ x ↔ ∀ a ∈ g :: gs, a ≤ x := by
    rw [foldl_max_le_iff, List.forall_mem_cons]
  have smallest (x : Int) : x ≤ gs.foldl min g ↔ ∀ b ∈ g :: gs, x ≤ b := by
    rw [le_foldl_min_iff, List.forall_mem_cons]
  calc gs.foldl max g - gs.foldl min g ≤ d
      ↔ gs.foldl max g ≤ d + gs.foldl min g := sub_le_iff_le_add
    _ ↔ ∀ a ∈ g :: gs, a - d ≤ gs.foldl min g := by simp only [largest, sub_le_iff_le_add']
    _ ↔ ∀ a ∈ g :: gs, ∀ b ∈ g :: gs, a - b ≤ d := by simp only [smallest, sub_le_comm]

theorem stableHistory_iff {m d1 : Nat} {history : List Int} (hm : 0 < m) : stableHistory m d1 history = true
    ↔ history.length = m ∧ ∀ a ∈ history, ∀ b ∈ history, a - b ≤ d1 := by
  cases history with
  | nil => simp [stableHistory, hm.ne]
  | cons g gs => simp only [stableHistory, Bool.and_eq_true, beq_iff_eq, decide_eq_true_eq, spread_le_iff]

theorem pushLast_eq (n : Nat) (xs : List Int) (x : Int) :
    pushLast n xs x = (xs ++ [x]).drop (xs.length + 1 - n) := by
  rw [pushLast, List.length_append, List.length_singleton]

/-! ### The tare in force, the tracking step and the zero count (R15 to R17) -/

theorem tareInForce_eq (cfg : HeadSettings) (c : Channel) : tareInForce cfg c
    = match c.manual, c.offer with
      | some m, _ => some ⟨m, .manual⟩
      | none, some p =>
        if roundAway p (divSmall cfg.scale) * divSmall cfg.scale = 0 then none
        else some ⟨(roundAway p (divSmall cfg.scale) * divSmall cfg.scale).toNat, .preset⟩
      | none, none => none := by
  cases hm : c.manual with
  | some m => simp [tareInForce, hm]
  | none =>
    cases ho : c.offer with
    | none => simp [tareInForce, hm, ho]
    | some p =>
      have positive : 0 ≤ roundAway p (divSmall cfg.scale) := by
        rw [roundAway, if_neg (Int.not_lt.2 (Int.natCast_nonneg p))]
        exact Int.natCast_nonneg _
      have none_iff : (roundTo p (divSmall cfg.scale)).toNat = 0
          ↔ roundAway p (divSmall cfg.scale) * divSmall cfg.scale = 0 := by
        have := mul_nonneg positive (Int.natCast_nonneg (divSmall cfg.scale))
        rw [roundTo]
        omega
      simp only [tareInForce, hm, ho, none_iff]
      rfl

theorem tracks_iff {cfg : HeadSettings} {p : PairSettings} {q : Option Request} {stable : Bool} {tare : Option Tare}
    {gross : Int} : tracks cfg p q.isSome stable tare gross = true ↔ stable = true ∧ tare = none ∧ q = none
      ∧ p.mode ≠ .off ∧ 2 * gross.natAbs ≤ divSmall cfg.scale := by
  simp [tracks, and_assoc]

theorem wasOver_iff (c : Channel) : wasOver c = true ↔ ∃ l, c.last = some l ∧ l.state = .active ∧ l.overFlag = true := by
  cases e : c.last <;> simp [wasOver, e]

/-! ### The result of an ACTIVE sample at its head -/

theorem clearsHold_active {cfg : HeadSettings} {r : ChanResult} {gross : Int} (hs : r.state = .active)
    (hg : r.gross = some gross) : clearsHold cfg r = (r.stable && decide (gross ≤ 10 * divSmall cfg.scale)) := by
  simp [clearsHold_eq, hs, hg]

theorem cancelled_eq (code : Code) (c : HeadCtx) : cancelled code c = { c with
    request := none
    message := if c.request.isSome then some ⟨code, 200⟩ else c.message
    autoHold := c.autoHold || c.request.any (·.origin == .auto) } := by
  obtain ⟨_, _, _, _, _, _, _, request, _, _, _⟩ := c
  cases request <;> simp [cancelled]

/-- The cancellation with OVER_CAP of a newly set OVER, and the hold cleared at a low gross, as one write. -/
theorem resultTaken_active (h : Head) (r : ChanResult) (loaded : Bool) (s : State) :
    resultTaken h r false loaded s = onCtx h (fun c => { c with
      request := if loaded then none else c.request
      message := if loaded && c.request.isSome then some ⟨.overCap, 200⟩ else c.message
      autoHold := (c.autoHold || loaded && c.request.any (·.origin == .auto)) && !clearsHold (settings h s) r }) s := by
  have cancels : (if loaded then cancelRequest h .overCap s else s) = onCtx h (fun c => { c with
      request := if loaded then none else c.request
      message := if loaded && c.request.isSome then some ⟨.overCap, 200⟩ else c.message
      autoHold := c.autoHold || loaded && c.request.any (·.origin == .auto) }) s := by
    cases loaded with
    | false => exact (onCtx_same (by simp)).symm
    | true =>
      rw [if_pos rfl, cancelRequest_eq]
      exact onCtx_congr (by simp [cancelled_eq])
  simp only [resultTaken, Bool.false_eq_true, if_false, cancels, settings_onCtx]
  split
  next clears => rw [onCtx_onCtx]; exact onCtx_congr (by simp [clears])
  next clears => exact onCtx_congr (by simp [clears])

theorem service_ready_iff (h : Head) (s : State) :
    service h s = .ready ↔ (ctx h s).operator.isSome = true ∧ (ctx h s).held = none := by
  unfold service serviceOf
  cases (ctx h s).operator <;> cases (ctx h s).held <;> simp

theorem autoItem_eq (h : Head) (r : ChanResult) (s : State) : autoItem h r s
    = if (ctx h s).request = none ∧ r.verdict = .eligible ∧ role h s = .prepack ∧ (ctx h s).operator.isSome
        ∧ (ctx h s).held = none ∧ (ctx h s).batch ≠ .done ∧ (ctx h s).autoHold = false ∧ s.tot.day = .opened
      then ((ctx h s).selected.bind (findItem · s)).filter fun i => i.state == .active && i.mode == .weighed
      else none := by
  refine if_congr ?_ rfl rfl
  simp only [Bool.and_eq_true, beq_iff_eq, bne_iff_ne, Bool.not_eq_true', Option.isNone_iff_eq_none, dayOpen,
    service_ready_iff]
  tauto

/-- Where no request was pending, the conditions of R50 are those of the state before the result, but for the hold. -/
theorem autoItem_resultTaken {h : Head} {r : ChanResult} {loaded : Bool} {s v : State}
    (hv : v = resultTaken h r false loaded s) (none_request : (ctx h s).request = none) :
    (ctx h v).request = none ∧ autoItem h r v
      = if (ctx h s).request = none ∧ r.verdict = .eligible ∧ role h s = .prepack ∧ (ctx h s).operator.isSome
          ∧ (ctx h s).held = none ∧ (ctx h s).batch ≠ .done ∧ (ctx h v).autoHold = false ∧ s.tot.day = .opened
        then ((ctx h s).selected.bind (findItem · s)).filter fun i => i.state == .active && i.mode == .weighed
        else none := by
  have ctxV : (ctx h v).request = none ∧ (ctx h v).operator = (ctx h s).operator ∧ (ctx h v).held = (ctx h s).held
      ∧ (ctx h v).batch = (ctx h s).batch ∧ (ctx h v).selected = (ctx h s).selected := by
    rw [hv, resultTaken_active, ctx_onCtx_same]
    simp [none_request]
  obtain ⟨requestV, operatorV, heldV, batchV, selectedV⟩ := ctxV
  obtain ⟨roleV, dayV, findV⟩ : role h v = role h s ∧ v.tot = s.tot ∧ (findItem · v) = (findItem · s) := by
    rw [hv, resultTaken_active]
    exact ⟨rfl, rfl, rfl⟩
  refine ⟨requestV, ?_⟩
  rw [autoItem_eq, requestV, operatorV, heldV, batchV, selectedV, roleV, dayV, findV, none_request]

/-- The automatic request that a result of no waiting request makes, or the examination of the one that waits. -/
theorem handResult_judged {h : Head} {r : ChanResult} {loaded : Bool} {s v : State} {auto : Option Item}
    (hv : v = resultTaken h r false loaded s)
    (waits : (ctx h s).request.isSome = true → auto = none)
    (idle : (ctx h s).request = none → (ctx h v).request = none ∧ auto = autoItem h r v) :
    (auto = none → SameBehind (handResult h r false loaded s) (examine h v))
    ∧ ∀ i, auto = some i → SameBehind (handResult h r false loaded s) (makeRequest h i (autoRequest i) v) := by
  rw [handResult_eq, ← hv]
  refine ⟨fun none_auto => ?_, fun i some_auto => ?_⟩
  · by_cases w : (ctx h s).request.isSome = true
    · rw [w]
      exact behind_recompose ..
    · obtain ⟨none_request, made⟩ := idle (Option.not_isSome_iff_eq_none.1 w)
      rw [resultJudged_examine (fun _ => none_request) (made.symm.trans none_auto)]
      exact behind_recompose ..
  · have none_request : (ctx h s).request = none := by
      by_contra w
      exact absurd (waits (Option.isSome_iff_ne_none.2 w)) (by simp [some_auto])
    have made : autoItem h r v = some i := (idle none_request).2.symm.trans some_auto
    simp only [none_request, resultJudged, made, Option.isSome_none, Bool.false_eq_true, if_false]
    exact behind_recompose ..

/-! ### The sample as the rules give it -/

section
variable {cfg : HeadSettings} {p : PairSettings} {q : Option Request} {c : Channel}

/-- Stages 3 to 10 (R13 to R22), each quantity by its own rule. -/
theorem activeSample_eq {window : List Int} {avg gross step : Int} {stable loaded low : Bool} {tare : Option Tare}
    {zero : Int × Bool} {r : ChanResult} (havg : avg = average p.depth window) (hgross : gross = grossOf cfg c.zero avg)
    (hstable : stable = stableHistory p.window (divSmall cfg.scale) (pushLast p.window c.history gross))
    (htare : tare = tareInForce cfg c) (hstep : step = trackStep p (avg - c.zero))
    (hzero : zero = if tracks cfg p q.isSome stable tare gross then clampZero cfg (c.zero + step) else (c.zero, false))
    (hr : r = activeResult cfg c.lock stable tare gross) (hloaded : loaded = (r.overFlag && !wasOver c))
    (hlow : low = (stable && decide (gross ≤ ((10 * divSmall cfg.scale : Nat) : Int)))) :
    activeSample cfg p q.isSome c window =
      { chan := { c with
          state := .active, window := window, history := pushLast p.window c.history gross, railRun := 0, zero := zero.1
          lock := if low then .armed else c.lock, last := some r, verdict := r.verdict }
        result := r, zeroLimit := zero.2, cellFault := false, newOver := loaded } := by
  subst havg hgross hstable htare hstep hzero hr hloaded hlow
  rfl

end

/-- Settles O18: the rules of the statement are those of the sample, one by one, and the result then does what the
head's rules say. -/
theorem fullWindowGivesActiveResult : Obligations.FullWindowGivesActiveResult := by
  intro h raw rest s v window history avg gross step stable loaded low tare zero r auto hs weighing lowRail highRail
    depth hwindow full havg hgross hhistory hstable htare hstep hzero hr hloaded hlow hv hauto
  rw [← pushLast_eq] at hwindow hhistory
  have htare : tare = tareInForce (settings h s) (chan h s) := htare.trans (tareInForce_eq _ _).symm
  have hstep : step = trackStep (pairSettings h s) (avg - (chan h s).zero) := hstep
  have hstable : stable = stableHistory (pairSettings h s).window (divSmall (settings h s).scale)
      (pushLast (pairSettings h s).window (chan h s).history gross) := by
    rw [Bool.eq_iff_iff, hstable, stableHistory_iff depth, hhistory]
  have hzero : zero = if tracks (settings h s) (pairSettings h s) (ctx h s).request.isSome stable tare gross
      then clampZero (settings h s) ((chan h s).zero + step) else ((chan h s).zero, false) := by
    rw [hzero]
    exact if_congr tracks_iff.symm rfl rfl
  have hloaded : loaded = (r.overFlag && !wasOver (chan h s)) := by
    rw [Bool.eq_iff_iff, hloaded, Bool.and_eq_true, Bool.not_eq_true', ← Bool.not_eq_true, wasOver_iff]
    simp only [not_exists, not_and]
  have hlow : low = (stable && decide (gross ≤ ((10 * divSmall (settings h s).scale : Nat) : Int))) := by
    rw [Bool.eq_iff_iff, hlow, Bool.and_eq_true, decide_eq_true_eq, Nat.cast_mul, Nat.cast_ofNat]
  have hp := process_weighing (cfg := settings h s) (p := pairSettings h s) (q := (ctx h s).request.isSome)
    (raw := raw) weighing
  rw [isRail_false lowRail highRail, if_neg Bool.false_ne_true, filterSample_full (hwindow ▸ full),
    ← hwindow, activeSample_eq havg hgross hstable htare hstep hzero hr hloaded hlow, ← hhistory] at hp
  obtain ⟨hstate, hgrossOf, hstableOf⟩ : r.state = .active ∧ r.gross = some gross ∧ r.stable = stable := by
    rw [hr]
    exact ⟨rfl, rfl, rfl⟩
  set u := (if zero.2 then flagZeroLimit h else id) (sampled h rest
    { chan h s with
      state := .active, window := window, history := history, railRun := 0, zero := zero.1
      lock := if low then .armed else (chan h s).lock, last := some r, verdict := r.verdict } s) with hu
  obtain ⟨resetU, ctxU, settingsU, roleU, dayU, itemsU⟩ : u.resetLow = false ∧ ctx h u = ctx h s
      ∧ settings h u = settings h s ∧ role h u = role h s ∧ u.tot = s.tot ∧ u.itb = s.itb := by
    rw [hu]
    cases zero.2 <;> exact ⟨hs.1, rfl, rfl, rfl, rfl, rfl⟩
  have taken : takeHanded h (fun _ => true) s = handResult h r false loaded u := by
    rw [takeHanded_some hs rfl hp, hu]
    cases zero.2 <;> rfl
  have hv' : v = resultTaken h r false loaded u := by
    rw [hv, resultTaken_active, settingsU, clearsHold_active hstate hgrossOf, hstableOf, hlow, Nat.cast_mul,
      Nat.cast_ofNat]
  have resetV : v.resetLow = false := by rw [hv]; exact resetU
  have waits : (ctx h u).request.isSome = true → auto = none := by
    rw [ctxU, Option.isSome_iff_ne_none]
    intro pending
    rw [hauto, if_neg fun all => pending all.1]
  have idle : (ctx h u).request = none → (ctx h v).request = none ∧ auto = autoItem h r v := by
    intro none_request
    obtain ⟨requestV, made⟩ := autoItem_resultTaken hv' none_request
    have findU : (findItem · u) = (findItem · s) := by
      funext n
      rw [findItem, findItem, itemsU]
    refine ⟨requestV, ?_⟩
    rw [hauto, made, ctxU, roleU, dayU, findU]
  obtain ⟨t, ht, behindT⟩ := channelSample_behind hs
  rw [taken] at behindT
  obtain ⟨examined, made⟩ := handResult_judged hv' waits idle
  refine ⟨t, ht, fun none_auto => ?_, fun i some_auto => ?_⟩
  · exact (examined_iff resetV).2 (behindT.trans (examined none_auto))
  · refine (examined_iff ?_).2 (behindT.trans (made i some_auto))
    rw [(selectItem_frame _ h i).1, onCtx_resetLow, resetV]

end Sys2Proof.Machine
end

section
/-! SUPPORT. The weighing keys (R24 to R26) behind the steps that every key passes (R33). -/

namespace Sys2Proof.Machine

/-! ### The steps of R33 around a key that passes them -/

/-- The message cleared and the idle count restarted are what `keyTaken` leaves of a taken event. -/
theorem keyAtTicket_clearMessage (h : Head) (rest : List KeyEvent) (s : State) :
    keyAtTicket h (clearMessage h (onInbox h (fun b => { b with keys := rest }) s)) = keyTaken h rest s := by
  have held : (ctx h (clearMessage h (onInbox h (fun b => { b with keys := rest }) s))).held = (ctx h s).held := by
    simp [clearMessage]
  unfold keyAtTicket keyTaken
  rw [held]
  cases (ctx h s).held <;> rfl

/-- A key taken at an OFF head and at both roles comes to its own rule wherever the head is not DISABLED. -/
theorem takeKey_passed {k : KeyKind} {h : Head} {act : Nat → State → State} {n : Nat} {rest : List KeyEvent} {s : State}
    (keyed : Keyed h ⟨k, n⟩ rest s) (enabled : role h s ≠ .disabled) (off : takenOff k = true)
    (both : ∀ r, belongs k r = true) : takeKey k h act s = act n (keyTaken h rest s) := by
  have roleTaken : (role h (onInbox h (fun b => { b with keys := rest }) s) == .disabled) = false := by
    simpa using enabled
  simp only [takeKey, keyed.2, if_true, gate, roleTaken, keyAtTicket_clearMessage, off, both, Bool.not_true,
    Bool.and_false, Bool.false_eq_true, if_false]

/-- A taken key leaves the channel and its settings. -/
theorem weighing_keyTaken (h : Head) (rest : List KeyEvent) (s : State) :
    settings h (keyTaken h rest s) = settings h s ∧ pairSettings h (keyTaken h rest s) = pairSettings h s
      ∧ chan h (keyTaken h rest s) = chan h s := by
  unfold keyTaken
  cases (ctx h s).held <;> simp

/-! ### ZERO and TARE, their cases in order -/

theorem lastStable_iff (c : Channel) :
    lastStable c = true ↔ c.state = .active ∧ c.last.any (·.stable) = true := by
  cases e : c.last <;> simp [lastStable, e]

theorem weighingKey_zeroKey {h : Head} {cfg : HeadSettings} {p : PairSettings} {c : Channel} {avg : Int}
    {s : State} (hc : chan h s = c) (havg : avg = average p.depth c.window) : weighingKey h (zeroKey cfg p c) s
    = if c.state = .cellFault then setMessage h .cell s
      else if tareInForce cfg c ≠ none then setMessage h .tareActive s
      else if ¬(c.state = .active ∧ c.last.any (·.stable) = true) then setMessage h .unstable s
      else if cfg.zr < (avg - cfg.z0).natAbs then setMessage h .zeroRange s
      else onChan h (fun c => { c with zero := avg, history := [] }) s := by
  subst havg hc
  have stored (z : Int) : onChan h (fun _ => { chan h s with zero := z, history := [] }) s
      = onChan h (fun c => { c with zero := z, history := [] }) s := onChan_congr rfl
  simp only [zeroKey, beq_iff_eq, Option.isSome_iff_ne_none, Bool.not_eq_true', ← Bool.not_eq_true, lastStable_iff,
    apply_ite (weighingKey h · s)]
  simp only [weighingKey, stored]

theorem weighingKey_tareKey {h : Head} {cfg : HeadSettings} {c : Channel} {gross rounded : Int} {s : State}
    (hc : chan h s = c) (hgross : gross = lastGross c) (hrounded : rounded = roundTo gross (divSmall cfg.scale)) :
    weighingKey h (tareKey cfg c) s
    = if c.state = .cellFault then setMessage h .cell s
      else if ¬(c.state = .active ∧ c.last.any (·.stable) = true) then setMessage h .unstable s
      else if 0 < gross ∧ (maxFirst cfg.scale : Int) < rounded then setMessage h .tareRange s
      else if 0 < gross ∧ rounded ≠ 0 then onChan h (fun c => { c with manual := some rounded.toNat }) s
      else onChan h (fun c => { c with manual := none }) s := by
  subst hgross hrounded hc
  have stored (m : Option Nat) : onChan h (fun _ => { chan h s with manual := m }) s
      = onChan h (fun c => { c with manual := m }) s := onChan_congr rfl
  simp only [tareKey, beq_iff_eq, Bool.not_eq_true', ← Bool.not_eq_true, lastStable_iff,
    apply_ite (weighingKey h · s)]
  simp only [weighingKey, stored]
  refine if_congr Iff.rfl rfl (if_congr Iff.rfl rfl ?_)
  by_cases positive : 0 < lastGross (chan h s)
  · simp only [positive, true_and, if_true, ne_eq, ite_not]
  · simp only [positive, false_and, if_false]

/-! ### The rows -/

theorem exec_keyZero (h : Head) (s : State) : exec (.keyZero h) s
    = takes (takeKey .zero h fun _ u => weighingKey h (zeroKey (settings h u) (pairSettings h u) (chan h u)) u) s := rfl

theorem exec_keyTare (h : Head) (s : State) : exec (.keyTare h) s
    = takes (takeKey .tare h fun _ u => weighingKey h (tareKey (settings h u) (chan h u)) u) s := rfl

theorem exec_keyClearTare (h : Head) (s : State) :
    exec (.keyClearTare h) s = takes (takeKey .clearTare h fun _ => onChan h clearTareKey) s := rfl

/-- Settles O21: each key comes to its rule, which is judged on the channel and settings that the key found. -/
theorem weighingKeysActOnChannel : Obligations.WeighingKeysActOnChannel := by
  intro h n rest s avg gross rounded enabled havg hgross hrounded
  obtain ⟨settingsTaken, pairTaken, chanTaken⟩ := weighing_keyTaken h rest s
  refine ⟨fun keyed => ?_, fun keyed => ?_, fun keyed => ?_⟩
  · obtain ⟨t, ht, behindT⟩ := takes_high_behind
      (takeKey .zero h fun _ u => weighingKey h (zeroKey (settings h u) (pairSettings h u) (chan h u)) u) keyed.1
    rw [takeKey_passed keyed enabled rfl fun _ => rfl, settingsTaken, pairTaken, chanTaken,
      weighingKey_zeroKey chanTaken havg] at behindT
    exact ⟨t, (exec_keyZero h s).trans ht, behindT⟩
  · obtain ⟨t, ht, behindT⟩ := takes_high_behind
      (takeKey .tare h fun _ u => weighingKey h (tareKey (settings h u) (chan h u)) u) keyed.1
    rw [takeKey_passed keyed enabled rfl fun _ => rfl, settingsTaken, chanTaken,
      weighingKey_tareKey chanTaken hgross hrounded] at behindT
    exact ⟨t, (exec_keyTare h s).trans ht, behindT⟩
  · obtain ⟨t, ht, behindT⟩ := takes_high_behind (takeKey .clearTare h fun _ => onChan h clearTareKey) keyed.1
    rw [takeKey_passed keyed enabled rfl fun _ => rfl] at behindT
    exact ⟨t, (exec_keyClearTare h s).trans ht, behindT⟩

end Sys2Proof.Machine
end

section
/-! SUPPORT. CONFIGURE_HEAD and CONFIGURE_PAIR (R3, R4): the values that fit, and the effects of what they change. -/

namespace Sys2Proof.Machine

/-! ### The values that fit (R1, R2, R4) -/

theorem index?_iff {k n : Nat} {i : Fin k} : index? k n = some i ↔ n = i.val := by
  unfold index?
  split
  · rw [Option.some.injEq, Fin.ext_iff]
  · have := i.isLt
    simp only [reduceCtorEq, false_iff]
    omega

theorem roleOf_iff {n : Nat} {r : Role} :
    roleOf n = some r ↔ (r, n) ∈ [(Role.disabled, 0), (.service, 1), (.prepack, 2)] := by
  unfold roleOf
  split <;> cases r <;> simp_all

theorem switchOf_iff {n : Nat} {b : Bool} : switchOf n = some b ↔ (b, n) ∈ [(false, 0), (true, 1)] := by
  unfold switchOf
  split <;> cases b <;> simp_all

theorem trackModeOf_iff {n : Nat} {m : TrackMode} :
    trackModeOf n = some m ↔ (m, n) ∈ [(TrackMode.off, 0), (.oneStep, 1), (.proportional, 2)] := by
  unfold trackModeOf
  split <;> cases m <;> simp_all

theorem idleGood_iff (n : Nat) : idleGood n = true ↔ n = 0 ∨ 3000 ≤ n ∧ n ≤ 60000 := by simp [idleGood]

theorem divisionGood_iff (d : Nat) : divisionGood d = true ↔ d ∈ [1, 2, 5, 10, 20, 50] := List.contains_iff_mem

theorem capacityGood_iff (max d : Nat) :
    capacityGood max d = true ↔ 0 < max ∧ max ≤ 300000 ∧ max % (10 * d) = 0 := by
  have limit : decide (max ≤ Config.capacityLimit) = decide (max ≤ 300000) := rfl
  simp only [capacityGood, limit, Bool.and_eq_true, bne_iff_ne, decide_eq_true_eq, beq_iff_eq, Nat.pos_iff_ne_zero,
    and_assoc]

theorem scaleOf_iff {f : RawScale} {sc : ScaleType} : scaleOf f = some sc
    ↔ (∃ max d : Nat, f = .single max d ∧ sc = .single max (10 * d) ∧ d ∈ [1, 2, 5, 10, 20, 50]
        ∧ 0 < max ∧ max ≤ 300000 ∧ max % (10 * d) = 0)
      ∨ ∃ max1 d1 max2 d2 : Nat, f = .dual max1 d1 max2 d2 ∧ sc = .dual max1 (10 * d1) max2 (10 * d2)
        ∧ d1 ∈ [1, 2, 5, 10, 20, 50] ∧ d2 ∈ [1, 2, 5, 10, 20, 50] ∧ d1 < d2 ∧ 0 < max1 ∧ max1 < max2
        ∧ max2 ≤ 300000 ∧ max1 % (10 * d1) = 0 ∧ max2 % (10 * d2) = 0 := by
  cases f with
  | single max d =>
    simp only [scaleOf, Option.ite_none_right_eq_some, Bool.and_eq_true, divisionGood_iff, capacityGood_iff,
      RawScale.single.injEq, reduceCtorEq, false_and, exists_false, or_false, Option.some.injEq]
    constructor
    · rintro ⟨⟨division, capacity⟩, rfl⟩
      exact ⟨max, d, ⟨rfl, rfl⟩, rfl, division, capacity⟩
    · rintro ⟨_, _, ⟨rfl, rfl⟩, rfl, division, capacity⟩
      exact ⟨⟨division, capacity⟩, rfl⟩
  | dual max1 d1 max2 d2 =>
    simp only [scaleOf, Option.ite_none_right_eq_some, Bool.and_eq_true, divisionGood_iff, capacityGood_iff,
      RawScale.dual.injEq, reduceCtorEq, false_and, exists_false, false_or, Option.some.injEq, decide_eq_true_eq]
    constructor
    · rintro ⟨⟨⟨⟨⟨⟨g1, g2⟩, pos1, -, m1⟩, -, le2, m2⟩, less⟩, finer⟩, rfl⟩
      exact ⟨max1, d1, max2, d2, ⟨rfl, rfl, rfl, rfl⟩, rfl, g1, g2, finer, pos1, less, le2, m1, m2⟩
    · rintro ⟨_, _, _, _, ⟨rfl, rfl, rfl, rfl⟩, rfl, g1, g2, finer, pos1, less, le2, m1, m2⟩
      exact ⟨⟨⟨⟨⟨⟨g1, g2⟩, pos1, by omega, m1⟩, by omega, le2, m2⟩, less⟩, finer⟩, rfl⟩
  | other tag fields => simp [scaleOf]

theorem headSettingsOf_iff {f : RawHead} {h : Head} {new : HeadSettings} : headSettingsOf f = some (h, new)
    ↔ f.head = h.val ∧ roleOf f.role = some new.role ∧ scaleOf f.scale = some new.scale ∧ f.printer = new.printer.val
      ∧ switchOf f.lineLabels = some new.lineLabels
      ∧ (-8388607 ≤ f.z0 ∧ f.z0 ≤ 8388606 ∧ 1 ≤ f.span ∧ f.span ≤ 1048575 ∧ f.zr ≤ 1048575 ∧ idleGood f.idle = true)
      ∧ new.z0 = f.z0 ∧ new.span = f.span ∧ new.zr = f.zr ∧ new.idleLimit = f.idle := by
  simp only [headSettingsOf, Option.bind_eq_bind, Option.bind_eq_some_iff, Option.ite_none_right_eq_some, index?_iff,
    Option.some.injEq, Prod.mk.injEq]
  constructor
  · rintro ⟨_, head, role, hrole, scale, hscale, printer, hprinter, labels, hlabels, good, rfl, rfl⟩
    exact ⟨head, hrole, hscale, hprinter, hlabels, good, rfl, rfl, rfl, rfl⟩
  · obtain ⟨role, z0, span, zr, scale, printer, labels, idle⟩ := new
    rintro ⟨head, hrole, hscale, hprinter, hlabels, good, rfl, rfl, rfl, rfl⟩
    exact ⟨h, head, role, hrole, scale, hscale, printer, hprinter, labels, hlabels, good, rfl, rfl⟩

theorem pairSettingsOf_iff {f : RawPair} {p : PairIndex} {new : PairSettings} : pairSettingsOf f = some (p, new)
    ↔ f.pair = p.val ∧ new.depth = f.depth ∧ f.depth ∈ [4, 8, 16] ∧ new.window = f.window ∧ f.window ∈ [3, 6, 12, 24]
      ∧ new.silence = f.silence ∧ f.silence ∈ [20, 80]
      ∧ (new.mode, f.mode) ∈ [(TrackMode.off, 0), (.oneStep, 1), (.proportional, 2)]
      ∧ new.gain = f.gain ∧ f.gain ∈ [1, 2, 4, 8] := by
  simp only [pairSettingsOf, Option.bind_eq_bind, Option.bind_eq_some_iff, Option.ite_none_right_eq_some, index?_iff,
    trackModeOf_iff, Bool.and_eq_true, List.contains_iff_mem, Option.some.injEq, Prod.mk.injEq]
  constructor
  · rintro ⟨_, pair, mode, hmode, ⟨⟨⟨depth, window⟩, silence⟩, gain⟩, rfl, rfl⟩
    exact ⟨pair, rfl, depth, rfl, window, rfl, silence, hmode, rfl, gain⟩
  · obtain ⟨_, _, _, mode, _⟩ := new
    rintro ⟨pair, rfl, depth, rfl, window, rfl, silence, hmode, rfl, gain⟩
    exact ⟨p, pair, mode, hmode, ⟨⟨⟨depth, window⟩, silence⟩, gain⟩, rfl, rfl⟩

/-! ### Restarts -/

theorem restartChannel_eq (c : Channel) : restartChannel c = { c with
    state := if c.state = .active then .settling else c.state
    window := [], history := [], railRun := 0, clearRun := 0, lock := .armed, last := none
    verdict := if c.state = .active then .notEligible .unstable else c.verdict } := by
  cases e : c.state <;> simp [restartChannel, e, unstable]

theorem onChan_onChan (h : Head) (f g : Channel → Channel) (s : State) :
    onChan h f (onChan h g s) = onChan h (fun c => f (g c)) s := by
  simp only [onChan, Table.change_change]

theorem onChan_same {h : Head} {f : Channel → Channel} {s : State} (e : f (chan h s) = chan h s) : onChan h f s = s := by
  rw [onChan_congr (g := fun c => c) e, onChan, Table.change_id]

theorem restart_eq (h : Head) (s : State) : restart h s
    = if (chan h s).state = .active then
        handResult h (blankResult .settling (.notEligible .unstable)) false false (onChan h restartChannel s)
      else onChan h restartChannel s := by
  simp only [restart, beq_iff_eq]
  rfl

/-- A restart clears the hold and brings a request to its examination where it leaves ACTIVE. -/
theorem restart_leaves (h : Head) {s u : State} (hs : s.resetLow = false)
    (hu : u = onCtx h (fun x => { x with autoHold := x.autoHold && !decide ((chan h s).state = .active) })
      (onChan h restartChannel s)) :
    ((chan h s).state = .active → Examined h u (restart h s)) ∧ ((chan h s).state ≠ .active → restart h s = u) := by
  have reset : u.resetLow = false := by rw [hu]; exact hs
  constructor
  · intro active
    rw [examined_iff reset, restart_eq, if_pos active, hu]
    simpa only [clearsHold_settling, active, decide_true] using
      handResult_plain (h := h) (r := blankResult .settling (.notEligible .unstable)) (s := onChan h restartChannel s)
        Verdict.noConfusion
  · intro inactive
    rw [restart_eq, if_neg inactive, hu]
    exact (onCtx_same (by simp [inactive])).symm

/-! ### The channel after CONFIGURE_HEAD (R4) -/

/-- Whether a CONFIGURE_HEAD enables its head. -/
def enables (old new : HeadSettings) : Bool := old.role == .disabled && new.role != .disabled

/-- Whether a CONFIGURE_HEAD that does not disable its head restarts the channel. -/
def restarts (old new : HeadSettings) : Bool := calibrationChanged old new || old.scale != new.scale || enables old new

/-- A channel before the restart of a CONFIGURE_HEAD. -/
def recalibrated (old new : HeadSettings) (c : Channel) : Channel :=
  { c with
    zero := if calibrationChanged old new then new.z0 else c.zero
    manual := if calibrationChanged old new || old.scale != new.scale then none else c.manual }

/-- A channel after a CONFIGURE_HEAD, where its slot is on the link or not. -/
def channelConfigured (old new : HeadSettings) (link : Bool) (c : Channel) : Channel :=
  if old.role != .disabled && new.role == .disabled then idleChannel new.z0
  else
    let c := if restarts old new then restartChannel (recalibrated old new c) else c
    if enables old new && link then startSettling c else c

theorem onLink_congr {s t : State} (e : t.lnk = s.lnk) (i : Slot) : onLink i t = onLink i s := by
  simp only [onLink, presence, slotLink, e]

/-- The tare and zero count written before the restart. -/
theorem recalibrated_eq (h : Head) (old new : HeadSettings) (s : State) :
    (let u := if calibrationChanged old new then onChan h (fun c => { c with manual := none, zero := new.z0 }) s else s
      if old.scale != new.scale then onChan h (fun c => { c with manual := none }) u else u)
    = onChan h (recalibrated old new) s := by
  cases hc : calibrationChanged old new <;> cases hs : old.scale != new.scale
  case false.false => exact (onChan_same (by simp [recalibrated, hc, hs])).symm
  case true.true =>
    simp only [if_true, onChan_onChan]
    exact onChan_congr (by simp [recalibrated, hc, hs])
  all_goals exact onChan_congr (by simp [recalibrated, hc, hs])

/-- The effects on a channel that stays or becomes enabled: the calibration, the restart, the start. -/
theorem channelEffects_enabled {h : Head} {old new : HeadSettings} {s : State}
    (stays : (old.role != .disabled && new.role == .disabled) = false) : channelEffects h old new s
    = (if enables old new && onLink (headSlot h) s then onChan h startSettling else id)
        (if restarts old new then restart h (onChan h (recalibrated old new) s)
          else onChan h (recalibrated old new) s) := by
  have effects : channelEffects h old new s
      = (let u := if restarts old new then restart h (onChan h (recalibrated old new) s)
          else onChan h (recalibrated old new) s
        if enables old new && onLink (headSlot h) u then onChan h startSettling u else u) := by
    rw [← recalibrated_eq, channelEffects_eq, if_neg (by simp [stays])]
    rfl
  have link : (if restarts old new then restart h (onChan h (recalibrated old new) s)
      else onChan h (recalibrated old new) s).lnk = s.lnk := by
    split
    · rw [(restart_frame _ h).2.2.2.1]
      rfl
    · rfl
  rw [effects]
  simp only [onLink_congr link]
  split <;> rfl

/-- A head without an operator to whose context no hold stands takes a result that is not eligible without effect. -/
theorem handResult_off {h : Head} {r : ChanResult} {s : State} (off : (ctx h s).operator = none)
    (hold : (ctx h s).autoHold = false) (hr : r.verdict ≠ .eligible) :
    handResult h r false false s = recompose h s := by
  have taken : resultTaken h r false false s = s := by
    rw [resultTaken_plain]
    refine onCtx_same ?_
    rw [hold, Bool.false_and, ← hold]
  have completed (q : Request) (i : Item) : complete h q i s = s := by simp only [complete, off]
  have examined : examine h s = s := by
    simp only [examine, completed, ite_self]
    (repeat' split) <;> rfl
  rw [handResult_eq, taken, resultJudged_examine (by simp) (autoItem_of_verdict hr), examined]

theorem calibrationChanged_iff {old new : HeadSettings} : calibrationChanged old new = true
    ↔ new.z0 ≠ old.z0 ∨ new.span ≠ old.span ∨ new.zr ≠ old.zr := by
  simp only [calibrationChanged, Bool.or_eq_true, bne_iff_ne, ne_comm (a := old.z0), ne_comm (a := old.span),
    ne_comm (a := old.zr), or_assoc]

theorem enables_iff {old new : HeadSettings} :
    enables old new = true ↔ old.role = .disabled ∧ new.role ≠ .disabled := by
  simp [enables]

theorem restarts_iff {old new : HeadSettings} : restarts old new = true ↔ calibrationChanged old new = true
    ∨ new.scale ≠ old.scale ∨ old.role = .disabled ∧ new.role ≠ .disabled := by
  simp only [restarts, Bool.or_eq_true, bne_iff_ne, enables_iff, ne_comm (a := old.scale), or_assoc]

@[simp] theorem recalibrated_state (old new : HeadSettings) (c : Channel) :
    (recalibrated old new c).state = c.state := rfl

theorem recalibrated_same {old new : HeadSettings} {c : Channel} (hr : restarts old new = false) :
    recalibrated old new c = c := by
  simp only [restarts, Bool.or_eq_false_iff] at hr
  obtain ⟨⟨calibration, scale⟩, -⟩ := hr
  simp [recalibrated, calibration, scale]

theorem startSettling_eq (c : Channel) :
    startSettling c = if c.state = .idle then { c with state := .settling } else c := by
  cases e : c.state <;> simp [startSettling, e]

/-- The channel after a CONFIGURE_HEAD as R4 gives it. -/
theorem channelConfigured_eq (old new : HeadSettings) (link : Bool) (c : Channel) : channelConfigured old new link c
    = if new.role = .disabled ∧ old.role ≠ .disabled then idleChannel new.z0
      else (fun d : Channel => if old.role = .disabled ∧ new.role ≠ .disabled ∧ link ∧ d.state = .idle
            then { d with state := .settling } else d)
        (if calibrationChanged old new ∨ new.scale ≠ old.scale ∨ (old.role = .disabled ∧ new.role ≠ .disabled) then
          restartChannel { c with
            zero := if calibrationChanged old new then new.z0 else c.zero
            manual := if calibrationChanged old new ∨ new.scale ≠ old.scale then none else c.manual }
        else c) := by
  have disables : (old.role != .disabled && new.role == .disabled) = true
      ↔ new.role = .disabled ∧ old.role ≠ .disabled := by
    rw [Bool.and_eq_true, bne_iff_ne, beq_iff_eq, and_comm]
  have begun (d : Channel) : (if enables old new && link then startSettling d else d)
      = if old.role = .disabled ∧ new.role ≠ .disabled ∧ link ∧ d.state = .idle then { d with state := .settling }
        else d := by
    rw [startSettling_eq, ← ite_and]
    exact if_congr (by rw [Bool.and_eq_true, enables_iff, and_assoc, and_assoc]) rfl rfl
  have calibrated : recalibrated old new c = { c with
      zero := if calibrationChanged old new then new.z0 else c.zero
      manual := if calibrationChanged old new ∨ new.scale ≠ old.scale then none else c.manual } := by
    rw [recalibrated]
    congr 2
    rw [Bool.or_eq_true, bne_iff_ne, ne_comm]
  simp only [channelConfigured, disables, begun, restarts_iff, calibrated]

/-- The effects at a head whose role stays: the channel, and the result of a restart that leaves ACTIVE. -/
theorem channelEffects_sameRole {h : Head} {old new : HeadSettings} {s u : State} (role : new.role = old.role)
    (hu : u = onChan h (fun _ => channelConfigured old new (onLink (headSlot h) s) (chan h s)) s) :
    channelEffects h old new s = if (chan h s).state = .active ∧ restarts old new = true then
        handResult h (blankResult .settling (.notEligible .unstable)) false false u
      else u := by
  have stays : (old.role != .disabled && new.role == .disabled) = false := by
    rw [role]
    cases old.role <;> rfl
  have noStart : enables old new = false := by
    rw [enables, role]
    cases old.role <;> rfl
  have configured : channelConfigured old new (onLink (headSlot h) s) (chan h s)
      = if restarts old new then restartChannel (recalibrated old new (chan h s)) else chan h s := by
    simp [channelConfigured, stays, noStart]
  rw [channelEffects_enabled stays, noStart]
  cases hr : restarts old new with
  | false =>
    have same : u = s := hu.trans (onChan_same (by rw [configured, hr]; rfl))
    have kept : onChan h (recalibrated old new) s = s := onChan_same (recalibrated_same hr)
    simp [same, kept]
  | true =>
    have restarted : onChan h restartChannel (onChan h (recalibrated old new) s) = u := by
      rw [hu, onChan_onChan]
      exact onChan_congr (by rw [configured, hr]; rfl)
    simp [restart_eq, restarted]

/-- A restart at a head without an operator to whose context no hold stands, and a channel write that follows it. -/
theorem restart_off {h : Head} {s : State} (off : (ctx h s).operator = none) (hold : (ctx h s).autoHold = false) :
    SameBehind (restart h s) (onChan h restartChannel s) ∧ ∀ f : Channel → Channel,
      SameBehind (onChan h f (restart h s)) (onChan h f (onChan h restartChannel s)) := by
  rw [restart_eq]
  split
  · rw [handResult_off (by exact off) (by exact hold) Verdict.noConfusion]
    exact ⟨rfl, fun _ => rfl⟩
  · exact ⟨rfl, fun _ => rfl⟩

/-- The effects at a head that a role change has signed off: the channel, and no more. -/
theorem channelEffects_off {h : Head} {old new : HeadSettings} {s : State} (off : (ctx h s).operator = none)
    (hold : (ctx h s).autoHold = false) (stored : settings h s = new) : SameBehind (channelEffects h old new s)
      (onChan h (fun _ => channelConfigured old new (onLink (headSlot h) s) (chan h s)) s) := by
  by_cases disables : (old.role != .disabled && new.role == .disabled) = true
  · rw [channelEffects_eq, if_pos disables, goIdle, handResult_off (by exact off) (by exact hold) Verdict.noConfusion]
    refine (behind_recompose ..).trans (congrArg behind (onChan_congr ?_))
    rw [toIdle, stored, channelConfigured, if_pos disables]
  · have stays := Bool.eq_false_iff.2 disables
    have restarted : (if restarts old new then onChan h restartChannel (onChan h (recalibrated old new) s)
        else onChan h (recalibrated old new) s)
        = onChan h (fun _ => if restarts old new then restartChannel (recalibrated old new (chan h s)) else chan h s)
          s := by
      cases hr : restarts old new with
      | false => exact onChan_congr (recalibrated_same hr)
      | true =>
        simp only [if_true, onChan_onChan]
        exact onChan_congr rfl
    obtain ⟨ended, begun⟩ : SameBehind
          (if restarts old new then restart h (onChan h (recalibrated old new) s)
            else onChan h (recalibrated old new) s)
          (if restarts old new then onChan h restartChannel (onChan h (recalibrated old new) s)
            else onChan h (recalibrated old new) s)
        ∧ SameBehind
          (onChan h startSettling (if restarts old new then restart h (onChan h (recalibrated old new) s)
            else onChan h (recalibrated old new) s))
          (onChan h startSettling (if restarts old new then onChan h restartChannel (onChan h (recalibrated old new) s)
            else onChan h (recalibrated old new) s)) := by
      obtain ⟨ended, begun⟩ := restart_off (h := h) (s := onChan h (recalibrated old new) s) off hold
      split
      · exact ⟨ended, begun _⟩
      · exact ⟨rfl, rfl⟩
    rw [restarted] at ended begun
    rw [channelEffects_enabled stays]
    cases start : enables old new && onLink (headSlot h) s with
    | false =>
      refine ended.trans (congrArg behind (onChan_congr ?_))
      simp [channelConfigured, stays, start]
    | true =>
      refine begun.trans (congrArg behind ((onChan_onChan ..).trans (onChan_congr ?_)))
      simp [channelConfigured, stays, start]

/-! ### CONFIGURE_HEAD, whole -/

/-- The head's link after a CONFIGURE_HEAD: a WELCOME is owed where the scale type changed (R190). -/
def welcomeOwed (h : Head) (old new : HeadSettings) : State → State :=
  onHeadLink h fun l => { l with refresh := l.refresh || decide (new.scale ≠ old.scale) }

theorem welcomeOwed_eq (h : Head) (old new : HeadSettings) (s : State) : welcomeOwed h old new s
    = if old.scale != new.scale then onHeadLink h (fun l => { l with refresh := true }) s else s := by
  by_cases same : new.scale = old.scale
  · simp [welcomeOwed, same, onHeadLink, Table.change_id]
  · simp [welcomeOwed, same, Ne.symm same]

theorem configured_eq (h : Head) (new : HeadSettings) (s : State) : configured h new s
    = welcomeOwed h (settings h s) new (channelEffects h (settings h s) new
      (if (settings h s).role != new.role then changeRole h (storeSettings h new s) else storeSettings h new s)) := by
  rw [welcomeOwed_eq]
  rfl

theorem SameBehind.welcomeOwed {t u : State} (e : SameBehind t u) (h : Head) (old new : HeadSettings) :
    SameBehind (Machine.welcomeOwed h old new t) (Machine.welcomeOwed h old new u) :=
  congrArg (Machine.welcomeOwed h old new) e

theorem SameBehind.answered {t u : State} (e : SameBehind t u) (n : Byte) (c : HostCmd) (status : Status)
    (reply : Reply) : SameBehind (Machine.answered n c status reply t) (Machine.answered n c status reply u) := by
  have e : behind t = behind u := e
  have answer (x : State) : behind (Machine.answered n c status reply x) = { behind x with
      port := { (behind x).port with inProcess := none, buffer := some ⟨status, n, commandCode c, reply⟩ } } := rfl
  rw [SameBehind, answer, answer, e]

/-- Where the role stays, the head is left as the channel's effects and a handed result leave it. -/
theorem configured_sameRole {h : Head} {new : HeadSettings} {s v : State} {hands : Bool} (reset : s.resetLow = false)
    (role : new.role = (settings h s).role)
    (hands_iff : hands = true ↔ (chan h s).state = .active
      ∧ (calibrationChanged (settings h s) new = true ∨ new.scale ≠ (settings h s).scale))
    (hv : v = onCtx h (fun x => { x with autoHold := x.autoHold && !hands })
      (onChan h (fun _ => channelConfigured (settings h s) new (onLink (headSlot h) s) (chan h s))
        (storeSettings h new s))) :
    ∃ w, configured h new s = welcomeOwed h (settings h s) new w
      ∧ (hands = true → Examined h v w) ∧ (hands = false → w = v) := by
  have kept : ((settings h s).role != new.role) = false := by simp [role]
  have restarted : (chan h s).state = .active ∧ restarts (settings h s) new = true ↔ hands = true := by
    rw [hands_iff, restarts_iff, role]
    tauto
  have effects := channelEffects_sameRole (h := h) (s := storeSettings h new s) role rfl
  refine ⟨_, by rw [configured_eq, kept, if_neg Bool.false_ne_true], fun on => ?_, fun off => ?_⟩
  · rw [effects, if_pos (by exact restarted.2 on), examined_iff (by rw [hv]; exact reset), hv, on]
    exact handResult_plain Verdict.noConfusion
  · rw [effects, if_neg (by rw [Bool.eq_false_iff] at off; exact fun both => off (restarted.1 both)), hv, off]
    exact (onCtx_same (by simp)).symm

/-- Where the role changes, the head is signed off and its context emptied as R32 lists. -/
theorem configured_newRole {h : Head} {new : HeadSettings} {s : State} (role : new.role ≠ (settings h s).role) :
    SameBehind (configured h new s) (welcomeOwed h (settings h s) new
      (onCtx h (fun x => { x with selected := none, count := none, batch := .left 0, labelMark := false, autoHold := false })
        (onChan h (fun _ => channelConfigured (settings h s) new (onLink (headSlot h) s) (chan h s))
          (signOff h (storeSettings h new s))))) := by
  have changed : ((settings h s).role != new.role) = true := by simp [Ne.symm role]
  have off : (ctx h (changeRole h (storeSettings h new s))).operator = none := by
    rw [changeRole, ctx_onCtx_same, operator_signOff, if_pos rfl]
  have hold : (ctx h (changeRole h (storeSettings h new s))).autoHold = false := by
    rw [changeRole, ctx_onCtx_same]
  obtain ⟨-, -, -, -, link, weighing, -⟩ := changeRole_frame (storeSettings h new s) h
  have stored : settings h (changeRole h (storeSettings h new s)) = new := by
    rw [settings, weighing]
    exact settings_storeSettings_same ..
  have chanKept : chan h (changeRole h (storeSettings h new s)) = chan h s := by
    rw [chan, weighing]
    rfl
  have linkKept : onLink (headSlot h) (changeRole h (storeSettings h new s)) = onLink (headSlot h) s :=
    onLink_congr link _
  rw [configured_eq, if_pos changed]
  refine SameBehind.welcomeOwed ?_ ..
  have effects := channelEffects_off (old := settings h s) off hold stored
  rw [chanKept, linkKept] at effects
  exact effects

theorem service_serving_iff (h : Head) (s : State) :
    service h s = .serving ↔ (ctx h s).operator.isSome = true ∧ (ctx h s).held.isSome = true := by
  unfold service serviceOf
  cases (ctx h s).operator <;> cases (ctx h s).held <;> simp

section
variable {f : RawHead} {h : Head} {new : HeadSettings} {s : State}

theorem configureHead_bad (e : headSettingsOf f = none) : configureHead f s = ⟨.badValue, .empty, s⟩ := by
  simp only [configureHead_eq, e, refuse]

theorem configureHead_serving (e : headSettingsOf f = some (h, new)) (serving : service h s = .serving) :
    configureHead f s = ⟨.wrongState, .empty, s⟩ := by
  simp only [configureHead_eq, e, serving, refuse, beq_self_eq_true, if_true]

theorem configureHead_taken (e : headSettingsOf f = some (h, new)) (idle : service h s ≠ .serving) :
    configureHead f s = ⟨.done, .empty, configured h new s⟩ := by
  simp only [configureHead_eq, e, beq_iff_eq, if_neg idle, done]

end

/-! ### CONFIGURE_PAIR, whole -/

section
variable {f : RawPair} {p : PairIndex} {new : PairSettings} {s : State}

theorem configurePair_bad (e : pairSettingsOf f = none) : configurePair f s = ⟨.badValue, .empty, s⟩ := by
  simp only [configurePair, e, refuse]

theorem configurePair_same (e : pairSettingsOf f = some (p, s.wge.pairs.look p)) :
    configurePair f s = ⟨.done, .empty, s⟩ := by
  have stored : s.wge.pairs.put p (s.wge.pairs.look p) = s.wge.pairs := Table.change_id ..
  simp only [configurePair, e, done, if_true, storePair, stored]

theorem configurePair_changed (e : pairSettingsOf f = some (p, new)) (changed : new ≠ s.wge.pairs.look p) :
    configurePair f s
      = ⟨.done, .empty, restart (pairSecond p) (restart (pairFirst p) (storePair p new s))⟩ := by
  simp only [configurePair, e, done, if_neg (Ne.symm changed)]

end

/-- Settles O38: what is refused leaves the state; what is taken stores the settings and has the effects of the change,
named by `channelConfigured` and `restart`. -/
theorem configurationStoredWithItsEffects : Obligations.ConfigurationStoredWithItsEffects := by
  refine ⟨fun n s restarted hrestarted => ?_, fun f h new => ?_, fun f p new => pairSettingsOf_iff⟩
  · obtain rfl : restarted = restartChannel := funext fun c => (hrestarted c).trans (restartChannel_eq c).symm
    refine ⟨fun f ht e => takes_owner_unchanged ht rfl (configureHead_bad e), ?_,
      fun f ht e => takes_owner_unchanged ht rfl (configurePair_bad e), ?_⟩
    · intro f h new old moved hands c c' v ht e hold hc hmoved hc' hhands hv
      subst hold hc
      have hmoved : moved = calibrationChanged (settings h s) new := by
        rw [hmoved, Bool.eq_iff_iff, decide_eq_true_eq, calibrationChanged_iff]
      subst hmoved
      have hc' : c' = channelConfigured (settings h s) new (onLink (headSlot h) s) (chan h s) :=
        hc'.trans (channelConfigured_eq ..).symm
      subst hc'
      refine ⟨fun operator held => takes_owner_unchanged ht rfl
        (configureHead_serving e ((service_serving_iff h s).2 ⟨operator, held⟩)), fun free => ?_⟩
      have idle : service h s ≠ .serving := by
        rw [Ne, service_serving_iff]
        rintro ⟨operator, held⟩
        obtain none | none := free <;> simp [none] at operator held
      obtain ⟨t, ht', behindT⟩ : ∃ t, exec .configureHead s = .next t
          ∧ SameBehind t (answered n (.configureHead f) .done .empty (configured h new s)) :=
        takes_owner_sameBehind ht rfl (configureHead_taken e idle)
      refine ⟨fun role => ?_, fun role => ⟨t, ht', behindT.trans ((configured_newRole role).answered ..)⟩⟩
      obtain ⟨w, hw, examined, same⟩ := configured_sameRole ht.1 role (by rw [hhands, decide_eq_true_eq]) hv
      exact ⟨t, w, ht', examined, same, by rw [hw] at behindT; exact behindT⟩
    · intro f p new a b cleared leaves ht e ha hb hcleared hleaves
      obtain rfl : a = pairFirst p := Fin.ext ha
      obtain rfl : b = pairSecond p := Fin.ext hb
      refine ⟨fun same => takes_owner_unchanged ht rfl (configurePair_same (same ▸ e)), fun changed => ?_⟩
      obtain ⟨t, ht', behindT⟩ : ∃ t, exec .configurePair s = .next t
          ∧ SameBehind t (answered n (.configurePair f) .done .empty
            (restart (pairSecond p) (restart (pairFirst p) (storePair p new s)))) :=
        takes_owner_sameBehind ht rfl (configurePair_changed e changed)
      have left (h : Head) (u : State) (reset : u.resetLow = false) : leaves h u (restart h u) :=
        (hleaves ..).2 (restart_leaves h reset (hcleared h u))
      refine ⟨t, _, _, ht', left _ _ ht.1, left _ _ ?_, behindT⟩
      rw [(restart_frame _ _).1]
      exact ht.1
  · rw [headSettingsOf_iff, roleOf_iff, switchOf_iff, scaleOf_iff, idleGood_iff]
    constructor
    · rintro ⟨head, role, scale, printer, labels, ⟨z0Low, z0High, spanLow, spanHigh, zrHigh, idleRange⟩, z0, span, zr, idle⟩
      exact ⟨head, role, z0, z0Low, z0High, span, spanLow, spanHigh, zr, zrHigh, printer.symm, labels, idle, idleRange,
        scale⟩
    · rintro ⟨head, role, z0, z0Low, z0High, span, spanLow, spanHigh, zr, zrHigh, printer, labels, idle, idleRange, scale⟩
      exact ⟨head, role, scale, printer.symm, labels, ⟨z0Low, z0High, spanLow, spanHigh, zrHigh, idleRange⟩, z0, span, zr,
        idle⟩

end Sys2Proof.Machine
end

section
/-! SUPPORT. What heads, tickets, service numbers and the day have to do with one another: `Orderly` composes, so an event
keeps what its parts keep. -/

namespace Sys2Proof.Machine

/-! ### Tables read through their lists -/

theorem mem_toList_iff {α : Type} {n : Nat} {t : Table α n} {x : α} : x ∈ t.toList ↔ ∃ i, t.look i = x := by
  rw [Vector.mem_toList_iff, Vector.mem_iff_getElem]
  exact ⟨fun ⟨i, hi, e⟩ => ⟨⟨i, hi⟩, e⟩, fun ⟨i, e⟩ => ⟨i.val, i.isLt, e⟩⟩

theorem any_toList_iff {α : Type} {n : Nat} (t : Table α n) (p : α → Bool) :
    t.toList.any p = true ↔ ∃ i, p (t.look i) = true := by
  rw [List.any_eq_true]
  constructor
  · rintro ⟨x, mem, px⟩
    obtain ⟨i, rfl⟩ := mem_toList_iff.1 mem
    exact ⟨i, px⟩
  · rintro ⟨i, px⟩
    exact ⟨_, mem_toList_iff.2 ⟨i, rfl⟩, px⟩

theorem countTickets_eq_zero {k : TicketState} {s : State} :
    countTickets k s = 0 ↔ ∀ t : TicketSlot, (ticket t s).state ≠ k := by
  rw [countTickets, List.countP_eq_zero]
  constructor
  · intro none t e
    exact none (ticket t s) (mem_toList_iff.2 ⟨t, rfl⟩) (beq_iff_eq.2 e)
  · rintro none x mem e
    obtain ⟨t, rfl⟩ := mem_toList_iff.1 mem
    exact none t (beq_iff_eq.1 e)

theorem mem_allHeads (h : Head) : h ∈ allHeads := by revert h; decide

/-! ### The numbers in play, counted (R91) -/

section Counting

variable {α : Type} {f g : α → Option Nat} {xs : List α}

/-- Two choices of numbers that differ in one place differ in count by what stands there. -/
theorem count_filterMap_change [DecidableEq α] {x : α} (nodup : xs.Nodup) (mem : x ∈ xs)
    (same : ∀ a, a ≠ x → f a = g a) (n : Nat) :
    (xs.filterMap f).count n + (g x).toList.count n = (xs.filterMap g).count n + (f x).toList.count n := by
  have split (f : α → Option Nat) :
      (xs.filterMap f).count n = (f x).toList.count n + ((xs.erase x).filterMap f).count n := by
    rw [((List.perm_cons_erase mem).filterMap f).count_eq n, List.filterMap_cons]
    cases f x <;> simp [Nat.add_comm, List.count_cons]
  have rest : (xs.erase x).filterMap f = (xs.erase x).filterMap g :=
    List.filterMap_congr fun a ha => same a (nodup.mem_erase_iff.1 ha).1
  rw [split f, split g, rest]
  omega

/-- Numbers taken away in some places. -/
theorem count_filterMap_le (le : ∀ a, f a = none ∨ f a = g a) (n : Nat) :
    (xs.filterMap f).count n ≤ (xs.filterMap g).count n := by
  induction xs with
  | nil => simp
  | cons x xs ih =>
    rw [List.filterMap_cons, List.filterMap_cons]
    rcases le x with e | e
    · rw [e]
      cases g x with
      | none => exact ih
      | some m => exact ih.trans (List.count_le_count_cons ..)
    · rw [e]
      cases g x with
      | none => exact ih
      | some m => simpa [List.count_cons] using ih

end Counting

/-- The service number that a ticket holds in play (R91). -/
def ticketNumber (k : Ticket) : Option Nat := if openTicket k then k.service else none

/-- How often a number stands in play: in the waiting list, at the heads, in the open tickets. -/
theorem count_numbersInPlay (n : Nat) (s : State) : (numbersInPlay s).count n
    = (s.snu.waiting.map (·.number)).count n + (allHeads.filterMap fun h => (ctx h s).nowServing).count n
      + ((List.finRange 48).filterMap fun k => ticketNumber (ticket k s)).count n := by
  rw [numbersInPlay, List.count_append, List.count_append]
  rfl

/-- The guard of R91 looks for the number in the waiting list, at the heads and in the open tickets. -/
theorem inPlay_iff (n : Nat) (s : State) : inPlay n s = true ↔ n ∈ numbersInPlay s := by
  have heads : s.hsu.heads.toList.any (fun c => c.nowServing == some n) = true
      ↔ ∃ h, ((ctx h s).nowServing == some n) = true := any_toList_iff ..
  have tickets : s.tkp.tickets.toList.any (fun t => openTicket t && t.service == some n) = true
      ↔ ∃ k, (openTicket (ticket k s) && (ticket k s).service == some n) = true := any_toList_iff ..
  rw [inPlay, Bool.or_eq_true, Bool.or_eq_true, heads, tickets]
  simp only [numbersInPlay, List.mem_append, List.mem_map, List.mem_filterMap, List.any_eq_true, mem_allHeads,
    List.mem_finRange, true_and, beq_iff_eq, Bool.and_eq_true, Option.ite_none_right_eq_some]

theorem issueRefused_iff (s : State) : issueRefused s = true ↔ s.snu.next ∈ numbersInPlay s := inPlay_iff ..

/-! ### Nothing left to fold (R156) -/

/-- No unfolded PREPACK job in either queue. -/
def NoPacks (s : State) : Prop := ∀ (p : Printer), ∀ j ∈ queue p s, unfoldedPack j = false

theorem unfoldedPacks_eq_zero {s : State} : unfoldedPacks s = 0 ↔ NoPacks s := by
  simp [unfoldedPacks, NoPacks, List.countP_eq_zero, Fin.forall_fin_two]

/-- No unfolded PREPACK job and no capture request. -/
def NoWork (s : State) : Prop := NoPacks s ∧ ∀ h : Head, (ctx h s).request = none

theorem quietLaw_iff {s : State} : QuietLaw s
    ↔ (s.tot.day ≠ .opened → (∀ t : TicketSlot, openTicket (ticket t s) = false) ∧ NoWork s) := by
  rw [QuietLaw, unfoldedPacks_eq_zero]
  rfl

/-! ### What the three laws read -/

/-- What the laws read of a ticket. -/
def ticketCore (k : Ticket) : Byte × TicketState × Option Nat × Option Head := (k.serial, k.state, k.service, k.holder)

/-- What the laws read of a head context beside its request. -/
def headCore (c : HeadCtx) : Option Operator × Option Nat × Option TicketId := (c.operator, c.nowServing, c.held)

/-- What the laws read of the Service Number Unit. -/
def numberCore (u : Snu) : Nat × Nat × Nat × List Nat := (u.low, u.high, u.next, u.waiting.map (·.number))

/-- An event that moves no ticket, no number and no operator, and leaves the day. -/
structure Steady (s t : State) : Prop where
  tickets : ∀ k : TicketSlot, ticketCore (ticket k t) = ticketCore (ticket k s)
  heads : ∀ h : Head, headCore (ctx h t) = headCore (ctx h s)
  numbers : numberCore t.snu = numberCore s.snu
  day : t.tot.day = s.tot.day

/-- The same, where work comes into being in DAY_OPEN only, or out of work that stands. -/
structure Calm (s t : State) : Prop extends Steady s t where
  work : s.tot.day ≠ .opened → NoWork s → NoWork t

/-- What every event keeps of the three laws. -/
structure Orderly (s t : State) : Prop where
  holders : HolderLaw s → HolderLaw t
  quiet : HolderLaw s → QuietLaw s → QuietLaw t
  numbers : HolderLaw s → QuietLaw s → NumberLaw s → NumberLaw t

theorem Steady.refl (s : State) : Steady s s := ⟨fun _ => rfl, fun _ => rfl, rfl, rfl⟩

theorem Steady.trans {s t u : State} (a : Steady s t) (b : Steady t u) : Steady s u :=
  ⟨fun k => (b.tickets k).trans (a.tickets k), fun h => (b.heads h).trans (a.heads h), b.numbers.trans a.numbers,
    b.day.trans a.day⟩

theorem Calm.refl (s : State) : Calm s s := ⟨.refl s, fun _ => id⟩

theorem Calm.trans {s t u : State} (a : Calm s t) (b : Calm t u) : Calm s u :=
  ⟨a.toSteady.trans b.toSteady, fun day none => b.work (by rwa [a.day]) (a.work day none)⟩

theorem Calm.ite {s t u : State} {c : Prop} [Decidable c] (a : Calm s t) (b : Calm s u) : Calm s (if c then t else u) := by
  split
  · exact a
  · exact b

theorem Calm.foldl {α : Type} {f : State → α → State} (hf : ∀ s a, Calm s (f s a)) :
    ∀ (xs : List α) (s : State), Calm s (xs.foldl f s)
  | [], s => .refl s
  | x :: xs, s => (hf s x).trans (Calm.foldl hf xs (f s x))

/-- In DAY_OPEN work may come. -/
theorem Steady.calm_open {s t : State} (a : Steady s t) (opened : s.tot.day = .opened) : Calm s t :=
  ⟨a, fun closed => absurd opened closed⟩

/-- A pending request may become another piece of work. -/
theorem Steady.calm_request {s t : State} (a : Steady s t) {h : Head} {q : Request} (pending : (ctx h s).request = some q) :
    Calm s t :=
  ⟨a, fun _ none => by rw [none.2 h] at pending; cases pending⟩

theorem Orderly.refl (s : State) : Orderly s s := ⟨id, fun _ => id, fun _ _ => id⟩

theorem Orderly.trans {s t u : State} (a : Orderly s t) (b : Orderly t u) : Orderly s u :=
  ⟨fun law => b.holders (a.holders law), fun law quiet => b.quiet (a.holders law) (a.quiet law quiet),
    fun law quiet nums => b.numbers (a.holders law) (a.quiet law quiet) (a.numbers law quiet nums)⟩

theorem Orderly.ite {s t u : State} {c : Prop} [Decidable c] (a : Orderly s t) (b : Orderly s u) :
    Orderly s (if c then t else u) := by
  split
  · exact a
  · exact b

theorem Orderly.foldl {α : Type} {f : State → α → State} (hf : ∀ s a, Orderly s (f s a)) :
    ∀ (xs : List α) (s : State), Orderly s (xs.foldl f s)
  | [], s => .refl s
  | x :: xs, s => (hf s x).trans (Orderly.foldl hf xs (f s x))

/-- The laws that stand before an event may be used to show what it keeps. -/
theorem Orderly.of_holders {s t : State} (a : HolderLaw s → Orderly s t) : Orderly s t :=
  ⟨fun law => (a law).holders law, fun law => (a law).quiet law, fun law => (a law).numbers law⟩

theorem Orderly.of_quiet {s t : State} (holders : HolderLaw s → HolderLaw t) (a : HolderLaw s → QuietLaw s → Orderly s t) :
    Orderly s t :=
  ⟨holders, fun law quiet => (a law quiet).quiet law quiet, fun law quiet => (a law quiet).numbers law quiet⟩

/-! ### The laws across a change -/

theorem holderLaw_congr {s t : State} (tickets : ∀ k : TicketSlot, (ticket k t).serial = (ticket k s).serial
      ∧ (ticket k t).state = (ticket k s).state ∧ (ticket k t).holder = (ticket k s).holder)
    (heads : ∀ h : Head, (ctx h t).operator = (ctx h s).operator ∧ (ctx h t).held = (ctx h s).held)
    (law : HolderLaw s) : HolderLaw t := by
  simpa only [HolderLaw, ticketId, tickets, heads] using law

/-- The law of heads and tickets speaks of their cores. -/
theorem Steady.holderLaw {s t : State} (a : Steady s t) (law : HolderLaw s) : HolderLaw t := by
  refine holderLaw_congr (fun k => ?_) (fun h => ?_) law
  · have e := a.tickets k
    simp only [ticketCore, Prod.mk.injEq] at e
    exact ⟨e.1, e.2.1, e.2.2.2⟩
  · have e := a.heads h
    simp only [headCore, Prod.mk.injEq] at e
    exact ⟨e.1, e.2.2⟩

/-- Numbers that only left their places: the law of the numbers stands. -/
theorem numberLaw_of_count {s t : State} (law : NumberLaw s)
    (le : ∀ n, (numbersInPlay t).count n ≤ (numbersInPlay s).count n) (low : t.snu.low = s.snu.low)
    (high : t.snu.high = s.snu.high) (next : t.snu.low ≤ t.snu.next ∧ t.snu.next ≤ t.snu.high)
    (day : t.tot.day ≠ .opened → s.tot.day ≠ .opened) : NumberLaw t := by
  obtain ⟨nodup, range, -, -, night⟩ := law
  have sub {n : Nat} (hn : n ∈ numbersInPlay t) : n ∈ numbersInPlay s :=
    List.count_pos_iff.1 ((List.count_pos_iff.2 hn).trans_le (le n))
  refine ⟨List.nodup_iff_count_le_one.2 fun n => (le n).trans (List.nodup_iff_count_le_one.1 nodup n), fun n hn => ?_,
    next.1, next.2, fun closed => List.eq_nil_iff_forall_not_mem.2 fun n hn => ?_⟩
  · rw [low, high]
    exact range n (sub hn)
  · rw [night (day closed)] at sub
    exact List.not_mem_nil (sub hn)

/-- With nothing in play the law asks for N within the range. -/
theorem numberLaw_of_nothing {t : State} (nothing : numbersInPlay t = [])
    (next : t.snu.low ≤ t.snu.next ∧ t.snu.next ≤ t.snu.high) : NumberLaw t :=
  ⟨by rw [nothing]; exact List.nodup_nil, by rw [nothing]; exact fun _ => nofun, next.1, next.2, fun _ => nothing⟩

/-- An issue puts N, which was not in play, in one place (R91). -/
theorem numberLaw_of_issue {s t : State} (law : NumberLaw s) (fresh : s.snu.next ∉ numbersInPlay s)
    (le : ∀ n, (numbersInPlay t).count n ≤ (numbersInPlay s).count n + [s.snu.next].count n)
    (low : t.snu.low = s.snu.low) (high : t.snu.high = s.snu.high)
    (next : t.snu.low ≤ t.snu.next ∧ t.snu.next ≤ t.snu.high) (day : t.tot.day = .opened) : NumberLaw t := by
  obtain ⟨nodup, range, nextLow, nextHigh, -⟩ := law
  have single : (s.snu.next :: numbersInPlay s).Nodup := List.nodup_cons.2 ⟨fresh, nodup⟩
  have sub (n : Nat) : (numbersInPlay t).count n ≤ (s.snu.next :: numbersInPlay s).count n := by
    have := le n
    simp only [List.count_cons, List.count_nil] at this ⊢
    omega
  refine ⟨List.nodup_iff_count_le_one.2 fun n => (sub n).trans (List.nodup_iff_count_le_one.1 single n), fun n hn => ?_,
    next.1, next.2, fun closed => absurd day closed⟩
  rw [low, high]
  have mem := List.count_pos_iff.1 ((List.count_pos_iff.2 hn).trans_le (sub n))
  rcases List.mem_cons.1 mem with rfl | old
  · exact ⟨nextLow, nextHigh⟩
  · exact range n old

theorem ticketNumber_of_core {k l : Ticket} (e : ticketCore k = ticketCore l) : ticketNumber k = ticketNumber l := by
  simp only [ticketCore, Prod.mk.injEq] at e
  obtain ⟨-, state, service, -⟩ := e
  simp [ticketNumber, openTicket, state, service]

theorem openTicket_of_core {k l : Ticket} (e : ticketCore k = ticketCore l) : openTicket k = openTicket l := by
  simp only [ticketCore, Prod.mk.injEq] at e
  simp [openTicket, e]

theorem nowServing_of_core {c d : HeadCtx} (e : headCore c = headCore d) : c.nowServing = d.nowServing := by
  simp only [headCore, Prod.mk.injEq] at e
  exact e.2.1

theorem next_of_core {u v : Snu} (e : numberCore u = numberCore v) : u.low = v.low ∧ u.high = v.high ∧ u.next = v.next
    ∧ u.waiting.map (·.number) = v.waiting.map (·.number) := by
  simpa only [numberCore, Prod.mk.injEq] using e

theorem Steady.numbersInPlay {s t : State} (a : Steady s t) : numbersInPlay t = numbersInPlay s := by
  have heads := List.filterMap_congr fun h (_ : h ∈ allHeads) => nowServing_of_core (a.heads h)
  have tickets := List.filterMap_congr fun k (_ : k ∈ List.finRange 48) => ticketNumber_of_core (a.tickets k)
  simp only [ticketNumber] at tickets
  rw [Machine.numbersInPlay, Machine.numbersInPlay, heads, tickets, (next_of_core a.numbers).2.2.2]

theorem Steady.numberLaw {s t : State} (a : Steady s t) (law : NumberLaw s) : NumberLaw t := by
  obtain ⟨low, high, next, -⟩ := next_of_core a.numbers
  refine numberLaw_of_count law (fun n => by rw [a.numbersInPlay]) low high ?_ (by rw [a.day]; exact id)
  rw [low, high, next]
  exact ⟨law.2.2.1, law.2.2.2.1⟩

theorem Calm.orderly {s t : State} (a : Calm s t) : Orderly s t where
  holders := a.holderLaw
  quiet _ quiet := by
    rw [quietLaw_iff, a.day] at *
    intro closed
    obtain ⟨tickets, none⟩ := quiet closed
    exact ⟨fun k => by rw [openTicket_of_core (a.tickets k), tickets k], a.work closed none⟩
  numbers _ _ := a.numberLaw

/-! ### A ticket let go -/

/-- Ticket `k` is let go on the way from `s` to `t`: it has no holder and is not HELD, and a number that it keeps in play
it kept before. No other ticket and no number in the Service Number Unit has moved. -/
structure LetGo (k : TicketSlot) (s t : State) : Prop where
  tickets : ∀ j : TicketSlot, j ≠ k → ticketCore (ticket j t) = ticketCore (ticket j s)
  free : (ticket k t).holder = none
  state : (ticket k t).state ≠ .held
  number : openTicket (ticket k t) = true → openTicket (ticket k s) = true ∧ (ticket k t).service = (ticket k s).service
  numbers : numberCore t.snu = numberCore s.snu
  day : t.tot.day = s.tot.day
  work : s.tot.day ≠ .opened → NoWork s → NoWork t

/-- The same, where the head that held the ticket, if any, no longer does, and no other head has moved. -/
structure Released (k : TicketSlot) (s t : State) : Prop extends LetGo k s t where
  heads : ∀ a : Head, headCore (ctx a t)
    = headCore { ctx a s with held := if (ticket k s).holder = some a then none else (ctx a s).held }

/-- A head that names a slot holds the ticket there, in its present use. -/
theorem HolderLaw.holder {s : State} (law : HolderLaw s) {h : Head} {id : TicketId} (held : (ctx h s).held = some id) :
    id = ticketId id.slot s ∧ (ticket id.slot s).holder = some h ∧ (ticket id.slot s).state = .held := by
  obtain ⟨holds, state, use⟩ := law
  have present : id = ticketId id.slot s := by rw [ticketId, ← (use h id held).1]
  have holder := (holds id.slot h).2 (held.trans (congrArg some present))
  exact ⟨present, holder, (state id.slot).2 (by rw [holder]; rfl)⟩

theorem Released.holderLaw {k : TicketSlot} {s t : State} (a : Released k s t) (law : HolderLaw s) : HolderLaw t := by
  have heads (h : Head) := a.heads h
  simp only [headCore, Prod.mk.injEq] at heads
  have same (j : TicketSlot) (ne : j ≠ k) : ticketId j t = ticketId j s ∧ (ticket j t).holder = (ticket j s).holder
      ∧ (ticket j t).state = (ticket j s).state := by
    have e := a.tickets j ne
    simp only [ticketCore, Prod.mk.injEq] at e
    exact ⟨by rw [ticketId, ticketId, e.1], e.2.2.2, e.2.1⟩
  have elsewhere (h : Head) (id : TicketId) (held : (ctx h t).held = some id) : (ctx h s).held = some id ∧ id.slot ≠ k := by
    rw [(heads h).2.2] at held
    split at held
    · cases held
    next other =>
      refine ⟨held, fun e => other ?_⟩
      rw [← e]
      exact (law.holder held).2.1
  refine ⟨fun j h => ?_, fun j => ?_, fun h id held => ?_⟩
  · by_cases e : j = k
    · subst e
      rw [a.free]
      exact ⟨nofun, fun held => absurd rfl (elsewhere h _ held).2⟩
    · obtain ⟨id, holder, -⟩ := same j e
      rw [holder, id, law.1 j h, (heads h).2.2]
      split
      next there =>
        have held := (law.1 k h).1 there
        rw [held]
        exact ⟨fun x => absurd (congrArg TicketId.slot (Option.some.inj x)).symm e, nofun⟩
      · rfl
  · by_cases e : j = k
    · subst e
      simp [a.free, a.state]
    · obtain ⟨-, holder, state⟩ := same j e
      rw [state, holder, law.2.1 j]
  · obtain ⟨before, ne⟩ := elsewhere h id held
    obtain ⟨serial, operator⟩ := law.2.2 h id before
    exact ⟨serial.trans (congrArg TicketId.serial (same id.slot ne).1).symm, by rw [(heads h).1]; exact operator⟩

theorem Released.orderly {k : TicketSlot} {s t : State} (a : Released k s t) : Orderly s t where
  holders := a.holderLaw
  quiet _ quiet := by
    rw [quietLaw_iff, a.day] at *
    intro closed
    obtain ⟨tickets, none⟩ := quiet closed
    refine ⟨fun j => ?_, a.work closed none⟩
    by_cases e : j = k
    · subst e
      refine Bool.eq_false_iff.2 fun opened => ?_
      have was := (a.number opened).1
      rw [tickets] at was
      cases was
    · rw [openTicket_of_core (a.tickets j e), tickets j]
  numbers _ _ law := by
    obtain ⟨low, high, next, waiting⟩ := next_of_core a.numbers
    have heads (h : Head) : (ctx h t).nowServing = (ctx h s).nowServing := by
      have e := a.heads h
      simp only [headCore, Prod.mk.injEq] at e
      exact e.2.1
    refine numberLaw_of_count law (fun n => ?_) low high (by rw [low, high, next]; exact ⟨law.2.2.1, law.2.2.2.1⟩)
      (by rw [a.day]; exact id)
    have tickets := count_filterMap_le (xs := List.finRange 48) (f := fun j => ticketNumber (ticket j t))
      (g := fun j => ticketNumber (ticket j s)) (n := n) fun j => by
        by_cases e : j = k
        · subst e
          by_cases opened : openTicket (ticket j t) = true
          · obtain ⟨was, service⟩ := a.number opened
            exact .inr (by simp [ticketNumber, opened, was, service])
          · exact .inl (by simp [ticketNumber, opened])
        · exact .inr (ticketNumber_of_core (a.tickets j e))
    rw [count_numbersInPlay, count_numbersInPlay, waiting]
    simp only [heads]
    omega

/-! ### A ticket handed to a head -/

/-- Ticket `k`, which had no holder, is handed to head `h`, which held none (R107, R115). -/
theorem holderLaw_handed {k : TicketSlot} {h : Head} {s t : State} (law : HolderLaw s)
    (tickets : ∀ j : TicketSlot, j ≠ k → ticketCore (ticket j t) = ticketCore (ticket j s))
    (heads : ∀ a : Head, a ≠ h → ctx a t = ctx a s) (noHolder : (ticket k s).holder = none)
    (noTicket : (ctx h s).held = none) (record : (ticket k t).holder = some h ∧ (ticket k t).state = .held)
    (hand : (ctx h t).held = some (ticketId k t) ∧ (ctx h t).operator.isSome) : HolderLaw t := by
  have same (j : TicketSlot) (ne : j ≠ k) : ticketId j t = ticketId j s ∧ (ticket j t).holder = (ticket j s).holder
      ∧ (ticket j t).state = (ticket j s).state := by
    have e := tickets j ne
    simp only [ticketCore, Prod.mk.injEq] at e
    exact ⟨by rw [ticketId, ticketId, e.1], e.2.2.2, e.2.1⟩
  have elsewhere (a : Head) (id : TicketId) (held : (ctx a s).held = some id) : id.slot ≠ k := by
    intro e
    have holder := (law.holder held).2.1
    rw [e, noHolder] at holder
    cases holder
  refine ⟨fun j a => ?_, fun j => ?_, fun a id held => ?_⟩
  · by_cases e : j = k <;> by_cases f : a = h
    · subst e f
      simp [record.1, hand.1]
    · subst e
      rw [record.1, heads a f]
      exact ⟨fun x => absurd (Option.some.inj x).symm f, fun held => absurd rfl (elsewhere a _ held)⟩
    · subst f
      rw [(same j e).2.1, law.1 j a, noTicket, hand.1]
      exact ⟨nofun, fun x => absurd (congrArg TicketId.slot (Option.some.inj x)).symm e⟩
    · rw [heads a f, (same j e).2.1, (same j e).1]
      exact law.1 j a
  · by_cases e : j = k
    · subst e
      simp [record]
    · rw [(same j e).2.2, (same j e).2.1]
      exact law.2.1 j
  · by_cases f : a = h
    · subst f
      have id_eq : ticketId k t = id := Option.some.inj (hand.1.symm.trans held)
      exact ⟨by rw [← id_eq]; rfl, hand.2⟩
    · rw [heads a f] at held ⊢
      obtain ⟨serial, operator⟩ := law.2.2 a id held
      exact ⟨serial.trans (congrArg TicketId.serial (same id.slot (elsewhere a id held)).1).symm, operator⟩

end Sys2Proof.Machine
end

section
/-! SUPPORT. `Calm` and `Orderly`, operation by operation. -/

namespace Sys2Proof.Machine

variable {s : State}

/-! ### Updates -/

/-- An operation that leaves tickets, heads, numbers and the day where they stand, and brings no unfolded pack. -/
theorem Calm.of_packs {s t : State} (h : t.tkp = s.tkp ∧ t.hsu.heads = s.hsu.heads ∧ t.snu = s.snu
    ∧ t.tot.day = s.tot.day) (packs : NoPacks s → NoPacks t) : Calm s t := by
  obtain ⟨ht, hh, hn, hd⟩ := h
  have heads (a : Head) : ctx a t = ctx a s := by rw [ctx, ctx, hh]
  exact ⟨⟨fun k => by rw [ticket, ticket, ht], fun a => by rw [heads], by rw [hn], hd⟩,
    fun _ none => ⟨packs none.1, fun a => by rw [heads, none.2 a]⟩⟩

theorem noPacks_congr {s t : State} (h : t.lbc.queues = s.lbc.queues) (none : NoPacks s) : NoPacks t := by
  intro p j hj
  rw [queue, h] at hj
  exact none p j hj

/-- The same, with the queues untouched. -/
theorem Calm.of_queues {s t : State} (h : t.tkp = s.tkp ∧ t.hsu.heads = s.hsu.heads ∧ t.snu = s.snu
    ∧ t.tot.day = s.tot.day ∧ t.lbc.queues = s.lbc.queues) : Calm s t := by
  obtain ⟨ht, hh, hn, hd, hq⟩ := h
  exact .of_packs ⟨ht, hh, hn, hd⟩ (noPacks_congr hq)

/-- A context written without its operator, number and ticket. -/
theorem steady_onCtx (h : Head) (f : HeadCtx → HeadCtx) (hf : headCore (f (ctx h s)) = headCore (ctx h s)) :
    Steady s (onCtx h f s) := by
  refine ⟨fun _ => rfl, fun a => ?_, rfl, rfl⟩
  rw [ctx_onCtx]
  split
  next e => rw [hf, e]
  · rfl

theorem calm_onCtx (h : Head) (f : HeadCtx → HeadCtx) (hf : headCore (f (ctx h s)) = headCore (ctx h s))
    (hq : (ctx h s).request = none → (f (ctx h s)).request = none) : Calm s (onCtx h f s) := by
  refine ⟨steady_onCtx h f hf, fun _ none => ⟨none.1, fun a => ?_⟩⟩
  rw [ctx_onCtx]
  split
  · exact hq (none.2 h)
  · exact none.2 a

/-- A ticket record written without its use, state, number and holder. -/
theorem calm_onTicket (k : TicketSlot) (f : Ticket → Ticket) (hf : ticketCore (f (ticket k s)) = ticketCore (ticket k s)) :
    Calm s (onTicket k f s) := by
  refine ⟨⟨fun j => ?_, fun _ => rfl, rfl, rfl⟩, fun _ => id⟩
  rw [ticket_onTicket]
  split
  next e => rw [hf, e]
  · rfl

theorem calm_onSnu (f : Snu → Snu) (hf : numberCore (f s.snu) = numberCore s.snu) : Calm s (onSnu f s) :=
  ⟨⟨fun _ => rfl, fun _ => rfl, hf, rfl⟩, fun _ => id⟩

theorem calm_onQueue (p : Printer) (f : List Job → List Job)
    (hf : ∀ j ∈ f (queue p s), unfoldedPack j = true → ∃ i ∈ queue p s, unfoldedPack i = true) :
    Calm s (onQueue p f s) := by
  refine .of_packs ⟨rfl, rfl, rfl, rfl⟩ fun none r j hj => ?_
  rw [queue_onQueue] at hj
  split at hj
  · refine Bool.eq_false_iff.2 fun pack => ?_
    obtain ⟨i, hi, unfolded⟩ := hf j hj pack
    rw [none p i hi] at unfolded
    cases unfolded
  · exact none r j hj

theorem calm_settle (old s : State) : Calm s (settle old s) := by
  obtain ⟨-, -, -, -, -, -, -, heads, -, -, -, snu, tkp, lbc, tot, -⟩ := (sameBehind_settle old s).blocks
  exact .of_queues ⟨tkp, heads, snu, by rw [tot], by rw [lbc]⟩

theorem calm_noted (old s : State) : Calm s (noted old s) := by
  obtain ⟨-, -, -, -, -, -, -, heads, -, -, -, snu, tkp, lbc, tot, -⟩ := (sameBehind_noted old s).blocks
  exact .of_queues ⟨tkp, heads, snu, by rw [tot], by rw [lbc]⟩

/-! ### Copies, items, accumulators and labels -/

theorem calm_examineWatch : Calm s (examineWatch s) := .of_queues (by simp)

theorem calm_selectItem (h : Head) (i : Item) : Calm s (selectItem h i s) := .of_queues (by simp)

theorem calm_foldInto (f : Acc → Acc × Bool) (k : FoldKeys) : Calm s (foldInto f k s) := by
  unfold foldInto
  exact .ite (.of_queues ⟨rfl, rfl, rfl, rfl, rfl⟩) (.of_queues ⟨rfl, rfl, rfl, rfl, rfl⟩)

theorem queue_startIfIdle (p r : Printer) : queue r (startIfIdle p s) = queue r s := by
  unfold startIfIdle
  split <;> rfl

theorem calm_startIfIdle (p : Printer) : Calm s (startIfIdle p s) :=
  .of_packs (by simp) fun none r j hj => none r j (by rwa [queue_startIfIdle] at hj)

/-- A removal takes the job out of its queue and leaves the other queue. -/
theorem queue_removeJob (p r : Printer) (tag : Tag) : queue r (removeJob p tag s)
    = if r = p then (queue p s).eraseP (·.tag == tag) else queue r s := by
  unfold removeJob
  dsimp only
  split <;> simp only [queue_startIfIdle, queue_onPrinter, queue_onQueue]

theorem calm_removeJob (p : Printer) (tag : Tag) : Calm s (removeJob p tag s) := by
  refine .of_packs (by simp) fun none r j hj => ?_
  rw [queue_removeJob] at hj
  split at hj
  · exact none p j (List.mem_of_mem_eraseP hj)
  · exact none r j hj

theorem calm_removePurged (k : Nat) : Calm s (removePurged k s) :=
  have removed (p : Printer) (s : State) :
      Calm s (((queue p s).filter (unfoldedOf k)).foldl (fun s j => removeJob p j.tag s) s) :=
    .foldl (fun _ _ => calm_removeJob ..) _ s
  (removed 0 s).trans (removed 1 _)

theorem calm_onItems (f : List Item → List Item) : Calm s (onItems f s) := .of_queues ⟨rfl, rfl, rfl, rfl, rfl⟩

theorem calm_purgeCheck (k : Nat) : Calm s (purgeCheck k s) := by
  unfold purgeCheck
  split
  · exact .ite ((calm_onItems _).trans (calm_removePurged _)) (.refl s)
  · exact .refl s

theorem calm_releaseRef (k : Nat) : Calm s (releaseRef k s) := (calm_onItems _).trans (calm_purgeCheck k)

theorem calm_walkLines {fold : Line → State → State} (hf : ∀ l s, Calm s (fold l s)) (ls : List Line) :
    Calm s (walkLines fold ls s) :=
  .foldl (fun s l => (hf l s).trans (calm_releaseRef _)) ls s

theorem queue_queueJob (p r : Printer) (source : Option Head) (n : Nat) (content : Content) :
    queue r (queueJob p source n content s)
      = if r = p then queue p s ++ [newJob source n content s] else queue r s := by
  unfold queueJob
  dsimp only
  rw [queue_startIfIdle, queue_onQueue]
  rfl

/-- A queued job moves nothing; where it carries a pack it is work. -/
theorem steady_queueJob (p : Printer) (source : Option Head) (n : Nat) (content : Content) :
    Steady s (queueJob p source n content s) := by
  have blocks : (queueJob p source n content s).tkp = s.tkp ∧ (queueJob p source n content s).hsu = s.hsu
      ∧ (queueJob p source n content s).snu = s.snu ∧ (queueJob p source n content s).tot = s.tot := by simp
  obtain ⟨ht, hh, hn, hd⟩ := blocks
  exact ⟨fun k => by rw [ticket, ht]; rfl, fun a => by rw [ctx, hh]; rfl, by rw [hn], by rw [hd]⟩

theorem calm_queueJob (p : Printer) (source : Option Head) (n : Nat) {content : Content}
    (plain : kindOf content ≠ .prepack) : Calm s (queueJob p source n content s) := by
  refine .of_packs (by simp) fun none r j hj => ?_
  rw [queue_queueJob] at hj
  split at hj
  · rcases List.mem_append.1 hj with old | new
    · exact none p j old
    · rw [List.mem_singleton.1 new]
      simp [unfoldedPack, newJob, plain]
  · exact none r j hj

/-- A folded pack is no longer left to fold. -/
theorem calm_foldPack (p : Printer) (j : Job) : Calm s (foldPack p j s) := by
  have marked : Calm s (onQueue p (fun q => match q with
      | [] => []
      | j :: q => { j with folded := true } :: q) s) := by
    refine calm_onQueue p _ fun i hi pack => ?_
    cases e : queue p s with
    | nil => simp [e] at hi
    | cons j js =>
      rw [e] at hi
      rcases List.mem_cons.1 hi with rfl | old
      · simp [unfoldedPack] at pack
      · exact ⟨i, List.mem_cons_of_mem _ old, pack⟩
  unfold foldPack
  split
  · exact .ite (.refl s) (marked.trans (calm_foldInto ..))
  · exact .refl s

/-! ### Tickets let go -/

/-- A ticket record written so that the ticket has no holder, is not HELD, and keeps no number in play that it did not
keep; `u` is what stood before the writing, with the other records as in `s`. -/
theorem LetGo.of_record {k : TicketSlot} {f g : Ticket → Ticket} {s u : State} (walk : Calm (onTicket k g s) u)
    (free : (f (ticket k u)).holder = none) (state : (f (ticket k u)).state ≠ .held)
    (number : openTicket (f (ticket k u)) = true →
      openTicket (ticket k s) = true ∧ (f (ticket k u)).service = (ticket k s).service) :
    LetGo k s (onTicket k f u) where
  tickets j ne := by rw [ticket_onTicket_ne _ _ ne, walk.tickets, ticket_onTicket_ne _ _ ne]
  free := by rwa [ticket_onTicket_same]
  state := by rwa [ticket_onTicket_same]
  number := by rwa [ticket_onTicket_same]
  numbers := walk.numbers
  day := walk.day
  work := walk.work

theorem headCore_leaving (id : TicketId) (c : HeadCtx) : headCore (leaving id c) = headCore { c with held := none } := by
  unfold leaving
  dsimp only
  split <;> rfl

theorem request_leaving (id : TicketId) {c : HeadCtx} (idle : c.request = none) : (leaving id c).request = none := by
  unfold leaving
  dsimp only
  split
  · rfl
  · exact idle

theorem noWork_leaveTicket (h : Head) (id : TicketId) (idle : NoWork s) : NoWork (leaveTicket h id s) := by
  refine ⟨idle.1, fun g => ?_⟩
  rw [leaveTicket, ctx_onCtx]
  split
  · exact request_leaving id (idle.2 h)
  · exact idle.2 g

theorem headCore_leaveTicket (h g : Head) (id : TicketId) : headCore (ctx g (leaveTicket h id s))
    = headCore { ctx g s with held := if some h = some g then none else (ctx g s).held } := by
  rw [leaveTicket, ctx_onCtx]
  by_cases e : g = h
  · subst e
    rw [if_pos rfl, if_pos rfl, headCore_leaving]
  · rw [if_neg e, if_neg fun x => e (Option.some.inj x).symm]

/-- A ticket let go by the head that leaves it (R38, R39). -/
theorem LetGo.leave {k : TicketSlot} {s t : State} (a : LetGo k s t) (heads : ∀ g, headCore (ctx g t) = headCore (ctx g s))
    {h : Head} (holder : (ticket k s).holder = some h) (id : TicketId) : Released k s (leaveTicket h id t) where
  tickets := a.tickets
  free := a.free
  state := a.state
  number := a.number
  numbers := a.numbers
  day := a.day
  work day idle := noWork_leaveTicket h id (a.work day idle)
  heads g := by
    have before := heads g
    simp only [headCore, Prod.mk.injEq] at before
    rw [holder, headCore_leaveTicket]
    simp only [headCore, before]

/-- A ticket without holder let go. -/
theorem LetGo.unheld {k : TicketSlot} {s t : State} (a : LetGo k s t) (heads : ∀ g, headCore (ctx g t) = headCore (ctx g s))
    (holder : (ticket k s).holder = none) : Released k s t :=
  ⟨a, fun g => by rw [holder]; exact heads g⟩

/-- A ticket that is not HELD has no holder. -/
theorem HolderLaw.unheld {s : State} (law : HolderLaw s) {k : TicketSlot} (state : (ticket k s).state ≠ .held) :
    (ticket k s).holder = none := by
  rw [ne_eq, law.2.1 k] at state
  simpa using state

theorem calm_record (k : TicketSlot) (s : State) : Calm (onTicket k (fun x => x) s) s := by
  rw [onTicket, Table.change_id]
  exact .refl s

/-- A ticket that is not HELD written so that it is not open (R120, R123). -/
theorem orderly_onTicket {k : TicketSlot} {f : Ticket → Ticket} {s : State} (was : (ticket k s).state ≠ .held)
    (closed : openTicket (f (ticket k s)) = false) (free : (ticket k s).holder = none → (f (ticket k s)).holder = none) :
    Orderly s (onTicket k f s) := by
  refine .of_holders fun law => ?_
  have holder := law.unheld was
  have state : (f (ticket k s)).state ≠ .held := fun e => by simp [openTicket, e] at closed
  have letGo : LetGo k s (onTicket k f s) :=
    .of_record (calm_record k s) (free holder) state fun opened => by rw [closed] at opened; cases opened
  exact (letGo.unheld (fun _ => rfl) holder).orderly


/-! ### Jobs that leave their queue (R120, R141, R149) -/

theorem orderly_endSummary (t : TicketId) : Orderly s (endSummary t s) := by
  unfold endSummary
  dsimp only
  split
  next closing =>
    have state : (ticket t.slot s).state ≠ .held := fun e => by simp [e] at closing
    exact .ite (orderly_onTicket state rfl id) (orderly_onTicket state rfl fun _ => rfl)
  · exact .refl s

theorem orderly_jobLeft (c : Content) : Orderly s (jobLeft c s) := by
  unfold jobLeft
  split
  · exact orderly_endSummary _
  · exact .refl s

theorem calm_onPrinter (p : Printer) (f : PrinterCtx → PrinterCtx) : Calm s (onPrinter p f s) :=
  .of_queues ⟨rfl, rfl, rfl, rfl, rfl⟩

theorem orderly_completeJob (p : Printer) (j : Job) : Orderly s (completeJob p j s) := by
  have left : Calm s (onQueue p List.tail s) :=
    calm_onQueue p _ fun i hi pack => ⟨i, List.mem_of_mem_tail hi, pack⟩
  exact (left.orderly.trans (orderly_jobLeft j.content)).trans ((calm_onPrinter p _).trans (calm_startIfIdle p)).orderly

theorem orderly_countCopies (p : Printer) (n : Nat) : Orderly s (countCopies p n s) := by
  have counted (j : Job) : Calm s (onPrinter p (fun c => { c with printed := n }) (foldPack p j s)) :=
    (calm_foldPack p j).trans (calm_onPrinter p _)
  have lowered (left : Nat) (u : State) : Calm u (onQueue p (fun q => match q with
      | [] => []
      | j :: q => { j with remaining := left } :: q) u) := by
    refine calm_onQueue p _ fun i hi pack => ?_
    cases e : queue p u with
    | nil => simp [e] at hi
    | cons j js =>
      rw [e] at hi
      rcases List.mem_cons.1 hi with rfl | old
      · exact ⟨j, List.mem_cons_self, pack⟩
      · exact ⟨i, List.mem_cons_of_mem _ old, pack⟩
  unfold countCopies
  dsimp only
  split
  · exact .refl s
  · exact .ite (.ite ((counted _).orderly.trans (orderly_completeJob p _)) ((counted _).trans (lowered ..)).orderly)
      (.refl s)

theorem calm_recoverPrinter (p : Printer) : Calm s (recoverPrinter p s) := by
  unfold recoverPrinter
  split
  · exact (calm_onPrinter p _).trans (calm_startIfIdle p)
  · exact .ite (calm_onPrinter p _) (calm_onPrinter p _)

theorem calm_stopOrRecover (p : Printer) (cond : Condition) : Calm s (stopOrRecover p cond s) := by
  unfold stopOrRecover
  dsimp only
  split
  · exact .ite (calm_recoverPrinter p) (.refl s)
  · exact .ite (.refl s) (.of_queues ⟨rfl, rfl, rfl, rfl, rfl⟩)

theorem orderly_takePrinterReport (p : Printer) (r : PrinterReport) : Orderly s (takePrinterReport p r s) :=
  .ite (.refl s) (((calm_onPrinter p _).orderly.trans (orderly_countCopies p _)).trans
    ((calm_stopOrRecover p _).trans (.ite (calm_onPrinter p _) (.refl _))).orderly)

theorem orderly_printerOnline (p : Printer) (r : PrinterReport) : Orderly s (printerOnline p r s) :=
  ((calm_onPrinter p _).orderly.trans (orderly_takePrinterReport p r)).trans (calm_startIfIdle p).orderly

/-! ### Messages and requests -/

theorem calm_setMessage (h : Head) (code : Code) : Calm s (setMessage h code s) := calm_onCtx h _ rfl id

theorem calm_dropRequest (h : Head) : Calm s (dropRequest h s) := calm_onCtx h _ rfl fun _ => rfl

theorem calm_refuseRequest (h : Head) (code : Code) : Calm s (refuseRequest h code s) :=
  (calm_dropRequest h).trans (calm_setMessage h code)

theorem calm_cancelRequest (h : Head) (code : Code) : Calm s (cancelRequest h code s) :=
  .ite (calm_refuseRequest h code) (.refl s)

/-! ### Captures (R44 to R48) -/

theorem steady_queueAtHead (h : Head) (content : Content) : Steady s (queueAtHead h content s) := by
  have queued := steady_queueJob (s := s) (settings h s).printer (some h) 1 content
  unfold queueAtHead
  dsimp only
  split
  · exact queued.trans (calm_setMessage h _).toSteady
  · exact queued

theorem steady_lockFor (k : Capture) : Steady s (lockFor k s) := by
  unfold lockFor
  split <;> exact ⟨fun _ => rfl, fun _ => rfl, rfl, rfl⟩

theorem steady_endRequest (h : Head) : Steady s (endRequest h s) := steady_onCtx h _ rfl

theorem steady_completeLine (k : Capture) (id : TicketId) : Steady s (completeLine k id s) := by
  have lined (l : Line) (u : State) : Steady u (onCtx k.head (fun c => { c with lastLine := some ⟨id, l.position⟩ })
      (appendLine id.slot l u)) :=
    ((calm_onTicket id.slot _ rfl).trans (calm_onItems _)).toSteady.trans (steady_onCtx k.head _ rfl)
  have printed (u : State) : Steady u (if (settings k.head u).lineLabels then
      queueAtHead k.head (.item (labelOf k u)) u else u) := by
    split
    · exact steady_queueAtHead ..
    · exact .refl u
  exact (((steady_lockFor k).trans (lined (lineOf k _ _) _)).trans (printed _)).trans (steady_endRequest _)

theorem steady_countBatch (h : Head) : Steady s (countBatch h s) := by
  unfold countBatch
  split
  · split
    · exact (steady_onCtx h _ rfl).trans (calm_setMessage h _).toSteady
    · exact steady_onCtx h _ rfl
  · exact .refl s
  · exact .refl s

theorem steady_completeLabel (k : Capture) (purpose : Purpose) : Steady s (completeLabel k purpose s) := by
  have queued := (steady_lockFor (s := s) k).trans (steady_queueAtHead k.head (.prepack (labelOf k (lockFor k s))
    (foldOf k (lockFor k s))))
  unfold completeLabel
  dsimp only
  split
  · exact (queued.trans (steady_countBatch _)).trans (steady_endRequest _)
  · exact queued.trans (steady_endRequest _)
  · exact queued.trans (steady_endRequest _)

theorem steady_finish (k : Capture) (q : Request) : Steady s (finish k q s) := by
  have refused (code : Code) : Steady s (refuseRequest k.head code s) := (calm_refuseRequest k.head code).toSteady
  unfold finish
  dsimp only
  split
  · split
    · exact .refl s
    split
    · exact refused _
    split
    · exact refused _
    · exact steady_completeLine ..
  · exact .refl s
  · split
    · exact refused _
    · exact steady_completeLabel ..

theorem steady_complete (h : Head) (q : Request) (i : Item) : Steady s (complete h q i s) := by
  unfold complete
  dsimp only
  split
  · exact .refl s
  split
  · exact (calm_refuseRequest h _).toSteady
  · exact steady_finish ..

/-- An examination makes work out of the request that it examines. -/
theorem calm_examine (h : Head) : Calm s (examine h s) := by
  unfold examine
  split
  · exact .refl s
  next q pending =>
    split
    · exact .refl s
    · exact .ite ((steady_complete h q _).calm_request pending) (.refl s)

/-- A request is made in DAY_OPEN only. -/
theorem calm_makeRequest (h : Head) (i : Item) (q : Request) (opened : s.tot.day = .opened) :
    Calm s (makeRequest h i q s) := by
  have asked : Steady s (onCtx h (fun c => { c with request := some q }) s) := steady_onCtx h _ rfl
  exact (asked.calm_open opened).trans ((calm_selectItem h i).trans (calm_examine h))

theorem dayOpen_iff : dayOpen s = true ↔ s.tot.day = .opened := by simp [dayOpen]

theorem calm_takenItem (h : Head) (n : Nat) : Calm s (takenItem h n s) := by
  unfold takenItem
  split
  · exact calm_onCtx h _ rfl id
  · exact calm_onCtx h _ rfl id
  · exact .refl s

/-- ITEM is judged DAY_CLOSED before a request is made (R42). -/
theorem judgeItem_opened {h : Head} {n : Nat} {i : Item} (ok : judgeItem h n s = .ok i) : s.tot.day = .opened := by
  unfold judgeItem at ok
  split at ok
  · cases ok
  next opened => exact dayOpen_iff.1 (by simpa using opened)

theorem calm_askItem (h : Head) (n : Nat) : Calm s (askItem h n s) := by
  unfold askItem
  split
  · exact calm_setMessage ..
  next i ok =>
    have taken := calm_takenItem (s := s) h n
    exact taken.trans (calm_makeRequest h i _ (taken.day.trans (judgeItem_opened ok)))

/-- An automatic request is made in DAY_OPEN only (R50). -/
theorem autoItem_opened {h : Head} {r : ChanResult} {i : Item} (auto : autoItem h r s = some i) :
    s.tot.day = .opened := by
  unfold autoItem at auto
  dsimp only at auto
  split at auto
  next conditions => exact dayOpen_iff.1 (by simp only [Bool.and_eq_true] at conditions; exact conditions.2)
  · cases auto

theorem calm_handResult (h : Head) (r : ChanResult) (fault newOver : Bool) : Calm s (handResult h r fault newOver s) := by
  have taken : Calm s (resultTaken h r fault newOver s) := by
    have cell : Calm s (if fault then cancelRequest h .cell s else s) := .ite (calm_cancelRequest ..) (.refl s)
    exact (cell.trans (.ite (calm_cancelRequest ..) (.refl _))).trans (.ite (calm_onCtx h _ rfl id) (.refl _))
  have judged (waiting : Bool) (u : State) : Calm u (resultJudged h r waiting u) := by
    refine .ite (calm_examine h) ?_
    split
    next i auto => exact calm_makeRequest h i _ (autoItem_opened auto)
    · exact .refl u
  rw [handResult_eq]
  exact (taken.trans (judged ..)).trans (.of_queues ⟨rfl, rfl, rfl, rfl, rfl⟩)

theorem calm_onChan (h : Head) (f : Channel → Channel) : Calm s (onChan h f s) := .of_queues ⟨rfl, rfl, rfl, rfl, rfl⟩

theorem calm_takeSample (h : Head) (raw : Int) : Calm s (takeSample h raw s) := by
  unfold takeSample
  split
  · exact .refl s
  · have low (b : Bool) (u : State) : Calm u (if b then flagZeroLimit h u else u) :=
      .ite (.of_queues ⟨rfl, rfl, rfl, rfl, rfl⟩) (.refl u)
    have fault (b : Bool) (u : State) : Calm u (if b then flagCellFault h u else u) :=
      .ite (.of_queues ⟨rfl, rfl, rfl, rfl, rfl⟩) (.refl u)
    exact (((calm_onChan h _).trans (low ..)).trans (fault ..)).trans (calm_handResult ..)

theorem calm_restart (h : Head) : Calm s (restart h s) :=
  .ite ((calm_onChan h _).trans (calm_handResult ..)) (calm_onChan h _)

theorem calm_goIdle (h : Head) : Calm s (goIdle h s) := (calm_onChan h _).trans (calm_handResult ..)

theorem calm_onCopies (h : Head) (f : CopyList → CopyList) : Calm s (onCopies h f s) := .of_queues ⟨rfl, rfl, rfl, rfl, rfl⟩

theorem calm_takeAck (h : Head) (a : Ack) : Calm s (takeAck h a s) := by
  unfold takeAck
  dsimp only
  split
  · exact .refl s
  · exact ((calm_onCopies h _).trans (.ite (calm_examine h) (.refl _))).trans calm_examineWatch

/-! ### Frame starts at the heads -/

theorem calm_frameRequest (h : Head) : Calm s (frameRequest h s) := by
  unfold frameRequest
  split
  · exact .refl s
  next q pending =>
    split
    · exact calm_refuseRequest ..
    · exact calm_onCtx h _ rfl fun idle => by rw [pending] at idle; cases idle

theorem calm_frameSelected (h : Head) : Calm s (frameSelected h s) := by
  unfold frameSelected
  split
  · exact .refl s
  · exact .ite (.refl s) ((calm_onCtx h _ rfl id).trans (calm_setMessage ..))

theorem calm_frameMessage (h : Head) : Calm s (frameMessage h s) := calm_onCtx h _ rfl id

theorem calm_frameHead (h : Head) : Calm s (frameHead h s) :=
  ((calm_frameRequest h).trans (calm_frameSelected h)).trans (calm_frameMessage h)

end Sys2Proof.Machine
end

section
/-! SUPPORT. Service numbers issued, called, sent back and returned, and tickets opened, picked, parked and signed off:
`Orderly`, operation by operation. -/

namespace Sys2Proof.Machine

variable {s : State}

/-! ### Service numbers (R91 to R101) -/

/-- The Service Number Unit written: only the law of the numbers reads it. -/
theorem orderly_onSnu (f : Snu → Snu) (numbers : NumberLaw s → NumberLaw (onSnu f s)) : Orderly s (onSnu f s) :=
  ⟨id, fun _ => id, fun _ _ => numbers⟩

/-- The head numbers after one head's number has changed. -/
theorem count_heads_change {s t : State} (h : Head) (same : ∀ a, a ≠ h → (ctx a t).nowServing = (ctx a s).nowServing)
    (n : Nat) : (allHeads.filterMap fun a => (ctx a t).nowServing).count n + (ctx h s).nowServing.toList.count n
      = (allHeads.filterMap fun a => (ctx a s).nowServing).count n + (ctx h t).nowServing.toList.count n :=
  count_filterMap_change (by decide) (mem_allHeads h) same n

/-- A number moved between the waiting list and a head: the operator, the ticket and the request of the head stay, N and
the range too, and no number comes to stand more often at the two places together. -/
theorem orderly_onCtx_onSnu (h : Head) (f : HeadCtx → HeadCtx) (g : Snu → Snu)
    (hf : ∀ c, (f c).operator = c.operator ∧ (f c).held = c.held ∧ (f c).request = c.request)
    (hg : (g s.snu).low = s.snu.low ∧ (g s.snu).high = s.snu.high ∧ (g s.snu).next = s.snu.next)
    (count : ∀ n, (f (ctx h s)).nowServing.toList.count n + ((g s.snu).waiting.map (·.number)).count n
      ≤ (ctx h s).nowServing.toList.count n + (s.snu.waiting.map (·.number)).count n) :
    Orderly s (onCtx h f (onSnu g s)) := by
  have heads (a : Head) : (ctx a (onCtx h f (onSnu g s))).operator = (ctx a s).operator
      ∧ (ctx a (onCtx h f (onSnu g s))).held = (ctx a s).held
      ∧ (ctx a (onCtx h f (onSnu g s))).request = (ctx a s).request := by
    rw [ctx_onCtx]
    split
    next e =>
      subst e
      exact hf _
    · exact ⟨rfl, rfl, rfl⟩
  obtain ⟨low, high, next⟩ := hg
  refine ⟨holderLaw_congr (fun _ => ⟨rfl, rfl, rfl⟩) fun a => ⟨(heads a).1, (heads a).2.1⟩, fun _ quiet closed => ?_,
    fun _ _ law => numberLaw_of_count law (fun n => ?_) low high ?_ id⟩
  · obtain ⟨tickets, packs, requests⟩ := quiet closed
    exact ⟨tickets, packs, fun a => (heads a).2.2.trans (requests a)⟩
  · have moved := count_heads_change (s := s) (t := onCtx h f (onSnu g s)) h
      (fun a ne => by rw [ctx_onCtx_ne _ _ ne]; rfl) n
    rw [ctx_onCtx_same, ctx_onSnu] at moved
    have places := count n
    rw [count_numbersInPlay, count_numbersInPlay]
    simp only [onCtx_snu, onSnu_snu, ticket_onCtx, ticket_onSnu]
    omega
  · simp only [onCtx_snu, onSnu_snu, low, high, next]
    exact ⟨law.2.2.1, law.2.2.2.1⟩

/-- N stays within the range as it advances (R91). -/
theorem nextNumber_range {u : Snu} (range : u.low ≤ u.next ∧ u.next ≤ u.high) :
    u.low ≤ nextNumber u ∧ nextNumber u ≤ u.high := by
  unfold nextNumber
  split <;> omega

theorem calm_refusePress : Calm s (refusePress s) := ⟨⟨fun _ => rfl, fun _ => rfl, rfl, rfl⟩, fun _ => id⟩

theorem orderly_press : Orderly s (press s) := by
  unfold press
  split
  · exact calm_refusePress.orderly
  next taken =>
    simp only [Bool.or_eq_true, not_or, Bool.not_eq_true', Bool.not_eq_false, issueRefused_iff] at taken
    obtain ⟨⟨opened, -⟩, fresh⟩ := taken
    refine orderly_onSnu _ fun law => numberLaw_of_issue law fresh (fun n => ?_) rfl rfl
      (nextNumber_range ⟨law.2.2.1, law.2.2.2.1⟩) (dayOpen_iff.1 opened)
    rw [count_numbersInPlay, count_numbersInPlay]
    simp only [onSnu_snu, ctx_onSnu, ticket_onSnu, List.map_append, List.map_cons, List.map_nil, List.count_append]
    omega

theorem orderly_presses (n : Nat) : Orderly s (presses n s) := by
  induction n generalizing s with
  | zero => exact .refl s
  | succ n ih => exact orderly_press.trans ih

theorem orderly_takePresses (n : Nat) : Orderly s (takePresses n s) :=
  .ite ((orderly_presses _).trans calm_refusePress.orderly) (orderly_presses _)

theorem orderly_takeCounter (c : Byte) : Orderly s (takeCounter c s) := by
  unfold takeCounter
  dsimp only
  split
  · exact (calm_onSnu _ rfl).orderly
  · exact (calm_onSnu _ rfl).orderly.trans (orderly_takePresses _)

/-- A number returned stands at the front of the waiting list (R101). -/
theorem orderly_returnNumber (h : Head) : Orderly s (returnNumber h s) := by
  unfold returnNumber
  split
  · exact .refl s
  next m serving =>
    refine orderly_onCtx_onSnu h _ _ (fun _ => ⟨rfl, rfl, rfl⟩) ⟨rfl, rfl, rfl⟩ fun n => ?_
    simp only [serving, Option.toList_some, Option.toList_none, List.map_cons, List.count_cons, List.count_nil]
    omega

theorem orderly_callNext (h : Head) : Orderly s (callNext h s) := by
  unfold callNext
  split
  · exact (calm_setMessage ..).orderly
  next e rest waiting =>
    refine orderly_onCtx_onSnu h _ _ (fun _ => ⟨rfl, rfl, rfl⟩) ⟨rfl, rfl, rfl⟩ fun n => ?_
    simp only [waiting, Option.toList_some, List.map_cons, List.count_cons, List.count_nil]
    omega

theorem orderly_sendBack {h : Head} {m : Nat} (serving : (ctx h s).nowServing = some m) : Orderly s (sendBack h m s) := by
  refine orderly_onCtx_onSnu h _ _ (fun _ => ⟨rfl, rfl, rfl⟩) ⟨rfl, rfl, rfl⟩ fun n => ?_
  simp only [serving, Option.toList_some, Option.toList_none]
  split
  · simp only [List.count_nil]
    omega
  · simp only [List.map_append, List.map_cons, List.map_nil, List.count_append, List.count_cons, List.count_nil]
    omega

theorem orderly_nextKey (h : Head) : Orderly s (nextKey h s) :=
  .ite (calm_setMessage ..).orderly (.ite (calm_setMessage ..).orderly (orderly_callNext h))

theorem orderly_skipKey (h : Head) : Orderly s (skipKey h s) := by
  refine .ite (calm_setMessage ..).orderly ?_
  split
  · exact (calm_setMessage ..).orderly
  next serving => exact orderly_sendBack serving

/-! ### Tickets opened and picked (R107, R115) -/

theorem service_serving_of_held {h : Head} {s : State} (operator : (ctx h s).operator.isSome)
    (idle : ¬service h s = .serving) : (ctx h s).held = none := by
  obtain ⟨op, signed⟩ := Option.isSome_iff_exists.1 operator
  cases held : (ctx h s).held with
  | none => rfl
  | some id => exact absurd (by simp [service, serviceOf, signed, held]) idle

/-- The slot that OPEN takes holds a FREE record. -/
theorem freeSlot_free {k : TicketSlot} (free : freeSlot s = some k) : (ticket k s).state = .free := by
  have found := List.find?_some free
  simpa using found

/-- What OPEN does once it has a number and a FREE record (R99, R107). -/
def opened (h : Head) (op : Operator) (n : Nat) (k : TicketSlot) (s : State) : State :=
  onCtx h (fun c => { c with
      nowServing := none, held := some (ticketId k (setSkipped h false (openRecord k h op n s))), labelMark := false })
    (setSkipped h false (openRecord k h op n s))

theorem openWith_none {h : Head} {op : Operator} {n : Nat} (full : freeSlot s = none) :
    openWith h op n s = setMessage h .poolFull s := by simp [openWith, full]

theorem openWith_some {h : Head} {op : Operator} {n : Nat} {k : TicketSlot} (free : freeSlot s = some k) :
    openWith h op n s = opened h op n k s := by
  simp only [openWith, free]
  rfl

/-- The ticket opened holds its number, the head no longer does, and nothing else has moved. -/
theorem count_opened {h : Head} {op : Operator} {n : Nat} {k : TicketSlot} (free : (ticket k s).state = .free) (m : Nat) :
    (numbersInPlay (opened h op n k s)).count m + (ctx h s).nowServing.toList.count m
      = (numbersInPlay s).count m + [n].count m := by
  have heads := count_heads_change (s := s) (t := opened h op n k s) h
    (fun a ne => by rw [opened, ctx_onCtx_ne _ _ ne]; rfl) m
  have tickets := count_filterMap_change (f := fun j => ticketNumber (ticket j (opened h op n k s)))
    (g := fun j => ticketNumber (ticket j s)) (List.nodup_finRange 48) (List.mem_finRange k)
    (fun j ne => congrArg ticketNumber (ticket_onTicket_ne s _ ne)) m
  have now : ticketNumber (ticket k (opened h op n k s)) = some n :=
    (congrArg ticketNumber (ticket_onTicket_same s k _)).trans rfl
  have before : ticketNumber (ticket k s) = none := by simp [ticketNumber, openTicket, free]
  have left : (ctx h (opened h op n k s)).nowServing = none := by rw [opened, ctx_onCtx_same]
  rw [now, before] at tickets
  rw [left] at heads
  rw [count_numbersInPlay, count_numbersInPlay]
  simp only [Option.toList_some, Option.toList_none, List.count_nil] at heads tickets
  have waiting : (opened h op n k s).snu.waiting = s.snu.waiting := rfl
  rw [waiting]
  omega

theorem holderLaw_opened {h : Head} {op : Operator} {n : Nat} {k : TicketSlot} (free : (ticket k s).state = .free)
    (noTicket : (ctx h s).held = none) (operator : (ctx h s).operator.isSome) (law : HolderLaw s) :
    HolderLaw (opened h op n k s) := by
  have noHolder : (ticket k s).holder = none := law.unheld (by rw [free]; exact nofun)
  have record : ticket k (opened h op n k s)
      = ⟨(ticket k s).serial + 1, .held, some n, some h, some h, some op, 0, [], 0, none⟩ := ticket_onTicket_same s k _
  refine holderLaw_handed law (fun j ne => congrArg ticketCore (ticket_onTicket_ne s _ ne))
    (fun a ne => by rw [opened, ctx_onCtx_ne _ _ ne]; rfl) noHolder noTicket (by rw [record]; exact ⟨rfl, rfl⟩) ?_
  rw [opened, ctx_onCtx_same]
  exact ⟨rfl, operator⟩

/-- In DAY_OPEN nothing needs to be quiet. -/
theorem Orderly.of_open {s t : State} (day : t.tot.day = .opened) (holders : HolderLaw s → HolderLaw t)
    (numbers : NumberLaw s → NumberLaw t) : Orderly s t :=
  ⟨holders, fun _ _ closed => absurd day closed, fun _ _ => numbers⟩

/-- The ticket is opened under the head's own number. -/
theorem orderly_openWith_serving {h : Head} {op : Operator} {n : Nat} (day : s.tot.day = .opened)
    (noTicket : (ctx h s).held = none) (operator : (ctx h s).operator.isSome)
    (serving : (ctx h s).nowServing = some n) : Orderly s (openWith h op n s) := by
  cases free : freeSlot s with
  | none =>
    rw [openWith_none free]
    exact (calm_setMessage ..).orderly
  | some k =>
    rw [openWith_some free]
    have state := freeSlot_free free
    refine .of_open day (holderLaw_opened state noTicket operator) fun law =>
      numberLaw_of_count law (fun m => ?_) rfl rfl ⟨law.2.2.1, law.2.2.2.1⟩ id
    have count := count_opened (h := h) (op := op) (n := n) state m
    rw [serving, Option.toList_some] at count
    omega

/-- The ticket is opened under a number issued for it, which is passed over where no record is FREE. -/
theorem orderly_openWith_issued {h : Head} {op : Operator} (day : s.tot.day = .opened)
    (noTicket : (ctx h s).held = none) (operator : (ctx h s).operator.isSome)
    (fresh : s.snu.next ∉ numbersInPlay s) :
    Orderly s (openWith h op s.snu.next (advanceNumber s)) := by
  have advanced : Orderly s (advanceNumber s) := orderly_onSnu _ fun law =>
    numberLaw_of_count law (fun _ => le_rfl) rfl rfl (nextNumber_range ⟨law.2.2.1, law.2.2.2.1⟩) id
  cases free : freeSlot (advanceNumber s) with
  | none =>
    rw [openWith_none free]
    exact advanced.trans (calm_setMessage ..).orderly
  | some k =>
    rw [openWith_some free]
    have state := freeSlot_free free
    refine .of_open day (fun law => holderLaw_opened state noTicket operator (advanced.holders law)) fun law =>
      numberLaw_of_issue law fresh (fun m => ?_) rfl rfl (nextNumber_range ⟨law.2.2.1, law.2.2.2.1⟩) day
    have count := count_opened (h := h) (op := op) (n := s.snu.next) state m
    have same : numbersInPlay (advanceNumber s) = numbersInPlay s := rfl
    rw [same] at count
    omega

theorem orderly_openKey (h : Head) : Orderly s (openKey h s) := by
  unfold openKey
  split
  · exact .refl s
  next op signed =>
    have operator : (ctx h s).operator.isSome := by rw [signed]; rfl
    split
    · exact (calm_setMessage ..).orderly
    next idle =>
      have noTicket := service_serving_of_held operator (by simpa using idle)
      split
      · exact (calm_setMessage ..).orderly
      next day =>
        have day := dayOpen_iff.1 (by simpa using day)
        split
        next n serving => exact orderly_openWith_serving day noTicket operator serving
        · split
          · exact (calm_setMessage ..).orderly
          next fresh =>
            exact orderly_openWith_issued day noTicket operator (mt (issueRefused_iff s).2 fresh)

/-- A PARKED ticket picked is open as before, under its number (R115). -/
theorem orderly_pick {h : Head} {k : TicketSlot} (parked : (ticket k s).state = .parked)
    (noTicket : (ctx h s).held = none) (operator : (ctx h s).operator.isSome) :
    Orderly s (onCtx h (fun c => { c with held := some (ticketId k s), labelMark := false }) (pickRecord k h s)) := by
  have record : ticket k (pickRecord k h s) = { ticket k s with state := .held, holder := some h, idle := 0 } :=
    ticket_onTicket_same s k _
  have other (j : TicketSlot) (ne : j ≠ k) : ticket j (pickRecord k h s) = ticket j s := ticket_onTicket_ne s _ ne
  have openSame (j : TicketSlot) : openTicket (ticket j (pickRecord k h s)) = openTicket (ticket j s)
      ∧ (ticket j (pickRecord k h s)).service = (ticket j s).service := by
    by_cases e : j = k
    · subst e
      rw [record]
      simp [openTicket, parked]
    · rw [other j e]
      exact ⟨rfl, rfl⟩
  have serving (a : Head) : (ctx a (onCtx h (fun c => { c with held := some (ticketId k s), labelMark := false })
      (pickRecord k h s))).nowServing = (ctx a s).nowServing := by
    rw [ctx_onCtx]
    split
    next e =>
      subst e
      rfl
    · rfl
  refine ⟨fun law => ?_, fun _ quiet closed => ?_, fun _ _ law => ?_⟩
  · refine holderLaw_handed law (fun j ne => by rw [ticket_onCtx, other j ne])
      (fun a ne => by rw [ctx_onCtx_ne _ _ ne]; rfl) (law.unheld (by rw [parked]; exact nofun)) noTicket
      (by rw [ticket_onCtx, record]; exact ⟨rfl, rfl⟩) ?_
    rw [ctx_onCtx_same, ticketId, ticketId, ticket_onCtx, record]
    exact ⟨rfl, operator⟩
  · have shut := (quiet closed).1 k
    simp [openTicket, parked] at shut
  · refine numberLaw_of_count law (fun n => ?_) rfl rfl ⟨law.2.2.1, law.2.2.2.1⟩ id
    rw [count_numbersInPlay, count_numbersInPlay]
    simp only [serving, ticketNumber, ticket_onCtx, openSame]
    rfl

theorem orderly_pickKey {h : Head} (operator : (ctx h s).operator.isSome) (n : Nat) : Orderly s (pickKey h n s) := by
  unfold pickKey
  split
  · exact (calm_setMessage ..).orderly
  next idle =>
    simp only [Bool.or_eq_true, not_or, beq_iff_eq] at idle
    split
    · exact (calm_setMessage ..).orderly
    · split
      next parked => exact orderly_pick (beq_iff_eq.1 parked) (service_serving_of_held operator idle.1) operator
      · exact (calm_setMessage ..).orderly

/-! ### Tickets parked, voided and closed (R110, R114, R118, R119) -/

theorem openTicket_of_held {k : Ticket} (state : k.state = .held) : openTicket k = true := by simp [openTicket, state]

/-- A head that leaves the ticket it holds, once the ticket is let go. -/
theorem orderly_leave {h : Head} {id : TicketId} {t : State} (held : (ctx h s).held = some id)
    (letGo : (ticket id.slot s).state = .held → LetGo id.slot s t) (heads : ∀ g, headCore (ctx g t) = headCore (ctx g s)) :
    Orderly s (leaveTicket h id t) :=
  .of_holders fun law =>
    have ⟨_, holder, state⟩ := law.holder held
    ((letGo state).leave heads holder id).orderly

theorem letGo_parkRecord {k : TicketSlot} (state : (ticket k s).state = .held) : LetGo k s (parkRecord k s) :=
  .of_record (calm_record k s) rfl nofun fun _ => ⟨openTicket_of_held state, rfl⟩

theorem orderly_park {h : Head} {id : TicketId} (held : (ctx h s).held = some id) :
    Orderly s (leaveTicket h id (parkRecord id.slot s)) :=
  orderly_leave held letGo_parkRecord fun _ => rfl

theorem calm_walkVoid (ls : List Line) : Calm s (walkLines foldLineVoid ls s) :=
  calm_walkLines (fun _ _ => calm_foldInto ..) ls

theorem letGo_voidRecord (k : TicketSlot) : LetGo k s (voidRecord k s) :=
  .of_record (calm_walkVoid _) rfl nofun nofun

theorem orderly_void {h : Head} {id : TicketId} (held : (ctx h s).held = some id) :
    Orderly s (leaveTicket h id (voidRecord id.slot s)) :=
  orderly_leave held (fun _ => letGo_voidRecord _) fun g => (calm_walkVoid _).heads g

/-- The same with the head leaving first, as the host voids a ticket (R122). -/
theorem orderly_voidLeft {h : Head} {k : TicketSlot} (held : (ctx h s).held = some (ticketId k s)) :
    Orderly s (voidRecord k (leaveTicket h (ticketId k s) s)) := by
  refine .of_holders fun law => ?_
  obtain ⟨-, holder, -⟩ := law.holder held
  have letGo := letGo_voidRecord (s := leaveTicket h (ticketId k s) s) k
  refine Released.orderly (k := k) ⟨⟨letGo.tickets, letGo.free, letGo.state, letGo.number, letGo.numbers, letGo.day,
    fun day idle => letGo.work day (noWork_leaveTicket h _ idle)⟩, fun g => ?_⟩
  rw [show (ticket k s).holder = some h from holder]
  exact ((calm_walkVoid _).heads g).trans (headCore_leaveTicket h g _)

/-- What a close does between the change of the record and the note of its job: the lines walked, the job queued. -/
theorem calm_closing (k : TicketSlot) (h : Head) (p : Printer) :
    Calm (onTicket k (fun k => { k with state := .closing, holder := none }) s)
      (queueJob p (some h) 1 (.summary (summaryOf k s)) (walkLines foldLineSale (ticket k s).lines
        (onTicket k (fun k => { k with state := .closing, holder := none }) s))) :=
  (calm_walkLines (fun _ _ => calm_foldInto ..) _).trans (calm_queueJob _ _ _ nofun)

theorem letGo_closeRecord (k : TicketSlot) (h : Head) (p : Printer) : LetGo k s (closeRecord k h p s) := by
  have closing := calm_closing (s := s) k h p
  have record := closing.tickets k
  rw [ticket_onTicket_same] at record
  simp only [ticketCore, Prod.mk.injEq] at record
  obtain ⟨-, state, -, holder⟩ := record
  refine .of_record closing holder (fun held => ?_) fun opened => ?_
  · have := held.symm.trans state
    cases this
  · simp [openTicket, state] at opened

theorem orderly_totalTicket {h : Head} {id : TicketId} (held : (ctx h s).held = some id) :
    Orderly s (totalTicket h id s) := by
  have closed : Orderly s (leaveTicket h id (closeRecord id.slot h (settings h s).printer s)) :=
    orderly_leave held (fun _ => letGo_closeRecord ..) fun g => (calm_closing ..).heads g
  exact .ite (calm_setMessage ..).orderly (.ite (calm_setMessage ..).orderly
    (.ite (closed.trans (calm_setMessage ..).orderly) closed))

theorem calm_voidNewest (k : TicketSlot) : Calm s (voidNewest k s) := by
  unfold voidNewest
  split
  · exact .refl s
  · exact ((calm_foldInto ..).trans (calm_onTicket k _ rfl)).trans (calm_releaseRef _)

theorem calm_voidLast (h : Head) (id : TicketId) : Calm s (voidLast h id s) := by
  unfold voidLast
  split
  · exact calm_setMessage ..
  · exact .ite ((calm_voidNewest _).trans (calm_onCtx h _ rfl fun idle => idle)) (calm_setMessage ..)

theorem orderly_idlePark (k : TicketSlot) : Orderly s (idlePark k s) := by
  unfold idlePark
  dsimp only
  split
  next h holder =>
    refine .of_holders fun law => ?_
    have parked := orderly_park (id := ticketId k s) ((law.1 k h).1 holder)
    exact parked.trans (calm_setMessage ..).orderly
  · exact .refl s

theorem orderly_frameTicket (k : TicketSlot) : Orderly s (frameTicket k s) :=
  .ite (.refl s) (.ite (orderly_idlePark k) (calm_onTicket k _ rfl).orderly)

/-! ### Sign-on and sign-off (R35, R36) -/

/-- The ticket that a sign-off parks, with the head's field emptied. -/
theorem orderly_parkHeld {h : Head} {id : TicketId} (held : (ctx h s).held = some id) :
    Orderly s (parkRecord id.slot (onCtx h (fun c => { c with held := none }) s)) := by
  refine .of_holders fun law => ?_
  obtain ⟨-, holder, state⟩ := law.holder held
  have letGo := letGo_parkRecord state
  refine Released.orderly (k := id.slot) ⟨⟨letGo.tickets, letGo.free, letGo.state, letGo.number, rfl, rfl, ?_⟩, fun g => ?_⟩
  · rintro - ⟨packs, requests⟩
    refine ⟨packs, fun g => ?_⟩
    rw [parkRecord, ctx_onTicket, ctx_onCtx]
    split
    · exact requests h
    · exact requests g
  · rw [holder, parkRecord, ctx_onTicket, ctx_onCtx]
    by_cases e : g = h
    · subst e
      rw [if_pos rfl, if_pos rfl]
    · rw [if_neg e, if_neg fun x => e (Option.some.inj x).symm]

theorem held_returnNumber (h a : Head) : (ctx a (returnNumber h s)).held = (ctx a s).held := by
  unfold returnNumber
  split
  · rfl
  · rw [ctx_onCtx]
    split
    next e =>
      subst e
      rfl
    · rfl

theorem orderly_beforeSignOff (h : Head) :
    Orderly s (beforeSignOff h s) ∧ (ctx h (beforeSignOff h s)).held = none := by
  unfold beforeSignOff
  rw [held_returnNumber]
  have dropped : Orderly s (dropRequest h s) := (calm_dropRequest h).orderly
  split
  next id held =>
    refine ⟨(dropped.trans (orderly_parkHeld held)).trans (orderly_returnNumber h), ?_⟩
    rw [parkRecord, ctx_onTicket, ctx_onCtx_same]
  next idle => exact ⟨dropped.trans (orderly_returnNumber h), idle⟩

/-- A head without a ticket emptied: a number that it still had is gone. -/
theorem orderly_offCtx {h : Head} (noTicket : (ctx h s).held = none) : Orderly s (onCtx h (fun _ => offCtx) s) := by
  have heads (a : Head) (ne : a ≠ h) : ctx a (onCtx h (fun _ => offCtx) s) = ctx a s := ctx_onCtx_ne _ _ ne
  have off : ctx h (onCtx h (fun _ => offCtx) s) = offCtx := ctx_onCtx_same ..
  have held (a : Head) : (ctx a (onCtx h (fun _ => offCtx) s)).held = (ctx a s).held := by
    by_cases e : a = h
    · subst e
      rw [off, noTicket]
      rfl
    · rw [heads a e]
  refine ⟨fun law => ⟨fun k a => ?_, law.2.1, fun a id names => ?_⟩, fun _ quiet closed => ?_, fun _ _ law => ?_⟩
  · rw [held]
    exact law.1 k a
  · have before := names
    rw [held] at before
    by_cases e : a = h
    · subst e
      rw [noTicket] at before
      cases before
    · rw [heads a e]
      exact law.2.2 a id before
  · obtain ⟨tickets, packs, requests⟩ := quiet closed
    refine ⟨tickets, packs, fun a => ?_⟩
    by_cases e : a = h
    · subst e
      rw [off]
      rfl
    · rw [heads a e]
      exact requests a
  · refine numberLaw_of_count law (fun n => ?_) rfl rfl ⟨law.2.2.1, law.2.2.2.1⟩ id
    have moved := count_heads_change (s := s) (t := onCtx h (fun _ => offCtx) s) h (fun a ne => by rw [heads a ne]) n
    rw [off] at moved
    have gone : offCtx.nowServing.toList.count n = 0 := rfl
    rw [count_numbersInPlay, count_numbersInPlay]
    simp only [onCtx_snu, ticket_onCtx]
    omega

theorem calm_setSignOn (op : Operator) (e : Option Head) : Calm s (setSignOn op e s) := .of_queues ⟨rfl, rfl, rfl, rfl, rfl⟩

theorem orderly_signOff (h : Head) : Orderly s (signOff h s) := by
  cases signed : (ctx h s).operator with
  | none => rw [signOff_none signed]; exact .refl s
  | some op =>
    obtain ⟨before, noTicket⟩ := orderly_beforeSignOff (s := s) h
    rw [signOff_some signed]
    exact (before.trans (calm_setSignOn op none).orderly).trans (orderly_offCtx noTicket)

/-- A head signed off holds no ticket. -/
theorem held_signOff {h : Head} (law : HolderLaw s) : (ctx h (signOff h s)).held = none := by
  cases signed : (ctx h s).operator with
  | some op => rw [signOff_some signed, ctx_onCtx_same]; rfl
  | none =>
    rw [signOff_none signed]
    cases held : (ctx h s).held with
    | none => rfl
    | some id =>
      have operator := (law.2.2 h id held).2
      rw [signed] at operator
      cases operator

theorem orderly_loseContext (h : Head) : Orderly s (loseContext h s) :=
  .of_holders fun law => (orderly_signOff h).trans (orderly_offCtx (held_signOff law))

theorem orderly_changeRole (h : Head) : Orderly s (changeRole h s) :=
  (orderly_signOff h).trans (calm_onCtx h _ rfl id).orderly

/-- An operator signed on at a head without a ticket. -/
theorem orderly_signOn (h : Head) (op : Operator) : Orderly s (signOn h op s) := by
  have heads (a : Head) : (ctx a (signOn h op s)).held = (ctx a s).held
      ∧ (ctx a (signOn h op s)).nowServing = (ctx a s).nowServing
      ∧ (ctx a (signOn h op s)).request = (ctx a s).request
      ∧ ((ctx a s).operator.isSome → (ctx a (signOn h op s)).operator.isSome) := by
    rw [signOn, ctx_onCtx]
    split
    next e =>
      subst e
      exact ⟨rfl, rfl, rfl, fun _ => rfl⟩
    · exact ⟨rfl, rfl, rfl, id⟩
  refine ⟨fun law => ⟨fun k a => ?_, law.2.1, fun a id names => ?_⟩, fun _ quiet closed => ?_, fun _ _ law => ?_⟩
  · rw [(heads a).1]
    exact law.1 k a
  · rw [(heads a).1] at names
    obtain ⟨serial, operator⟩ := law.2.2 a id names
    exact ⟨serial, (heads a).2.2.2 operator⟩
  · obtain ⟨tickets, packs, requests⟩ := quiet closed
    exact ⟨tickets, packs, fun a => (heads a).2.2.1.trans (requests a)⟩
  · refine numberLaw_of_count law (fun n => ?_) rfl rfl ⟨law.2.2.1, law.2.2.2.1⟩ id
    rw [count_numbersInPlay, count_numbersInPlay]
    simp only [heads]
    rfl

theorem orderly_signOnKey (h : Head) (n : Nat) : Orderly s (signOnKey h n s) := by
  have moved (h' : Head) (parked : Bool) (u : State) : Orderly u (movedMessage h' parked u) :=
    .ite (calm_setMessage ..).orderly (.refl u)
  unfold signOnKey
  split
  · exact (calm_setMessage ..).orderly
  · split
    · exact (orderly_signOff h).trans (orderly_signOn ..)
    · exact .ite (.refl s)
        ((((orderly_signOff _).trans (orderly_signOff h)).trans (moved ..)).trans (orderly_signOn ..))

/-! ### Keys (R33 to R49) -/

/-- A key's row keeps what the key's own rule keeps at a head with an operator, or at any head where an OFF head takes
the key. -/
theorem orderly_takeKey {k : KeyKind} {h : Head} {act : Nat → State → State}
    (ha : ∀ n u, (takenOff k = false → (ctx h u).operator.isSome) → Orderly u (act n u)) :
    Orderly s (takeKey k h act s) := by
  have passed (n : Nat) (u : State) : Orderly u (gate k h (act n) u) := by
    have before : Calm u (keyAtTicket h (clearMessage h u)) := by
      refine (calm_onCtx h (fun c => { c with message := none }) rfl id).trans ?_
      unfold keyAtTicket
      split
      · exact calm_onTicket _ _ rfl
      · exact .refl _
    unfold gate
    dsimp only
    split
    · exact .refl u
    split
    · exact (before.trans (calm_setMessage ..)).orderly
    next signed =>
      refine .ite (before.orderly.trans (ha _ _ fun off => ?_)) before.orderly
      rw [off] at signed
      cases operator : (ctx h (keyAtTicket h (clearMessage h u))).operator with
      | none => simp [service, serviceOf, operator] at signed
      | some op => rfl
  unfold takeKey
  split
  · exact .refl s
  · refine .ite (Orderly.trans (Calm.orderly ?_) (passed ..)) (.refl s)
    exact .of_queues ⟨rfl, rfl, rfl, rfl, rfl⟩

theorem calm_countKey (h : Head) (n : Nat) : Calm s (countKey h n s) := by
  refine .ite (calm_setMessage ..) (.ite (calm_onCtx h _ rfl id) (.ite (calm_onCtx h _ rfl fun idle => ?_)
    (calm_onCtx h _ rfl id)))
  rw [idle]
  rfl

theorem calm_labelKey (h : Head) : Calm s (labelKey h s) := by
  refine .ite (.ite (calm_setMessage ..) ?_) (.ite (calm_setMessage ..) (calm_onCtx h _ rfl id))
  split
  · exact calm_askItem ..
  · exact calm_setMessage ..

theorem calm_batchKey (h : Head) (n : Nat) : Calm s (batchKey h n s) := .ite (calm_setMessage ..) (calm_onCtx h _ rfl id)

theorem calm_clearKey (h : Head) : Calm s (clearKey h s) := (calm_dropRequest h).trans (calm_onCtx h _ rfl id)

theorem calm_weighingKey (h : Head) (r : Except Code Channel) : Calm s (weighingKey h r s) := by
  unfold weighingKey
  split
  · exact calm_onChan ..
  · exact calm_setMessage ..

theorem orderly_withTicket {h : Head} {f : TicketId → State → State}
    (hf : ∀ id, (ctx h s).held = some id → Orderly s (f id s)) : Orderly s (withTicket h f s) := by
  unfold withTicket
  split
  · exact (calm_setMessage ..).orderly
  next id held => exact hf id held

end Sys2Proof.Machine
end

section
/-! SUPPORT. `Orderly` along the counter link, at the commands of the host and at the resets, and the settlement of the
step lemma for heads and tickets, quiet nights and service numbers. -/

namespace Sys2Proof.Machine

variable {s : State}

/-! ### Presence (R181 to R184) -/

theorem calm_onSlot (i : Slot) (f : SlotLink → SlotLink) : Calm s (onSlot i f s) := .of_queues ⟨rfl, rfl, rfl, rfl, rfl⟩

theorem calm_onHeadLink (h : Head) (f : HeadLink → HeadLink) : Calm s (onHeadLink h f s) :=
  .of_queues ⟨rfl, rfl, rfl, rfl, rfl⟩

theorem calm_onInbox (h : Head) (f : Inbox → Inbox) : Calm s (onInbox h f s) := .of_queues ⟨rfl, rfl, rfl, rfl, rfl⟩

theorem calm_latch (f : Latched → Latched) : Calm s (latch f s) := .of_queues ⟨rfl, rfl, rfl, rfl, rfl⟩

theorem calm_countError (i : Slot) : Calm s (countError i s) := .ite (.refl s) (calm_onSlot ..)

theorem orderly_ownersLose (i : Slot) : Orderly s (ownersLose i s) := by
  have lost (h : Head) : Orderly s (loseContext h (flagHeadLost h (onHeadLink h (fun _ => resetHeadLink) s))) :=
    ((calm_onHeadLink h _).trans (calm_latch _)).orderly.trans (orderly_loseContext h)
  unfold ownersLose
  split
  · exact (lost _).trans (((calm_goIdle _).trans (calm_onCopies _ _)).trans calm_examineWatch).orderly
  · exact ((calm_latch _).trans (calm_onPrinter _ _)).orderly
  · exact ((calm_latch _).trans (calm_onSnu _ rfl)).orderly

theorem orderly_loseSlot (p : Presence) (i : Slot) : Orderly s (loseSlot p i s) :=
  (calm_onSlot i _).orderly.trans (orderly_ownersLose i)

theorem calm_ownersJoin (i : Slot) : Calm s (ownersJoin i s) := by
  unfold ownersJoin
  split
  · exact ((calm_onHeadLink _ _).trans (calm_restart _)).trans (calm_onCopies _ _)
  · exact .refl s
  · exact calm_onSnu _ rfl

theorem orderly_takeJoin (i : Slot) : Orderly s (takeJoin i s) :=
  have lost : Orderly s (if onLink i s then loseSlot .absent i s else s) := .ite (orderly_loseSlot ..) (.refl s)
  lost.trans ((calm_onSlot i _).trans (calm_ownersJoin i)).orderly

theorem calm_channelMiss (i : Slot) : Calm s (channelMiss i s) := by
  unfold channelMiss
  split
  · exact calm_onChan ..
  · exact .refl s

theorem orderly_takeMiss (i : Slot) : Orderly s (takeMiss i s) :=
  .ite (.refl s) (.ite ((calm_channelMiss i).orderly.trans (orderly_loseSlot ..))
    ((calm_onSlot i _).trans (calm_channelMiss i)).orderly)

/-! ### Good reports and upstream parts (R176 to R189) -/

theorem calm_takeKeyEvent (h : Head) (k : WireKey) : Calm s (takeKeyEvent h k s) := by
  refine .ite (.refl s) ?_
  split
  · exact .ite ((calm_onHeadLink h _).trans (calm_onInbox h _)) ((calm_onHeadLink h _).trans (calm_countError _))
  · exact (calm_onHeadLink h _).trans (calm_countError _)

theorem calm_takeWireAck (h : Head) (a : WireAck) : Calm s (takeWireAck h a s) := by
  unfold takeWireAck
  split
  · exact (calm_onHeadLink h _).trans (calm_onInbox h _)
  · exact calm_countError _

theorem calm_handHead (h : Head) (r : HeadReport) : Calm s (handHead h r s) := by
  have keyed : Calm s (match r.key with
      | some k => takeKeyEvent h k (onInbox h (fun b => { b with samples := b.samples ++ [r.raw] }) s)
      | none => onInbox h (fun b => { b with samples := b.samples ++ [r.raw] }) s) := by
    split
    · exact (calm_onInbox h _).trans (calm_takeKeyEvent ..)
    · exact calm_onInbox h _
  unfold handHead
  dsimp only
  split
  · exact keyed.trans (calm_takeWireAck ..)
  · exact keyed

theorem orderly_handOn (i : Slot) (first : Bool) (m : Upstream) : Orderly s (handOn i first m s) := by
  have online (h : Head) : Calm s (channelOnline h s) := .ite (.refl s) (calm_onChan ..)
  unfold handOn
  split
  · exact (Calm.trans (.ite (online _) (.refl s)) (calm_handHead ..)).orderly
  · exact .ite (orderly_printerOnline ..) (orderly_takePrinterReport ..)
  · exact orderly_takeCounter _
  · exact .refl s

theorem orderly_takeReport (i : Slot) (m : Upstream) : Orderly s (takeReport i m s) := by
  have online (first : Bool) : Orderly s (handOn i first m (setPresence i .online s)) :=
    (calm_onSlot i _).orderly.trans (orderly_handOn ..)
  unfold takeReport
  split
  · exact .refl s
  · exact .refl s
  all_goals exact online _

theorem orderly_rejectPart (i : Slot) : Orderly s (rejectPart i s) := (calm_countError i).orderly.trans (orderly_takeMiss i)

theorem orderly_upstreamPart (i : Slot) (part : Option (List Byte)) : Orderly s (upstreamPart i part s) := by
  refine .ite (.refl s) ?_
  split
  · exact orderly_takeMiss i
  · exact orderly_rejectPart i
  · exact orderly_rejectPart i
  next m _ =>
    cases m with
    | join k => exact .ite (orderly_takeJoin i) (orderly_rejectPart i)
    | head | printer | dispenser => exact orderly_takeReport ..

/-! ### Frame start (R174) -/

theorem orderly_maskSlot (m : Table Bool 11) (i : Slot) : Orderly s (maskSlot m i s) := by
  unfold maskSlot
  split
  · exact .ite (orderly_loseSlot ..) (calm_onSlot ..).orderly
  · exact .ite (calm_onSlot ..).orderly (.refl s)
  · exact .refl s
  · exact .refl s

theorem calm_link (u : Lnk) : Calm s { s with lnk := u } := .of_queues ⟨rfl, rfl, rfl, rfl, rfl⟩

theorem orderly_applyMask : Orderly s (applyMask s) := by
  unfold applyMask
  split
  · exact .refl s
  next m _ =>
    have masked : Orderly s (eachSlotDown (maskSlot m) s) := .foldl (fun _ _ => orderly_maskSlot ..) _ s
    exact masked.trans (calm_link _).orderly

theorem orderly_restartSlot (i : Slot) : Orderly s (restartSlot i s) := by
  unfold restartSlot
  split
  · exact orderly_loseSlot ..
  · exact orderly_loseSlot ..
  · exact (calm_onSlot ..).orderly
  · exact .refl s
  · exact .refl s

theorem orderly_applyRestart : Orderly s (applyRestart s) := by
  have restarted : Orderly s (eachSlotDown restartSlot s) := .foldl (fun _ _ => orderly_restartSlot _) _ s
  exact .ite (restarted.trans (calm_link _).orderly) (.refl s)

theorem calm_joinWait (i : Slot) : Calm s (joinWait i s) := calm_onSlot ..

theorem orderly_frameStart : Orderly s (frameStart s) := by
  have waits (u : State) : Calm u (eachSlot joinWait u) := .foldl (fun _ _ => calm_joinWait _) _ u
  have counted (u : State) : Calm u (countFrame u) := .of_queues ⟨rfl, rfl, rfl, rfl, rfl⟩
  exact (orderly_applyMask.trans orderly_applyRestart).trans ((waits _).trans (counted _)).orderly

/-! ### Resets (R207) -/

theorem orderly_hubReset : Orderly s (hubResetEffects s) := by
  have signedOff : Orderly s (allHeads.reverse.foldl (fun s h => loseContext h s) s) :=
    .foldl (fun _ _ => orderly_loseContext _) _ s
  have emptied (u : State) : Calm u { u with hsu := { u.hsu with signOn := Table.const 32 none } } :=
    .of_queues ⟨rfl, rfl, rfl, rfl, rfl⟩
  have channels (u : State) : Calm u (resetChannels u) := .of_queues ⟨rfl, rfl, rfl, rfl, rfl⟩
  have devices (u : State) : Calm u (printerOffline 0 (printerOffline 1 (dispenserGone u))) :=
    ((calm_onSnu _ rfl).trans (calm_onPrinter 1 _)).trans (calm_onPrinter 0 _)
  have rest (u : State) : Calm u { u with
      ccu := powerOnCcu, tot := { u.tot with hold := none }, lnk := resetLink u.lnk, port := resetPort u.port
      hand := emptyHand, down := noDownstream } := .of_queues ⟨rfl, rfl, rfl, rfl, rfl⟩
  exact (signedOff.trans (emptied _).orderly).trans (((channels _).trans (devices _)).trans (rest _)).orderly

/-! ### One event at each head -/

/-- Where the event at a head writes one thing of that head alone, and keeps what it reads elsewhere, that thing is
written once at each head. -/
theorem eachHead_at {β : Type} (see : Head → State → β) {f : Head → State → State} (g : Head → β → β) {p : State → Prop}
    (hf : ∀ a u, p u → p (f a u) ∧ ∀ b, see b (f a u) = if b = a then g a (see a u) else see b u) {s : State} (hs : p s)
    (h : Head) : see h (eachHead f s) = g h (see h s) := by
  have run : ∀ (xs : List Head) (u : State), xs.Nodup → p u →
      see h (xs.foldl (fun s a => f a s) u) = if h ∈ xs then g h (see h u) else see h u := by
    intro xs
    induction xs with
    | nil => simp
    | cons a xs ih =>
      intro u nodup hu
      obtain ⟨new, nodup⟩ := List.nodup_cons.1 nodup
      obtain ⟨after, seen⟩ := hf a u hu
      rw [List.foldl_cons, ih _ nodup after, seen h]
      by_cases e : h = a
      · subst e
        simp [new]
      · simp [e]
  exact (run allHeads s (by decide) hs).trans (if_pos (mem_allHeads h))

theorem ctx_cancelRequest (a b : Head) (code : Code) (u : State) :
    ctx b (cancelRequest a code u) = if b = a then cancelled code (ctx a u) else ctx b u := by
  rw [cancelRequest_eq, ctx_onCtx]

/-! ### CLOSE_DAY (R161, R162, R102) -/

/-- What CLOSE_DAY leaves where nothing is open. -/
def dayClosing (s : State) : State := eachHead (fun h => cancelRequest h .dayClosed) (closeNumbers (startDrain s))

theorem ctx_dayClosing (h : Head) :
    ctx h (dayClosing s) = cancelled .dayClosed { ctx h s with nowServing := none } := by
  have closed : ctx h (closeNumbers (startDrain s)) = { ctx h s with nowServing := none } :=
    eachHead_at ctx (fun _ c => { c with nowServing := none }) (p := fun _ => True)
      (fun a u _ => ⟨trivial, fun b => ctx_onCtx u a b _⟩) trivial h
  rw [dayClosing, ← closed]
  exact eachHead_at ctx (fun _ => cancelled .dayClosed) (p := fun _ => True)
    (fun a u _ => ⟨trivial, fun b => ctx_cancelRequest a b _ u⟩) trivial h

theorem cancelled_core (code : Code) (c : HeadCtx) : (cancelled code c).request = none
    ∧ (cancelled code c).operator = c.operator ∧ (cancelled code c).held = c.held
    ∧ (cancelled code c).nowServing = c.nowServing := by
  unfold cancelled
  split
  next none => exact ⟨none, rfl, rfl, rfl⟩
  · exact ⟨rfl, rfl, rfl, rfl⟩

/-- CLOSE_DAY writes heads, numbers and the day, and no ticket and no queue. -/
theorem dayClosing_blocks : (dayClosing s).tkp = s.tkp ∧ (dayClosing s).lbc = s.lbc
    ∧ (dayClosing s).snu = (closeNumbers (startDrain s)).snu ∧ (dayClosing s).tot = (startDrain s).tot := by
  unfold dayClosing
  refine ⟨?_, ?_, ?_, ?_⟩
  · exact (eachHead_keeps (·.tkp) (fun _ _ => by simp) _).trans (by simp [startDrain])
  · exact (eachHead_keeps (·.lbc) (fun _ _ => by simp) _).trans (by simp [startDrain])
  · exact eachHead_keeps (·.snu) (fun _ _ => by simp) _
  · exact (eachHead_keeps (·.tot) (fun _ _ => by simp) _).trans (by simp)

theorem snu_closeNumbers (u : State) : (closeNumbers u).snu
    = { u.snu with waiting := [], lastCalled := none, skipped := Table.const 8 false } :=
  eachHead_keeps (·.snu) (fun _ _ => rfl) _

/-- With no ticket open and no pack unfolded the day can close: requests are cancelled and numbers cleared. -/
theorem orderly_dayClosing (noTicket : ∀ k : TicketSlot, openTicket (ticket k s) = false) (noPack : NoPacks s) :
    Orderly s (dayClosing s) := by
  obtain ⟨tkp, lbc, snu, tot⟩ := dayClosing_blocks (s := s)
  rw [snu_closeNumbers] at snu
  have tickets (k : TicketSlot) : ticket k (dayClosing s) = ticket k s := by rw [ticket, tkp]; rfl
  have heads (h : Head) := cancelled_core .dayClosed { ctx h s with nowServing := none }
  have nothing : numbersInPlay (dayClosing s) = [] := by
    have waiting : (dayClosing s).snu.waiting = [] := by rw [snu]
    rw [numbersInPlay, waiting]
    simp only [ctx_dayClosing, heads, tickets, noTicket]
    simp
  refine ⟨holderLaw_congr (fun k => by rw [tickets]; exact ⟨rfl, rfl, rfl⟩) (fun h => ?_), fun _ _ => ?_, fun _ _ law => ?_⟩
  · rw [ctx_dayClosing]
    exact ⟨(heads h).2.1, (heads h).2.2.1⟩
  · refine quietLaw_iff.2 fun _ => ⟨fun k => by rw [tickets]; exact noTicket k, noPacks_congr (by rw [lbc]) noPack,
      fun h => ?_⟩
    rw [ctx_dayClosing]
    exact (heads h).1
  · exact numberLaw_of_nothing nothing (by rw [snu]; exact ⟨law.2.2.1, law.2.2.2.1⟩)

/-! ### The commands of the host -/

theorem calm_channelEffects (h : Head) (old new : HeadSettings) : Calm s (channelEffects h old new s) := by
  have calibrated (u : State) : Calm u (if calibrationChanged old new then
      onChan h (fun c => { c with manual := none, zero := new.z0 }) u else u) := .ite (calm_onChan ..) (.refl u)
  have tare (u : State) : Calm u (if old.scale != new.scale then onChan h (fun c => { c with manual := none }) u else u) :=
    .ite (calm_onChan ..) (.refl u)
  exact .ite (calm_goIdle h) (((calibrated s).trans (tare _)).trans
    ((Calm.ite (calm_restart h) (.refl _)).trans (.ite (calm_onChan ..) (.refl _))))

theorem orderly_configureHead (f : RawHead) : Orderly s (configureHead f s).state := by
  have stored (h : Head) (new : HeadSettings) : Calm s (storeSettings h new s) := .of_queues ⟨rfl, rfl, rfl, rfl, rfl⟩
  rw [configureHead_eq]
  split
  · exact .refl s
  · split
    · exact .refl s
    · exact ((stored ..).orderly.trans (.ite (orderly_changeRole _) (.refl _))).trans
        ((calm_channelEffects ..).trans (.ite (calm_onHeadLink ..) (.refl _))).orderly

theorem calm_configurePair (f : RawPair) : Calm s (configurePair f s).state := by
  unfold configurePair
  split
  · exact .refl s
  next p new _ =>
    have stored : Calm s (storePair p new s) := .of_queues ⟨rfl, rfl, rfl, rfl, rfl⟩
    exact .ite stored ((stored.trans (calm_restart _)).trans (calm_restart _))

theorem calm_withdrawItem (n : Nat) : Calm s (withdrawItem n s).state := by
  unfold withdrawItem named
  split
  · exact .refl s
  split
  · exact .refl s
  · dsimp only
    split
    · exact .refl s
    · have marked : Calm s (withdrawCopies n (onItemNumber n withdrawn s)) := .of_queues (by simp)
      exact marked.trans (calm_purgeCheck _)

theorem orderly_setNumberRange (low high : Nat) : Orderly s (setNumberRange low high s).state := by
  unfold setNumberRange
  split
  · exact .refl s
  next range =>
    split
    · exact .refl s
    next closed =>
      refine orderly_onSnu (fun u => { u with low := low, high := high, capacity := capacityOf low high, next := low })
        fun law => numberLaw_of_nothing ?_ ?_
      · have nothing : numbersInPlay s = [] := law.2.2.2.2 fun opened => by simp [opened] at closed
        exact nothing
      · exact ⟨le_rfl, (not_le.1 fun empty => range (.inr (.inr empty))).le⟩

theorem orderly_voidTicketCommand (slot serial : Nat) : Orderly s (voidTicketCommand slot serial s).state := by
  unfold voidTicketCommand onNamed
  split
  · exact .refl s
  next k _ =>
    split
    · exact .refl s
    split
    · exact .refl s
    dsimp only
    split
    · refine .of_holders fun law => ?_
      unfold releaseHolder
      split
      next h holder => exact orderly_voidLeft ((law.1 k h).1 holder)
      next noHolder => exact ((letGo_voidRecord k).unheld (fun g => (calm_walkVoid _).heads g) noHolder).orderly
    · exact .refl s

theorem orderly_collectTicket (slot serial : Nat) : Orderly s (collectTicket slot serial s).state := by
  unfold collectTicket onNamed
  split
  · exact .refl s
  split
  · exact .refl s
  split
  · exact .refl s
  dsimp only
  split
  next closed => exact orderly_onTicket (fun held => by simp [held] at closed) rfl fun _ => rfl
  · exact .refl s

theorem calm_setCollection (n : Nat) : Calm s (setCollection n s).state := by
  unfold setCollection
  split
  · exact .refl s
  · exact ⟨⟨fun _ => rfl, fun _ => rfl, rfl, rfl⟩, fun _ => id⟩

theorem calm_printText (p n : Nat) (text : List (List Byte)) : Calm s (printText p n text s).state := by
  unfold printText
  split
  · exact .refl s
  split
  · exact .refl s
  split
  · exact .refl s
  · exact calm_queueJob _ _ _ nofun

theorem orderly_cancelJob (n : Nat) : Orderly s (cancelJob n s).state := by
  unfold cancelJob
  split
  · exact .refl s
  split
  · exact .refl s
  · exact (calm_removeJob ..).orderly.trans (orderly_jobLeft _)

theorem calm_followSummary (q : Printer) (j : Job) : Calm s (followSummary q s j) := by
  unfold followSummary
  split
  · exact .ite (calm_onTicket _ _ rfl) (.refl s)
  · exact .refl s

theorem movable_mem {p : Printer} {j : Job} (mem : j ∈ (movable p s).1 ∨ j ∈ (movable p s).2) : j ∈ queue p s := by
  unfold movable at mem
  split at mem <;> simp only [List.not_mem_nil, false_or, or_false] at mem
  · exact mem
  · exact mem
  · exact mem
  all_goals
    rcases mem with mem | mem
    · exact List.mem_of_mem_take mem
    · exact List.mem_of_mem_drop mem

theorem calm_moveJobs (p q : Printer) : Calm s (moveJobs p q s).2.2 := by
  have moved (n : Nat) : Calm s (onQueue q (· ++ (movable p s).2.take n)
      (onQueue p (fun _ => (movable p s).1 ++ (movable p s).2.drop n) s)) := by
    refine .of_packs ⟨rfl, rfl, rfl, rfl⟩ fun none r j hj => ?_
    have kept : ∀ r, ∀ j ∈ queue r (onQueue p (fun _ => (movable p s).1 ++ (movable p s).2.drop n) s),
        unfoldedPack j = false := by
      intro r j hj
      rw [queue_onQueue] at hj
      split at hj
      · rcases List.mem_append.1 hj with stays | stays
        · exact none p j (movable_mem (.inl stays))
        · exact none p j (movable_mem (.inr (List.mem_of_mem_drop stays)))
      · exact none r j hj
    rw [queue_onQueue] at hj
    split at hj
    · rcases List.mem_append.1 hj with stays | goes
      · exact kept q j stays
      · exact none p j (movable_mem (.inr (List.mem_of_mem_take goes)))
    · exact kept r j hj
  have unfed (u : State) (go : List Job) : Calm u (match (movable p s).1, go with
      | [], j :: _ => onPrinter p (unfeed j.tag) u
      | _, _ => u) := by
    split
    · exact calm_onPrinter ..
    · exact .refl u
  exact (((moved _).trans (unfed _ _)).trans (.foldl (fun _ _ => calm_followSummary ..) _ _)).trans (calm_startIfIdle q)

theorem calm_redirectJobs (p q : Nat) : Calm s (redirectJobs p q s).state := by
  unfold redirectJobs
  split
  · split
    · exact .refl s
    · exact calm_moveJobs ..
  · exact .refl s

/-- OPEN_DAY finds no number in play, and sets N to the first of the range (R102, R160). -/
theorem orderly_dayOpened (date : Option Date) (closed : s.tot.day ≠ .opened) :
    Orderly s (openNumbers (setDate date (setDay .opened s))) := by
  have day : (openNumbers (setDate date (setDay .opened s))).tot.day = .opened := rfl
  have cores : HolderLaw s → HolderLaw (openNumbers (setDate date (setDay .opened s))) := id
  refine .of_open day cores fun law => ?_
  have before := law.2.2.2.2 closed
  simp only [numbersInPlay, List.append_eq_nil_iff] at before
  refine numberLaw_of_nothing ?_ ⟨le_rfl, law.2.2.1.trans law.2.2.2.1⟩
  simp only [numbersInPlay, List.append_eq_nil_iff]
  exact ⟨⟨rfl, before.1.2⟩, before.2⟩

theorem orderly_openDay (y m d : Nat) : Orderly s (openDay y m d s).state := by
  unfold openDay
  split
  · exact .refl s
  split
  · exact .refl s
  next notClosed => exact orderly_dayOpened _ fun opened => by simp [opened] at notClosed

theorem orderly_closeDay : Orderly s (closeDay s).state := by
  have closed (held : countTickets .held s = 0) (parked : countTickets .parked s = 0) (packs : unfoldedPacks s = 0) :
      Orderly s (dayClosing s) := by
    refine orderly_dayClosing (fun k => ?_) (unfoldedPacks_eq_zero.1 packs)
    simp [openTicket, countTickets_eq_zero.1 held k, countTickets_eq_zero.1 parked k]
  unfold closeDay
  dsimp only [done]
  split
  · exact .refl s
  split
  · exact .refl s
  next nothing =>
    simp only [Bool.or_eq_true, bne_iff_ne, not_or, not_not] at nothing
    obtain ⟨⟨⟨held, parked⟩, -⟩, packs⟩ := nothing
    dsimp only
    exact closed held parked packs

theorem calm_clearAt (k : AccKey) : Calm s (clearAt k s) := by
  unfold clearAt
  split
  case h_5 => exact calm_onItems _
  all_goals exact .of_queues ⟨rfl, rfl, rfl, rfl, rfl⟩

theorem calm_drainOne (k : AccKey) : Calm s (drainOne k s).2 := by
  have purged (i : Option Item) (u : State) : Calm u (drainPurge i u) := by
    unfold drainPurge
    split
    · exact calm_purgeCheck _
    · exact .refl u
  exact ((calm_clearAt k).trans (purged _ _)).trans (.of_queues ⟨rfl, rfl, rfl, rfl, rfl⟩)

/-- The end of the drain leads from DAY_CLOSING to DAY_CLOSED, neither of them open. -/
theorem orderly_endDrain (closing : s.tot.day ≠ .opened) : Orderly s (endDrain s) :=
  ⟨id, fun _ quiet _ => quiet closing, fun _ _ law =>
    ⟨law.1, law.2.1, law.2.2.1, law.2.2.2.1, fun _ => law.2.2.2.2 closing⟩⟩

theorem orderly_readClosing (n : Nat) : Orderly s (readClosing n s).state := by
  unfold readClosing
  split
  · exact .refl s
  split
  · exact .refl s
  next closing =>
    have closing : s.tot.day ≠ .opened := fun opened => by simp [opened] at closing
    split
    · unfold drainNext
      split
      · exact (calm_drainOne _).orderly
      · exact orderly_endDrain closing
    · unfold drainRepeat
      split <;> exact .refl s

/-! ### Downstream parts (R175, R178) -/

theorem calm_send (i : Fin 12) (m : Downstream) : Calm s (send i m s) := .of_queues ⟨rfl, rfl, rfl, rfl, rfl⟩

theorem queues_printerOp (p : Printer) : (printerOp p s).2.lbc.queues = s.lbc.queues := by
  unfold printerOp
  dsimp only
  (repeat' split) <;> rfl

theorem calm_sendPrinterUpdate (p : Printer) : Calm s (sendPrinterUpdate p s) :=
  .ite (Calm.trans (.of_queues (by simp [queues_printerOp])) (calm_send ..)) (.refl s)

theorem calm_sendDispenserUpdate : Calm s (sendDispenserUpdate s) := .ite ((calm_onSnu _ rfl).trans (calm_send ..)) (.refl s)

/-! ### Every row -/

/-- The row of an event. -/
theorem orderly_event {f : State → State} {s t : State} (e : takes f s = .next t) (work : Orderly s (f s)) : Orderly s t := by
  obtain ⟨-, rfl⟩ | ⟨-, rfl⟩ := takes_next e
  · exact .refl _
  · exact work.trans ((calm_settle ..).trans (calm_noted ..)).orderly

/-- The row of a command of the host. -/
theorem orderly_command {pick : HostCmd → Option (State → Answer)} {s t : State}
    (e : takes (owner pick) s = .next t) (work : ∀ c f, pick c = some f → Orderly s (f s).state) : Orderly s t := by
  refine orderly_event e ?_
  unfold owner
  split
  · exact .refl s
  · split
    next f hf => exact (work _ _ hf).trans (Calm.orderly (.of_queues ⟨rfl, rfl, rfl, rfl, rfl⟩))
    · exact .refl s

theorem orderly_powerOn {s t : State} (e : exec .powerOnReset s = .next t) : Orderly s t := by
  cases e
  exact ⟨fun _ => holderLaw_reset, fun _ _ => quietLaw_reset, fun _ _ _ => numberLaw_reset⟩

theorem calm_pin (low : Bool) : Calm s { s with resetLow := low } := .of_queues ⟨rfl, rfl, rfl, rfl, rfl⟩

theorem orderly_pinFall {s t : State} (e : exec .resetPinFall s = .next t) : Orderly s t := by
  cases e
  exact orderly_hubReset.trans (((calm_settle s _).trans (calm_pin true)).trans (calm_noted ..)).orderly

theorem orderly_pinRise {s t : State} (e : exec .resetPinRise s = .next t) : Orderly s t := by
  cases e
  exact ((calm_pin false).trans (calm_noted ..)).orderly

theorem orderly_transacts {f : State → State} {s t : State} (e : transacts f s = .next t) (work : Calm s (f s)) :
    Orderly s t := by
  unfold transacts at e
  split at e
  · cases e; exact .refl s
  · cases e; exact work.orderly

theorem orderly_takeHanded (h : Head) (p : Int → Bool) : Orderly s (takeHanded h p s) := by
  unfold takeHanded
  split
  · exact .refl s
  · exact .ite ((calm_onInbox h _).trans (calm_takeSample ..)).orderly (.refl s)

theorem calm_frameHeadsTaken : Calm s (eachHead frameHead { s with hand := { s.hand with hsu := s.hand.hsu - 1 } }) := by
  have counted : Calm s { s with hand := { s.hand with hsu := s.hand.hsu - 1 } } := .of_queues ⟨rfl, rfl, rfl, rfl, rfl⟩
  exact counted.trans (.foldl (fun _ h => calm_frameHead h) _ _)

theorem orderly_frameTicketsTaken : Orderly s (allTickets.foldl (fun s t => frameTicket t s)
    { s with hand := { s.hand with tkp := s.hand.tkp - 1 } }) := by
  have counted : Calm s { s with hand := { s.hand with tkp := s.hand.tkp - 1 } } := .of_queues ⟨rfl, rfl, rfl, rfl, rfl⟩
  exact counted.orderly.trans (.foldl (fun _ k => orderly_frameTicket k) _ _)

/-- The rows of the commands that write neither tickets nor heads nor numbers nor the day, and bring no pack. -/
def calmCommands : List Instr :=
  [.setSlots, .linkRestart, .readLink, .readHead, .addItem, .updateItem, .findItem, .nextItem, .stagePrice,
    .unstagePrice, .commitPrices, .reinstateItem, .readCopies, .readQueue, .listTickets, .readTicket, .readHold,
    .readStatus]

theorem orderly_calmCommand {c : Instr} (hc : c ∈ calmCommands) {s t : State} (e : exec c s = .next t) :
    Orderly s t := by
  simp only [calmCommands, List.mem_cons, List.not_mem_nil, or_false] at hc
  rcases hc with rfl | rfl | rfl | rfl | rfl | rfl | rfl | rfl | rfl | rfl | rfl | rfl | rfl | rfl | rfl | rfl | rfl
      | rfl <;>
    exact orderly_command e fun c f h => by split at h <;> cases h; exact Calm.orderly (.of_queues (by simp))

theorem orderly_readTotals (g : Nat) : Orderly s (readTotals g s).state := by
  unfold readTotals
  split
  · exact .refl s
  · exact Calm.orderly (.of_queues ⟨rfl, rfl, rfl, rfl, rfl⟩)

/-- The rows of the keys. -/
theorem orderly_key (k : KeyKind) (h : Head) {s t : State} (e : exec (keyRow k h) s = .next t) : Orderly s t := by
  cases k
  case signOn => exact orderly_event e (orderly_takeKey fun n _ _ => orderly_signOnKey h n)
  case signOff => exact orderly_event e (orderly_takeKey fun _ _ _ => orderly_signOff h)
  case item => exact orderly_event e (orderly_takeKey fun n _ _ => (calm_askItem h n).orderly)
  case count => exact orderly_event e (orderly_takeKey fun n _ _ => (calm_countKey h n).orderly)
  case zero | tare => exact orderly_event e (orderly_takeKey fun _ _ _ => (calm_weighingKey h _).orderly)
  case clearTare => exact orderly_event e (orderly_takeKey fun _ _ _ => (calm_onChan h _).orderly)
  case next => exact orderly_event e (orderly_takeKey fun _ _ _ => orderly_nextKey h)
  case skip => exact orderly_event e (orderly_takeKey fun _ _ _ => orderly_skipKey h)
  case openKey => exact orderly_event e (orderly_takeKey fun _ _ _ => orderly_openKey h)
  case park => exact orderly_event e (orderly_takeKey fun _ _ _ => orderly_withTicket fun _ held => orderly_park held)
  case pick => exact orderly_event e (orderly_takeKey fun n _ signed => orderly_pickKey (signed rfl) n)
  case voidLast =>
    exact orderly_event e (orderly_takeKey fun _ _ _ => orderly_withTicket fun id _ => (calm_voidLast h id).orderly)
  case voidTicket =>
    exact orderly_event e (orderly_takeKey fun _ _ _ => orderly_withTicket fun _ held => orderly_void held)
  case total =>
    exact orderly_event e (orderly_takeKey fun _ _ _ => orderly_withTicket fun _ held => orderly_totalTicket held)
  case label => exact orderly_event e (orderly_takeKey fun _ _ _ => (calm_labelKey h).orderly)
  case batch => exact orderly_event e (orderly_takeKey fun n _ _ => (calm_batchKey h n).orderly)
  case clear => exact orderly_event e (orderly_takeKey fun _ _ _ => (calm_clearKey h).orderly)

/-- Every row keeps the three laws. -/
theorem orderly_exec (c : Instr) {s t : State} (e : exec c s = .next t) : Orderly s t := by
  cases c
  case powerOnReset => exact orderly_powerOn e
  case resetPinFall => exact orderly_pinFall e
  case resetPinRise => exact orderly_pinRise e
  case commandTransaction => exact orderly_transacts e (.of_queues (by simp))
  case responseTransaction => exact orderly_transacts e (.of_queues (by simp))
  case configureHead => exact orderly_command e fun c f h => by split at h <;> cases h; exact orderly_configureHead _
  case configurePair =>
    exact orderly_command e fun c f h => by split at h <;> cases h; exact (calm_configurePair _).orderly
  case withdrawItem => exact orderly_command e fun c f h => by split at h <;> cases h; exact (calm_withdrawItem _).orderly
  case setNumberRange => exact orderly_command e fun c f h => by split at h <;> cases h; exact orderly_setNumberRange ..
  case voidTicket => exact orderly_command e fun c f h => by split at h <;> cases h; exact orderly_voidTicketCommand ..
  case collectTicket => exact orderly_command e fun c f h => by split at h <;> cases h; exact orderly_collectTicket ..
  case setCollection =>
    exact orderly_command e fun c f h => by split at h <;> cases h; exact (calm_setCollection _).orderly
  case printText => exact orderly_command e fun c f h => by split at h <;> cases h; exact (calm_printText ..).orderly
  case cancelJob => exact orderly_command e fun c f h => by split at h <;> cases h; exact orderly_cancelJob _
  case redirectJobs =>
    exact orderly_command e fun c f h => by split at h <;> cases h; exact (calm_redirectJobs ..).orderly
  case readPrinter => exact orderly_command e fun c f h => by split at h <;> cases h; exact Calm.orderly (.of_queues (by simp))
  case openDay => exact orderly_command e fun c f h => by split at h <;> cases h; exact orderly_openDay ..
  case closeDay => exact orderly_command e fun c f h => by split at h <;> cases h; exact orderly_closeDay
  case readTotals => exact orderly_command e fun c f h => by split at h <;> cases h; exact orderly_readTotals _
  case readClosing => exact orderly_command e fun c f h => by split at h <;> cases h; exact orderly_readClosing _
  case hubReset => exact orderly_command e fun c f h => by split at h <;> cases h; exact orderly_hubReset
  case setSlots | linkRestart | readLink | readHead | addItem | updateItem | findItem | nextItem | stagePrice
      | unstagePrice | commitPrices | reinstateItem | readCopies | readQueue | listTickets | readTicket | readHold
      | readStatus =>
    exact orderly_calmCommand (by simp [calmCommands]) e
  case frameStart => exact orderly_event e orderly_frameStart
  case slotMaskTakesEffect => exact orderly_event e orderly_applyMask
  case linkRestartTakesEffect => exact orderly_event e orderly_applyRestart
  case joinWaitExpiry => exact orderly_event e (.ite (calm_joinWait _).orderly (.refl s))
  case headServiceFrameStart =>
    exact orderly_event ((exec_headServiceFrameStart s).symm.trans e) (.ite (.refl s) calm_frameHeadsTaken.orderly)
  case captureTimeout => exact orderly_event e (.ite (calm_frameRequest _).orderly (.refl s))
  case messageExpiry => exact orderly_event e (.ite (calm_frameMessage _).orderly (.refl s))
  case copyFrameStart =>
    exact orderly_event ((exec_copyFrameStart s).symm.trans e)
      (.ite (.refl s) (Calm.orderly (.of_queues (by simp))))
  case ticketFrameStart =>
    exact orderly_event ((exec_ticketFrameStart s).symm.trans e) (.ite (.refl s) orderly_frameTicketsTaken)
  case ticketIdlePark => exact orderly_event e (.ite (orderly_idlePark _) (.refl s))
  case frameNotice => exact orderly_event e (Calm.orderly (.of_queues ⟨rfl, rfl, rfl, rfl, rfl⟩))
  case welcome => exact orderly_event e (Calm.orderly (.of_queues (by simp)))
  case headUpdate => exact orderly_event e (Calm.orderly (.of_queues (by simp)))
  case printerUpdate => exact orderly_event e (Calm.orderly (calm_sendPrinterUpdate _))
  case dispenserUpdate => exact orderly_event e (Calm.orderly calm_sendDispenserUpdate)
  case headReport | printerReport | dispenserReport | join | upstreamRejected | upstreamMiss =>
    exact orderly_event e (orderly_upstreamPart _ _)
  case silenceLoss => exact orderly_event e (.ite (orderly_upstreamPart _ _) (.refl s))
  case channelSample h => exact orderly_event ((exec_channelSample h s).symm.trans e) (orderly_takeHanded ..)
  case cellFaultEntry h => exact orderly_event ((exec_cellFaultEntry h s).symm.trans e) (orderly_takeHanded ..)
  case cellFaultRecovery h => exact orderly_event ((exec_cellFaultRecovery h s).symm.trans e) (orderly_takeHanded ..)
  case copyAck h =>
    refine orderly_event ((exec_copyAck h s).symm.trans e) (Calm.orderly ?_)
    split
    · exact .refl s
    · exact (calm_onInbox h _).trans (calm_takeAck ..)
  case captureLineComplete => exact orderly_event e (.ite (calm_examine _).orderly (.refl s))
  case captureLabelComplete h =>
    exact orderly_event ((exec_captureLabelComplete h s).symm.trans e) (.ite (.refl s) (calm_examine h).orderly)
  case keySignOn h => exact orderly_key .signOn h e
  case keySignOff h => exact orderly_key .signOff h e
  case keyItem h => exact orderly_key .item h e
  case keyCount h => exact orderly_key .count h e
  case keyZero h => exact orderly_key .zero h e
  case keyTare h => exact orderly_key .tare h e
  case keyClearTare h => exact orderly_key .clearTare h e
  case keyNext h => exact orderly_key .next h e
  case keySkip h => exact orderly_key .skip h e
  case keyOpen h => exact orderly_key .openKey h e
  case keyPark h => exact orderly_key .park h e
  case keyPick h => exact orderly_key .pick h e
  case keyVoidLast h => exact orderly_key .voidLast h e
  case keyVoidTicket h => exact orderly_key .voidTicket h e
  case keyTotal h => exact orderly_key .total h e
  case keyLabel h => exact orderly_key .label h e
  case keyBatch h => exact orderly_key .batch h e
  case keyClear h => exact orderly_key .clear h e

/-- Settles O57: the front row of the queue keeps the laws, and an empty queue changes nothing. -/
theorem stepKeepsHoldersNightsAndNumbers : Obligations.StepKeepsHoldersNightsAndNumbers := by
  have laws (s t : State) (e : step s = .next t) : Orderly s t := by
    unfold step at e
    split at e
    · cases e; exact .refl s
    next c rest _ =>
      have front : Calm s { s with pending := rest } := .of_queues ⟨rfl, rfl, rfl, rfl, rfl⟩
      exact front.orderly.trans (orderly_exec c e)
  exact ⟨fun s t e => (laws s t e).holders, fun s t e holders quiet =>
    ⟨(laws s t e).quiet holders quiet, (laws s t e).numbers holders quiet⟩⟩

end Sys2Proof.Machine
end

section
/-! SUPPORT. Displays and offers (R51, R52): what `settle` leaves at each head, and what a composed record holds. -/

namespace Sys2Proof.Machine

variable {s : State}

/-! ### What a display is composed from stands behind the displays -/

theorem chan_behind (h : Head) (s : State) : chan h (behind s) = { chan h s with offer := none } := Table.look_gen ..

theorem sourcesOf_behind (h : Head) (s : State) : sourcesOf h (behind s) = sourcesOf h s := by
  have state : (chan h (behind s)).state = (chan h s).state := by rw [chan_behind]
  have last : (chan h (behind s)).last = (chan h s).last := by rw [chan_behind]
  rw [sourcesOf, state, last]
  rfl

theorem composeDisplay_behind (h : Head) (s : State) : composeDisplay h (behind s) = composeDisplay h s := by
  have last : (chan h (behind s)).last = (chan h s).last := by rw [chan_behind]
  have shown : lastShown h (behind s) = lastShown h s := by rw [lastShown, last]; rfl
  have weight : weightField h (behind s) = weightField h s := by rw [weightField, shown]; rfl
  have amount (i : Item) : amountField i h (behind s) = amountField i h s := by rw [amountField, shown]; rfl
  have message : messageField h (behind s) = messageField h s := by rw [messageField, chan_behind]; rfl
  simp only [composeDisplay, last, weight, amount, message]
  rfl

theorem SameBehind.sourcesOf {t u : State} (b : SameBehind t u) (h : Head) : sourcesOf h t = sourcesOf h u := by
  rw [← sourcesOf_behind h t, show behind t = behind u from b, sourcesOf_behind]

theorem SameBehind.composeDisplay {t u : State} (b : SameBehind t u) (h : Head) :
    composeDisplay h t = composeDisplay h u := by
  rw [← composeDisplay_behind h t, show behind t = behind u from b, composeDisplay_behind]

theorem SameBehind.offerFor {t u : State} (b : SameBehind t u) (h : Head) :
    itemInHand h t = itemInHand h u ∧ offerFor h t = offerFor h u := by
  have same : itemInHand h (behind t) = itemInHand h (behind u) ∧ Machine.offerFor h (behind t) = Machine.offerFor h (behind u) := by
    rw [show behind t = behind u from b]
    exact ⟨rfl, rfl⟩
  exact same

/-! ### What `settle` leaves at each head -/

/-- The display record and the offer of a head. -/
def shownAt (h : Head) (s : State) : Display × Option Nat := (display h s, (chan h s).offer)

theorem shownAt_renewOffer (a b : Head) (u : State) : shownAt b (renewOffer a u)
    = if b = a then (display a u, offerFor a u) else shownAt b u := by
  rw [shownAt, renewOffer, display_onChan, chan_onChan]
  split
  next e =>
    subst e
    rfl
  · rfl

theorem shownAt_recompose (a b : Head) (u : State) : shownAt b (recompose a u)
    = if b = a then (composeDisplay a u, (chan a u).offer) else shownAt b u := by
  rw [shownAt, chan_recompose, display_recompose]
  split
  next e =>
    subst e
    rfl
  · rfl

/-- What the end of an event that led from `old` to a state that agrees with `v` behind the displays makes of a record
and an offer. -/
def settledAt (old v : State) (h : Head) (d : Display × Option Nat) : Display × Option Nat :=
  (if sourcesOf h old = sourcesOf h v then d.1 else composeDisplay h v,
    if itemInHand h old = itemInHand h v then d.2 else offerFor h v)

theorem shownAt_settleHead (old v : State) (a b : Head) {u : State} (same : SameBehind u v) :
    shownAt b (settleHead old a u) = if b = a then settledAt old v a (shownAt a u) else shownAt b u := by
  have offered : shownAt b (if itemInHand a old = itemInHand a u then u else renewOffer a u) = if b = a then
      (display a u, if itemInHand a old = itemInHand a v then (chan a u).offer else offerFor a v) else shownAt b u := by
    rw [(same.offerFor a).1, ← (same.offerFor a).2]
    split
    · split
      next e => rw [e]; rfl
      · rfl
    · exact shownAt_renewOffer a b u
  have behindOffer : SameBehind (if itemInHand a old = itemInHand a u then u else renewOffer a u) v := by
    split
    · exact same
    · exact (show SameBehind (renewOffer a u) u from behind_renewOffer a u).trans same
  unfold settleHead
  dsimp only
  generalize (if itemInHand a old = itemInHand a u then u else renewOffer a u) = w at offered behindOffer ⊢
  rw [behindOffer.sourcesOf a]
  have own := congrArg Prod.snd offered
  split
  next unchanged => rw [offered, settledAt, if_pos unchanged]; rfl
  next changed =>
    rw [shownAt_recompose, behindOffer.composeDisplay a, settledAt, if_neg changed]
    split
    next e =>
      subst e
      rw [if_pos rfl] at own
      exact congrArg _ own
    next e => rw [offered, if_neg e]

theorem shownAt_settle (old u : State) (h : Head) : shownAt h (settle old u) = settledAt old u h (shownAt h u) :=
  eachHead_at shownAt (settledAt old u) (p := fun u' => SameBehind u' u)
    (fun a w same => ⟨(show SameBehind (settleHead old a w) w from behind_settleHead old a w).trans same,
      fun b => shownAt_settleHead old u a b same⟩) (.refl u) h

/-! ### What every step leaves at each head -/

/-- At head `h` the display follows its sources, and the offer the item in hand, from `s` to `t`. -/
def Followed (h : Head) (s t : State) : Prop :=
  (sourcesOf h s ≠ sourcesOf h t → display h t = composeDisplay h t)
    ∧ (itemInHand h s ≠ itemInHand h t → (chan h t).offer = offerFor h t)

theorem Followed.of_settled {h : Head} {u t : State} (same : SameBehind t u)
    (shown : shownAt h t = settledAt s u h (shownAt h u)) : Followed h s t := by
  refine ⟨fun changed => ?_, fun changed => ?_⟩
  · rw [same.sourcesOf h] at changed
    rw [same.composeDisplay h]
    exact (congrArg Prod.fst shown).trans (if_neg changed)
  · rw [(same.offerFor h).1] at changed
    rw [(same.offerFor h).2]
    exact (congrArg Prod.snd shown).trans (if_neg changed)

/-- A state that agrees in the blocks a display is composed from leaves its sources and the item in hand. -/
theorem Followed.of_blocks {h : Head} {t : State} (wge : t.wge = s.wge) (hsu : t.hsu = s.hsu) (itb : t.itb = s.itb)
    (ccu : t.ccu = s.ccu) (tkp : t.tkp = s.tkp) : Followed h s t := by
  have sources : sourcesOf h s = sourcesOf h t := by
    simp [itemInHand, sourcesOf, ctx, chan, role, settings, copyState, copies, findItem, summaryFor, service, ticket,
      wge, hsu, itb, ccu, tkp]
  have hand : itemInHand h s = itemInHand h t := by simp [itemInHand, ctx, role, settings, wge, hsu]
  exact ⟨absurd sources, absurd hand⟩

theorem followed_reset (h : Head) (low : Bool) (rest : List Instr) :
    Followed h s { State.reset with resetLow := low, pending := rest } := by
  have blank : ∀ a, display a State.reset = composeDisplay a State.reset
      ∧ (chan a State.reset).offer = offerFor a State.reset := by decide
  exact ⟨fun _ => (blank h).1, fun _ => (blank h).2⟩

theorem followed_transacts {f : State → State} {t : State} (h : Head) (e : transacts f s = .next t)
    (blocks : ∀ u, (f u).wge = u.wge ∧ (f u).hsu = u.hsu ∧ (f u).itb = u.itb ∧ (f u).ccu = u.ccu ∧ (f u).tkp = u.tkp) :
    Followed h s t := by
  obtain ⟨wge, hsu, itb, ccu, tkp⟩ := blocks s
  cases low : s.resetLow with
  | true =>
    rw [transacts_low f low] at e
    cases e
    exact .of_blocks rfl rfl rfl rfl rfl
  | false =>
    rw [transacts_high f low] at e
    cases e
    exact .of_blocks wge hsu itb ccu tkp

theorem shownAt_noted (h : Head) (old u : State) : shownAt h (noted old u) = shownAt h u := by
  simp [shownAt, display, chan]

theorem SameBehind.pinLow {t u : State} (same : SameBehind t u) :
    SameBehind { t with resetLow := true } { u with resetLow := true } := by
  have low := congrArg (fun w : State => { w with resetLow := true }) (show behind t = behind u from same)
  exact low

/-- What the fall of the RESET pin leaves after an event whose work led to `u`. -/
theorem followed_pinFall (h : Head) (u : State) :
    Followed h s (noted s { settle s u with resetLow := true }) :=
  .of_settled ((sameBehind_noted _ _).trans (sameBehind_settle s u).pinLow)
    ((shownAt_noted h s _).trans (shownAt_settle s u h))

theorem followed_exec {c : Instr} {s t : State} (h : Head) (e : exec c s = .next t) : Followed h s t := by
  obtain rfl | rfl | rfl | ⟨ago, bytes, rfl⟩ | ⟨n, rfl⟩ | ⟨f, row⟩ := exec_takes c
  · cases e
    exact followed_reset h _ _
  · cases e
    exact followed_pinFall h _
  · cases e
    exact .of_blocks (by simp) (by simp) (by simp) (by simp) (by simp)
  · exact followed_transacts h e fun u => by simp
  · exact followed_transacts h e fun u => by simp
  · obtain ⟨-, rfl⟩ | ⟨-, rfl⟩ := takes_next ((row s).symm.trans e)
    · exact .of_blocks rfl rfl rfl rfl rfl
    · exact .of_settled ((sameBehind_noted _ _).trans (sameBehind_settle _ _))
        ((shownAt_noted h s _).trans (shownAt_settle s (f s) h))

/-! ### The fields of a record composed -/

theorem currentCopy_inHand (h : Head) (hand : Option Nat) (s : State) : hand.bind (currentCopy h · s)
    = ((hand.bind (fun n => (copies h s).entries.find? (·.number == n))).filter (·.state == .current)).bind
      (fun e => itemAt e.index s) := by
  cases hand with
  | none => rfl
  | some n =>
    simp only [Option.bind_some, currentCopy, entryOf]
    cases (copies h s).entries.find? (·.number == n) with
    | none => rfl
    | some e => cases current : e.state == .current <;> simp [Option.filter, current]

theorem weightField_eq (h : Head) (s : State) : weightField h s
    = match ((itemInHand h s).bind (findItem · s)).map (·.mode), (chan h s).last.bind (·.shown) with
      | some .counted, _ => (some (shownCount (ctx h s) : Int), some .pcs)
      | some .fixed, _ => (none, none)
      | _, some w => (some w, some .kg)
      | _, none => (none, none) := by
  unfold weightField lastShown
  cases ((itemInHand h s).bind (findItem · s)).map (·.mode) with
  | none => cases (chan h s).last.bind (·.shown) <;> rfl
  | some mode => cases mode <;> cases (chan h s).last.bind (·.shown) <;> rfl

/-- The amount of a sale that has one. -/
theorem amountField_eq_some_iff (i : Item) (h : Head) (s : State) (a : Nat) : amountField i h s = some a ↔
    ∃ q, amountOf i.mode i.price q = .ok a ∧ (match i.mode with
      | .weighed => ∃ w : Int, lastShown h s = some w ∧ 0 < w ∧ q = w.toNat
      | .counted => q = shownCount (ctx h s)
      | .fixed => q = 1) := by
  unfold amountField
  cases i.mode with
  | weighed =>
    cases lastShown h s with
    | none => simp
    | some w =>
      by_cases positive : 0 < w
      · cases amount : amountOf .weighed i.price w.toNat <;> simp [positive, amount]
      · simp [positive]
  | counted => cases amount : amountOf .counted i.price (shownCount (ctx h s)) <;> simp [amount]
  | fixed => cases amount : amountOf .fixed i.price 1 <;> simp [amount]

theorem messageField_eq (h : Head) (s : State) : messageField h s = if (chan h s).state = .cellFault then some .cell
    else match (ctx h s).message with
      | some m => some m.code
      | none =>
        if (ctx h s).request.isSome ∧ ((itemInHand h s).bind (currentCopy h · s)).any (·.mode == .weighed) then
          match (chan h s).verdict with
          | .notEligible .overCap => some .overCap
          | .notEligible .belowMin => some .belowMin
          | _ => none
        else none := by
  by_cases fault : (chan h s).state = .cellFault
  · simp [messageField, fault]
  · rw [messageField, if_neg (by simpa using fault), if_neg fault]
    cases (ctx h s).message with
    | some m => rfl
    | none =>
      cases request : (ctx h s).request with
      | none => simp
      | some q =>
        have inHand : itemInHand h s = some q.number := by rw [itemInHand, request]
        rw [inHand, Option.bind_some]
        cases copied : currentCopy h q.number s with
        | none => simp [copied]
        | some i => simp [copied] <;> rfl

theorem summaryFor_held {h : Head} {id : TicketId} (signed : (ctx h s).operator.isSome) (held : (ctx h s).held = some id) :
    summaryFor h s = some ⟨(ticket id.slot s).service.getD 0, (ticket id.slot s).lines.length, (ticket id.slot s).total⟩ := by
  have serving : service h s = .serving := (service_serving_iff h s).2 ⟨signed, by rw [held]; rfl⟩
  simp [summaryFor, serving, held]

theorem summaryFor_none {h : Head} (bare : (ctx h s).operator = none ∨ (ctx h s).held = none) : summaryFor h s = none := by
  have idle : service h s ≠ .serving := by
    rw [Ne, service_serving_iff]
    rintro ⟨signed, held⟩
    obtain none | none := bare <;> simp_all
  unfold summaryFor
  split
  next serving _ => exact absurd serving idle
  · rfl

theorem composeDisplay_enabled {h : Head} (enabled : role h s ≠ .disabled) : composeDisplay h s =
    { weight := (weightField h s).1, unitText := (weightField h s).2
      stable := (chan h s).last.any (·.stable), netFlag := (chan h s).last.any (·.netFlag)
      zeroFlag := (chan h s).last.any (·.zeroFlag), overFlag := (chan h s).last.any (·.overFlag)
      underFlag := (chan h s).last.any (·.underFlag), number := itemInHand h s
      name := ((itemInHand h s).bind (findItem · s)).map (·.name)
      price := ((itemInHand h s).bind (currentCopy h · s)).map (·.price)
      amount := ((itemInHand h s).bind (currentCopy h · s)).bind (amountField · h s)
      ticket := summaryFor h s, nowServing := (ctx h s).nowServing, message := messageField h s
      stale := (itemInHand h s).bind (copyState h · s) == some .stale } := by
  rw [composeDisplay, if_neg (by simpa using enabled)]
  cases (chan h s).last <;> rfl

theorem stale_inHand (h : Head) (hand : Option Nat) (s : State) : (hand.bind (copyState h · s) == some .stale) = true ↔
    ∃ e, hand.bind (fun n => (copies h s).entries.find? (·.number == n)) = some e ∧ e.state = .stale := by
  cases hand <;> simp [copyState, entryOf]

/-- Settles O3: `settle` makes the records and offers of every event follow, and what a record holds is read off its
composition. -/
theorem displaysAndOffersFollow : Obligations.DisplaysAndOffersFollow := by
  refine ⟨fun c s t h e => followed_exec h e, ?_⟩
  rintro h s hand item copy entry last count d hand' rfl rfl rfl rfl count' rfl
  have inHand : itemInHand h s = hand := by
    rw [hand', itemInHand]
    cases (ctx h s).request <;> cases role h s <;> rfl
  have shown : shownCount (ctx h s) = count := count'.symm
  clear hand' count'
  subst inHand shown
  refine ⟨rfl, rfl, fun disabled => by rw [composeDisplay, disabled]; rfl, fun enabled => ?_⟩
  rw [composeDisplay_enabled enabled, ← currentCopy_inHand]
  dsimp only
  refine ⟨?_, rfl, rfl, rfl, rfl, rfl, rfl, rfl, rfl, fun a => ?_, fun id signed held => summaryFor_held signed held,
    summaryFor_none, rfl, messageField_eq h s, stale_inHand h _ s⟩
  · exact weightField_eq h s
  · simp only [Option.bind_eq_some_iff, amountField_eq_some_iff, lastShown]
    exact ⟨fun ⟨i, copied, q, amount, basis⟩ => ⟨i, q, copied, amount, basis⟩,
      fun ⟨i, q, copied, amount, basis⟩ => ⟨i, copied, q, amount, basis⟩⟩

end Sys2Proof.Machine
end

section
/-! SUPPORT. What a taken key leaves of the state (R33), and the settlements of the gate and of the operators' keys. -/

namespace Sys2Proof.Machine

/-! ### The state after steps 1 to 5 of R33 -/

section
variable (h : Head) (rest : List KeyEvent) (s : State)

/-- A taken key changes the inbox, the message of its head and the idle count of the held ticket. -/
@[simp] theorem keyTaken_frame : (keyTaken h rest s).resetLow = s.resetLow ∧ (keyTaken h rest s).sdo = s.sdo
    ∧ (keyTaken h rest s).down = s.down ∧ (keyTaken h rest s).port = s.port ∧ (keyTaken h rest s).lnk = s.lnk
    ∧ (keyTaken h rest s).wge = s.wge ∧ (keyTaken h rest s).itb = s.itb ∧ (keyTaken h rest s).ccu = s.ccu
    ∧ (keyTaken h rest s).snu = s.snu ∧ (keyTaken h rest s).lbc = s.lbc ∧ (keyTaken h rest s).tot = s.tot
    ∧ (keyTaken h rest s).hsu.signOn = s.hsu.signOn ∧ (keyTaken h rest s).tkp.collection = s.tkp.collection := by
  unfold keyTaken
  cases (ctx h s).held <;> simp

theorem ctx_keyTaken (a : Head) : ctx a (keyTaken h rest s) = if a = h then { ctx h s with message := none } else ctx a s := by
  unfold keyTaken
  cases (ctx h s).held <;> simp [ctx_onCtx]

@[simp] theorem ctx_keyTaken_same : ctx h (keyTaken h rest s) = { ctx h s with message := none } := by
  rw [ctx_keyTaken, if_pos rfl]

/-- Of a ticket record a taken key writes no more than the idle count. -/
theorem ticket_keyTaken (t : TicketSlot) : { ticket t (keyTaken h rest s) with idle := 0 } = { ticket t s with idle := 0 } := by
  unfold keyTaken
  cases (ctx h s).held with
  | none => rfl
  | some id =>
    rw [ticket_onTicket]
    split
    next e =>
      subst e
      rfl
    · rfl

@[simp] theorem ticket_keyTaken_fields (t : TicketSlot) : (ticket t (keyTaken h rest s)).serial = (ticket t s).serial
    ∧ (ticket t (keyTaken h rest s)).state = (ticket t s).state
    ∧ (ticket t (keyTaken h rest s)).service = (ticket t s).service
    ∧ (ticket t (keyTaken h rest s)).holder = (ticket t s).holder
    ∧ (ticket t (keyTaken h rest s)).lines = (ticket t s).lines
    ∧ (ticket t (keyTaken h rest s)).total = (ticket t s).total
    ∧ (ticket t (keyTaken h rest s)).job = (ticket t s).job := by
  have same := ticket_keyTaken h rest s t
  simp only [Ticket.mk.injEq] at same
  obtain ⟨serial, state, service, holder, -, -, -, lines, total, job⟩ := same
  exact ⟨serial, state, service, holder, lines, total, job⟩

@[simp] theorem settings_keyTaken (a : Head) : settings a (keyTaken h rest s) = settings a s := by simp [settings]

@[simp] theorem role_keyTaken (a : Head) : role a (keyTaken h rest s) = role a s := by simp [role]

@[simp] theorem service_keyTaken (a : Head) : service a (keyTaken h rest s) = service a s := by
  rw [service, ctx_keyTaken]
  split
  next e =>
    subst e
    rfl
  · rfl

@[simp] theorem signedOnAt_keyTaken (op : Operator) : signedOnAt op (keyTaken h rest s) = signedOnAt op s := by
  simp [signedOnAt]

@[simp] theorem findItem_keyTaken (n : Nat) : findItem n (keyTaken h rest s) = findItem n s := by simp [findItem]

@[simp] theorem dayOpen_keyTaken : dayOpen (keyTaken h rest s) = dayOpen s := by simp [dayOpen]

@[simp] theorem openTicket_keyTaken (t : TicketSlot) : openTicket (ticket t (keyTaken h rest s)) = openTicket (ticket t s) := by
  simp [openTicket]

end

/-! ### The steps of R33 -/

/-- The service of a head is OFF where it has no operator. -/
theorem service_off_iff (h : Head) (s : State) : service h s = .off ↔ (ctx h s).operator = none := by
  unfold service serviceOf
  cases (ctx h s).operator <;> cases (ctx h s).held <;> simp

section
variable {k : KeyKind} {h : Head} {n : Nat} {rest : List KeyEvent} {s : State}

theorem takeKey_disabled (act : Nat → State → State) (keyed : Keyed h ⟨k, n⟩ rest s) (disabled : role h s = .disabled) :
    takeKey k h act s = onInbox h (fun b => { b with keys := rest }) s := by
  simp [takeKey, keyed.2, gate, disabled]

/-- Steps 4 and 5 of R33 at a head that is not DISABLED. -/
theorem takeKey_enabled (act : Nat → State → State) (keyed : Keyed h ⟨k, n⟩ rest s) (enabled : role h s ≠ .disabled) :
    takeKey k h act s = if (ctx h s).operator = none ∧ takenOff k = false then setMessage h .noOperator (keyTaken h rest s)
      else if belongs k (role h s) then act n (keyTaken h rest s) else keyTaken h rest s := by
  have roleTaken : ¬(role h (onInbox h (fun b => { b with keys := rest }) s) == .disabled) = true := by simpa using enabled
  rw [takeKey, keyed.2]
  dsimp only
  rw [if_pos rfl, gate, if_neg roleTaken]
  simp only [keyAtTicket_clearMessage, service_keyTaken, role_keyTaken, Bool.and_eq_true, beq_iff_eq, service_off_iff,
    Bool.not_eq_true']

/-- Every kind of key has its own rule, which its row performs behind the steps of R33. -/
theorem exec_keyRow (k : KeyKind) (h : Head) : ∃ act, ∀ s, exec (keyRow k h) s = takes (takeKey k h act) s := by
  cases k <;> exact ⟨_, fun _ => rfl⟩

/-- A key that passes R33 comes to its own rule. -/
theorem key_served {c : Instr} {act : Nat → State → State} (row : exec c s = takes (takeKey k h act) s)
    (keyed : Keyed h ⟨k, n⟩ rest s) (enabled : role h s ≠ .disabled)
    (signed : (ctx h s).operator.isSome ∨ takenOff k = true) (own : belongs k (role h s) = true) :
    ∃ t, exec c s = .next t ∧ SameBehind t (act n (keyTaken h rest s)) := by
  obtain ⟨t, ht, behindT⟩ := takes_high_behind (takeKey k h act) keyed.1
  have passes : ¬((ctx h s).operator = none ∧ takenOff k = false) := by
    rintro ⟨off, barred⟩
    simp [off, barred] at signed
  rw [takeKey_enabled act keyed enabled, if_neg passes, if_pos own] at behindT
  exact ⟨t, row.trans ht, behindT⟩

/-- A key of a SERVICE head with an operator comes to its own rule. -/
theorem key_served_service {c : Instr} {act : Nat → State → State} (row : exec c s = takes (takeKey k h act) s)
    (keyed : Keyed h ⟨k, n⟩ rest s) (service : role h s = .service) (signed : (ctx h s).operator.isSome)
    (own : belongs k .service = true) : ∃ t, exec c s = .next t ∧ SameBehind t (act n (keyTaken h rest s)) :=
  key_served row keyed (by simp [service]) (.inl signed) (by rwa [service])

end

/-- Settles O22: the branches of the gate, for every kind of key. -/
theorem keysPassTheGate : Obligations.KeysPassTheGate := by
  intro k h n rest s keyed
  obtain ⟨act, row⟩ := exec_keyRow k h
  obtain ⟨t, ht, behindT⟩ := takes_high_behind (takeKey k h act) keyed.1
  refine ⟨fun disabled => ?_, fun enabled off barred => ?_, fun signed other => ?_⟩
  · have quiet : settle s (onInbox h (fun b => { b with keys := rest }) s) = onInbox h (fun b => { b with keys := rest }) s :=
      settle_eq_self_of_blocks rfl rfl rfl rfl rfl
    have unseen : noted s (onInbox h (fun b => { b with keys := rest }) s) = onInbox h (fun b => { b with keys := rest }) s :=
      noted_same (portView_congr rfl rfl rfl)
    rw [row, takes_high _ keyed.1, takeKey_disabled act keyed disabled, quiet, unseen]
  · have closed : takenOff k = false := by cases k <;> simp_all [takenOff]
    rw [takeKey_enabled act keyed enabled, if_pos ⟨off, closed⟩] at behindT
    exact ⟨t, (row s).trans ht, behindT⟩
  · have enabled : role h s ≠ .disabled := by
      obtain ⟨r, -⟩ | ⟨r, -⟩ := other <;> simp [r]
    have foreign : ¬belongs k (role h s) = true := by
      obtain ⟨r, named⟩ | ⟨r, rfl⟩ := other
      · rw [r]
        cases k <;> simp_all [belongs]
      · simp [r, belongs]
    have present : ¬((ctx h s).operator = none ∧ takenOff k = false) := by
      rintro ⟨off, -⟩
      simp [off] at signed
    rw [takeKey_enabled act keyed enabled, if_neg present, if_neg foreign] at behindT
    exact ⟨t, (row s).trans ht, behindT⟩

/-! ### Operators (R35, R36) -/

theorem onSnu_congr {f g : Snu → Snu} {s : State} (e : f s.snu = g s.snu) : onSnu f s = onSnu g s := by
  simp only [onSnu, e]

/-- A context overwritten whole: what was written to it before is lost. -/
theorem onCtx_overwrite (h : Head) (c : HeadCtx) (f : HeadCtx → HeadCtx) (s : State) :
    onCtx h (fun _ => c) (onCtx h f s) = onCtx h (fun _ => c) s := onCtx_onCtx h _ f s

/-- A number given back by its head to the front of the waiting list, with its mark (R101). -/
def numberBack (h : Head) (number : Option Nat) (s : State) : State :=
  match number with
  | some m => onSnu (fun x => { x with waiting := ⟨m, x.skipped.look h⟩ :: x.waiting, skipped := x.skipped.put h false }) s
  | none => s

/-- A ticket that loses its holder to a sign-off (R111). -/
def ticketBack (held : Option TicketId) (s : State) : State :=
  match held with
  | some id => parkRecord id.slot s
  | none => s

theorem overwrite_returnNumber (h : Head) (c : HeadCtx) (s : State) : onCtx h (fun _ => c) (returnNumber h s)
    = numberBack h (ctx h s).nowServing (onCtx h (fun _ => c) s) := by
  unfold returnNumber
  cases (ctx h s).nowServing with
  | none => rfl
  | some m => exact onCtx_overwrite h c _ (onSnu _ s)

theorem beforeSignOff_parts (h : Head) (c : HeadCtx) (s : State) : onCtx h (fun _ => c) (beforeSignOff h s)
    = numberBack h (ctx h s).nowServing (ticketBack (ctx h s).held (onCtx h (fun _ => c) s)) := by
  have held : (ctx h (dropRequest h s)).held = (ctx h s).held := by simp [dropRequest, withoutRequest]
  have number : (ctx h (dropRequest h s)).nowServing = (ctx h s).nowServing := by simp [dropRequest, withoutRequest]
  have dropped : onCtx h (fun _ => c) (dropRequest h s) = onCtx h (fun _ => c) s := onCtx_overwrite ..
  rw [beforeSignOff, held, overwrite_returnNumber]
  cases (ctx h s).held with
  | none => rw [number, dropped, ticketBack]
  | some id =>
    have kept : (ctx h (parkRecord id.slot (onCtx h (fun c => { c with held := none }) (dropRequest h s)))).nowServing
        = (ctx h s).nowServing := by simp [parkRecord, number]
    have freed : onCtx h (fun _ => c) (parkRecord id.slot (onCtx h (fun c => { c with held := none }) (dropRequest h s)))
        = parkRecord id.slot (onCtx h (fun _ => c) s) :=
      congrArg (parkRecord id.slot) ((onCtx_overwrite ..).trans dropped)
    dsimp only
    rw [kept, freed, ticketBack]

/-- The sign-off of a head with an operator, its parts in the order of R36. -/
theorem signOff_parts {h : Head} {op : Operator} {s : State} (signed : (ctx h s).operator = some op) : signOff h s
    = onCtx h (fun _ => offCtx)
      (setSignOn op none (numberBack h (ctx h s).nowServing (ticketBack (ctx h s).held s))) := by
  have parts := congrArg (setSignOn op none) (beforeSignOff_parts h offCtx s)
  rw [signOff_some signed]
  refine parts.trans ?_
  cases (ctx h s).nowServing <;> cases (ctx h s).held <;> rfl

section
variable {h : Head} {op : Operator} {s : State}

theorem signOnKey_here (here : signedOnAt op s = some h) : signOnKey h (op.val + 1) s = s := by
  simp [signOnKey, here]

theorem signOnKey_nowhere (nowhere : signedOnAt op s = none) :
    signOnKey h (op.val + 1) s = signOn h op (signOff h s) := by
  simp [signOnKey, nowhere]

theorem signOnKey_elsewhere {a : Head} (other : a ≠ h) (there : signedOnAt op s = some a) : signOnKey h (op.val + 1) s
    = signOn h op (movedMessage a (ctx a s).held.isSome (signOff h (signOff a s))) := by
  simp [signOnKey, there, other]

end

theorem signOnKey_outOfRange {h : Head} {n : Nat} {s : State} (range : n = 0 ∨ 32 < n) :
    signOnKey h n s = setMessage h .noOperator s := by
  have index : (if n = 0 then none else index? 32 (n - 1)) = none := by
    split
    · rfl
    · exact index?_none (by omega)
  rw [signOnKey, index]

/-- Settles O23: SIGN_ON by the operator's entry in the sign-on table, SIGN_OFF by the parts of R36. -/
theorem signOnAndSignOffKeys : Obligations.SignOnAndSignOffKeys := by
  refine ⟨?_, ?_⟩
  · rintro h n rest s u keyed enabled rfl
    have served := key_served (act := signOnKey h) (show exec (.keySignOn h) s = _ from rfl) keyed enabled (.inr rfl) rfl
    refine ⟨fun range => ?_, fun op number => ⟨fun here => ?_, fun nowhere => ?_, fun a other there => ?_⟩⟩
    · rwa [signOnKey_outOfRange range] at served
    all_goals subst number
    · rwa [signOnKey_here (by simpa using here)] at served
    · rwa [signOnKey_nowhere (by simpa using nowhere)] at served
    · rw [signOnKey_elsewhere other (by simpa using there), ctx_keyTaken, if_neg other] at served
      cases held : (ctx a s).held <;> simpa [held, movedMessage, signOn] using served
  · intro h n rest s u v op keyed enabled signed parked returned
    have served := key_served (act := fun _ => signOff h) (show exec (.keySignOff h) s = _ from rfl) keyed enabled
      (.inl (by simp [signed])) rfl
    have ticketParked : ticketBack (ctx h s).held (keyTaken h rest s) = u := by
      rw [parked]
      cases (ctx h s).held <;> rfl
    have snu : u.snu = s.snu := by
      rw [parked]
      cases (ctx h s).held <;> simp
    have numberReturned : numberBack h (ctx h s).nowServing u = v := by
      rw [returned]
      cases (ctx h s).nowServing with
      | none => rfl
      | some m =>
        dsimp only [numberBack]
        exact onSnu_congr (by rw [snu])
    rw [signOff_parts (op := op) (by simpa using signed), ctx_keyTaken_same] at served
    rwa [ticketParked, numberReturned] at served

end Sys2Proof.Machine
end

section
/-! SUPPORT. The keys COUNT, CLEAR, LABEL and BATCH (R41, R43, R49) behind the gate. -/

namespace Sys2Proof.Machine

variable {h : Head} {s : State}

theorem countedRequest_eq (h : Head) (s : State) : countedRequest h s
    = ((ctx h s).request.bind fun q => findItem q.number s).any (·.mode == .counted) := by
  unfold countedRequest requestItem
  cases (ctx h s).request with
  | none => rfl
  | some q =>
    dsimp only [Option.map_some, Option.bind_some]
    cases findItem q.number s <;> rfl

/-- COUNT n writes the pending count, or that of a request for a COUNTED item (R41). -/
theorem countKey_eq (h : Head) (n : Nat) (s : State) : countKey h n s = if 999 < n then setMessage h .overCap s
    else onCtx h (fun c =>
      if n = 0 then { c with count := none }
      else if (c.request.bind fun q => findItem q.number s).any (fun i => i.mode == .counted) then
        { c with request := c.request.map fun q => { q with count := some n } }
      else { c with count := some n }) s := by
  unfold countKey
  split
  · rfl
  split
  · exact onCtx_congr (by simp [*])
  rw [countedRequest_eq]
  split <;> exact onCtx_congr (by simp [*])

/-- CLEAR drops the request, the label mark and the count (R41). -/
theorem clearKey_eq (h : Head) (s : State) : clearKey h s = onCtx h (fun c =>
    { c with
      request := none, labelMark := false, count := none
      autoHold := c.autoHold || c.request.any (fun q => q.origin == .auto) }) s := by
  rw [clearKey, dropRequest, onCtx_onCtx]
  refine onCtx_congr ?_
  cases request : (ctx h s).request <;> simp [withoutRequest, request]

theorem labelKey_service (service : role h s = .service) (signed : (ctx h s).operator.isSome) : labelKey h s
    = if (ctx h s).request.isSome ∨ (ctx h s).held.isSome then setMessage h .busy s
      else onCtx h (fun c => { c with labelMark := true, autoHold := false }) s := by
  simp only [labelKey, service, labelService, Bool.or_eq_true, beq_iff_eq, service_serving_iff, signed, true_and,
    reduceCtorEq, if_false]

theorem labelKey_prepack (prepack : role h s = .prepack) : labelKey h s
    = if (ctx h s).request.isSome then setMessage h .busy s
      else match (ctx h s).selected with
        | some n => askItem h n s
        | none => setMessage h .noItem s := by
  rw [labelKey, prepack]
  rfl

theorem labelKey_refused (prepack : role h s = .prepack) (refused : (ctx h s).request.isSome ∨ (ctx h s).selected = none) :
    labelKey h s = setMessage h (if (ctx h s).request.isSome then .busy else .noItem) s := by
  rw [labelKey_prepack prepack]
  split
  · rfl
  next idle => simp [refused.resolve_left idle]

/-- Settles O25: each key by its own rule on the state the gate leaves. -/
theorem countClearLabelBatchKeys : Obligations.CountClearLabelBatchKeys := by
  rintro h n rest s u rfl
  refine ⟨fun keyed enabled signed => ?_, fun keyed enabled => ?_, fun keyed service signed => ?_,
    fun keyed prepack signed refused => ?_, fun keyed prepack signed => ?_⟩
  · have served := key_served (act := countKey h) (show exec (.keyCount h) s = _ from rfl) keyed enabled (.inl signed) rfl
    simpa only [countKey_eq, findItem_keyTaken] using served
  · have served := key_served (act := fun _ => clearKey h) (show exec (.keyClear h) s = _ from rfl) keyed enabled
      (.inr rfl) rfl
    simpa only [clearKey_eq] using served
  · have served := key_served_service (act := fun _ => labelKey h) (show exec (.keyLabel h) s = _ from rfl) keyed
      service signed rfl
    rwa [labelKey_service (by simpa using service) (by simpa using signed), ctx_keyTaken_same] at served
  · have served := key_served (act := fun _ => labelKey h) (show exec (.keyLabel h) s = _ from rfl) keyed
      (by simp [prepack]) (.inl signed) rfl
    rwa [labelKey_refused (by simpa using prepack) (by simpa using refused), ctx_keyTaken_same] at served
  · exact key_served (act := batchKey h) (show exec (.keyBatch h) s = _ from rfl) keyed (by simp [prepack])
      (.inl signed) (by rw [prepack]; rfl)

end Sys2Proof.Machine
end

section
/-! SUPPORT. The keys that open, park and pick tickets (R37, R38, R107, R110, R115) behind the gate. -/

namespace Sys2Proof.Machine

variable {h : Head} {s : State}

/-- At a head with an operator, SERVING says that a ticket is held. -/
theorem service_serving_signed (signed : (ctx h s).operator.isSome) : service h s = .serving ↔ (ctx h s).held.isSome := by
  simp [service_serving_iff, signed]

theorem freeSlot_keyTaken (h : Head) (rest : List KeyEvent) (s : State) : freeSlot (keyTaken h rest s) = freeSlot s := by
  simp [freeSlot]

theorem findOpen_keyTaken (h : Head) (rest : List KeyEvent) (n : Nat) (s : State) :
    findOpen n (keyTaken h rest s) = findOpen n s := by
  simp [findOpen]

theorem numbersInPlay_keyTaken (h : Head) (rest : List KeyEvent) (s : State) :
    numbersInPlay (keyTaken h rest s) = numbersInPlay s := by
  have serving (a : Head) : (ctx a (keyTaken h rest s)).nowServing = (ctx a s).nowServing := by
    rw [ctx_keyTaken]
    split
    next e => rw [e]
    · rfl
  simp [numbersInPlay, serving]

/-- What OPEN does once it has a number and a FREE record, by the serial that the record had. -/
theorem opened_eq {op : Operator} {t : TicketSlot} (m : Nat) {serial : Byte} (before : (ticket t s).serial = serial) :
    Machine.opened h op m t s
    = onCtx h (fun c => { c with nowServing := none, held := some ⟨t, serial + 1⟩, labelMark := false })
      (onSnu (fun y => { y with skipped := y.skipped.put h false })
        (onTicket t (fun k => ⟨k.serial + 1, .held, some m, some h, some h, some op, 0, [], 0, none⟩) s)) := by
  have named : ticketId t (setSkipped h false (openRecord t h op m s)) = ⟨t, serial + 1⟩ := by
    simp [ticketId, setSkipped, openRecord, before]
  rw [Machine.opened, named]
  rfl

theorem openKey_signed {op : Operator} (signed : (ctx h s).operator = some op) : openKey h s
    = if (ctx h s).held.isSome then setMessage h .busy s
      else if s.tot.day ≠ .opened then setMessage h .dayClosed s
      else match (ctx h s).nowServing with
        | some m => openWith h op m s
        | none =>
          if s.snu.next ∈ numbersInPlay s then setMessage h .queueBlocked s
          else openWith h op s.snu.next (onSnu (fun y => { y with next := if y.next = y.high then y.low else y.next + 1 }) s) := by
  simp only [openKey, signed, beq_iff_eq, service_serving_signed (h := h) (s := s) (by simp [signed]), Bool.not_eq_true',
    ← Bool.not_eq_true, dayOpen_iff, issueRefused_iff]
  rfl

/-- Settles O27: the number found, and `openWith` at the FREE record with the lowest slot. -/
theorem openKeyOpensTicket : Obligations.OpenKeyOpensTicket := by
  rintro h n rest s u op opened rfl keyed service signed opens
  have served := key_served_service (act := fun _ => openKey h) (show exec (.keyOpen h) s = _ from rfl) keyed
    service (by simp [signed]) rfl
  have opensWith (m : Nat) (x : State) (tickets : x.tkp = (keyTaken h rest s).tkp) : openWith h op m x = opened m x := by
    have record (t : TicketSlot) : ticket t x = ticket t (keyTaken h rest s) := by rw [ticket, tickets, ticket]
    have free : freeSlot x = freeSlot s := by
      rw [← freeSlot_keyTaken h rest s]
      simp [freeSlot, record]
    rw [opens]
    change openWith h op m x = match freeSlot s with
      | none => _
      | some t => _
    cases found : freeSlot s with
    | none => exact openWith_none (free.trans found)
    | some t =>
      exact (openWith_some (free.trans found)).trans (opened_eq m (by rw [record, (ticket_keyTaken_fields ..).1]))
  have withOwn (m : Nat) : openWith h op m (keyTaken h rest s) = opened m (keyTaken h rest s) := opensWith m _ rfl
  have withIssued (m : Nat) (f : Snu → Snu) : openWith h op m (onSnu f (keyTaken h rest s))
      = opened m (onSnu f (keyTaken h rest s)) := opensWith m _ rfl
  rw [openKey_signed (op := op) (by simpa using signed)] at served
  simp only [ctx_keyTaken_same, keyTaken_frame, numbersInPlay_keyTaken, withOwn, withIssued] at served
  exact served

/-! ### PARK and PICK -/

theorem withTicket_keyTaken (f : TicketId → State → State) (rest : List KeyEvent) : withTicket h f (keyTaken h rest s)
    = match (ctx h s).held with
      | none => setMessage h .notHeld (keyTaken h rest s)
      | some id => f id (keyTaken h rest s) := by
  rw [withTicket, ctx_keyTaken_same] <;> rfl

theorem pickKey_keyTaken (signed : (ctx h s).operator.isSome) (n : Nat) (rest : List KeyEvent) :
    pickKey h n (keyTaken h rest s)
    = if (ctx h s).held.isSome ∨ (ctx h s).nowServing.isSome then setMessage h .busy (keyTaken h rest s)
      else match findOpen n s with
        | none => setMessage h .notFound (keyTaken h rest s)
        | some k =>
          if (ticket k s).state = .parked then
            onCtx h (fun c => { c with held := some ⟨k, (ticket k s).serial⟩, labelMark := false })
              (pickRecord k h (keyTaken h rest s))
          else setMessage h .inUse (keyTaken h rest s) := by
  simp only [pickKey, Bool.or_eq_true, beq_iff_eq, service_keyTaken, service_serving_signed signed, ctx_keyTaken_same,
    findOpen_keyTaken, ticket_keyTaken_fields, ticketId] <;> rfl

/-- Settles O28: PARK needs a held ticket, PICK none and no number; the ticket is found by its number. -/
theorem parkAndPickHandTickets : Obligations.ParkAndPickHandTickets := by
  rintro h n rest s u rfl service signed
  refine ⟨fun keyed => ?_, fun keyed => ?_⟩
  · have served := key_served_service (act := fun _ => withTicket h fun id s => leaveTicket h id (parkRecord id.slot s))
      (show exec (.keyPark h) s = _ from rfl) keyed service signed rfl
    rw [withTicket_keyTaken] at served
    exact served
  · have served := key_served_service (act := pickKey h) (show exec (.keyPick h) s = _ from rfl) keyed service signed rfl
    rw [pickKey_keyTaken signed] at served
    exact served

end Sys2Proof.Machine
end

section
/-! SUPPORT. The keys VOID_LAST, VOID_TICKET and TOTAL (R38, R39, R109, R117 to R119) behind the gate. -/

namespace Sys2Proof.Machine

variable {h : Head} {id : TicketId} {s : State}

/-- VOID_LAST at a head with a ticket, by the newest line of the ticket. -/
theorem voidLast_eq (h : Head) (id : TicketId) (s : State) : voidLast h id s
    = match (ticket id.slot s).lines.getLast? with
      | none => setMessage h .emptyTicket s
      | some l =>
        if (ctx h s).lastLine ≠ some ⟨id, l.position⟩ then setMessage h .notFound s
        else
          onCtx h (fun c => { c with lastLine := none })
            (releaseRef l.index (onTicket id.slot (fun k => { k with lines := k.lines.dropLast, total := k.total - l.amount })
              (foldLineVoid l s))) := by
  unfold voidLast voidNewest
  cases (ticket id.slot s).lines.getLast? with
  | none => rfl
  | some l => simp only [ne_eq, ite_not]

/-- Settles O29: both keys need a held ticket; the newest line, or every line, is folded as a void and released. -/
theorem voidKeysFoldAndRelease : Obligations.VoidKeysFoldAndRelease := by
  rintro h n rest s u rfl service signed
  refine ⟨fun keyed => ?_, fun keyed => ?_⟩
  · have served := key_served_service (act := fun _ => withTicket h (voidLast h)) (show exec (.keyVoidLast h) s = _ from rfl)
      keyed service signed rfl
    simp only [withTicket_keyTaken, voidLast_eq, ticket_keyTaken_fields, ctx_keyTaken_same] at served
    exact served
  · have served := key_served_service (act := fun _ => withTicket h fun id s => leaveTicket h id (voidRecord id.slot s))
      (show exec (.keyVoidTicket h) s = _ from rfl) keyed service signed rfl
    simp only [withTicket_keyTaken, voidRecord, ticket_keyTaken_fields] at served
    exact served

theorem queueRoom_iff (p : Printer) (s : State) : queueRoom p s = true ↔ ¬16 ≤ (queue p s).length := by
  rw [queueRoom, decide_eq_true_iff, Config.queuePlaces, not_le]

/-- TOTAL at a head with a ticket, by what it finds at the ticket and at the printer. -/
theorem totalTicket_eq (h : Head) (id : TicketId) (s : State) : totalTicket h id s
    = if (ticket id.slot s).lines = [] then setMessage h .emptyTicket s
      else if 16 ≤ (queue (settings h s).printer s).length then setMessage h .printerBusy s
      else (if printerDown (settings h s).printer s then setMessage h .printerDown else fun x => x)
        (leaveTicket h id (closeRecord id.slot h (settings h s).printer s)) := by
  unfold totalTicket
  simp only [List.isEmpty_iff, Bool.not_eq_true', ← Bool.not_eq_true, queueRoom_iff, not_not]
  split
  · rfl
  split
  · rfl
  split <;> rfl

/-- Settles O30: the refusals of TOTAL in order, then the close of the record. -/
theorem totalKeyClosesTicket : Obligations.TotalKeyClosesTicket := by
  rintro h n rest s u walked id p summary rfl keyed service signed rfl made walk
  have served := key_served_service (act := fun _ => withTicket h (totalTicket h)) (show exec (.keyTotal h) s = _ from rfl)
    keyed service signed rfl
  rw [withTicket_keyTaken] at served
  refine ⟨fun bare => by rwa [bare] at served, fun held => ?_⟩
  have down : printerDown (settings h s).printer (keyTaken h rest s) = printerDown (settings h s).printer s := by
    simp [printerDown, printer]
  have content : summaryOf id.slot (keyTaken h rest s) = summary := by
    simp only [made, summaryOf, ticket_keyTaken_fields]
  have closed : closeRecord id.slot h (settings h s).printer (keyTaken h rest s)
      = onTicket id.slot (fun k => { k with job := some ⟨(settings h s).printer, freshTag walked⟩ })
          (queueJob (settings h s).printer (some h) 1 (.summary summary) walked) := by
    rw [closeRecord, content, (ticket_keyTaken_fields ..).2.2.2.2.1, walk]
    rfl
  have length : (queue (settings h s).printer (keyTaken h rest s)).length = (queue (settings h s).printer s).length := by
    simp [queue]
  rw [held] at served
  simp only [totalTicket_eq, ticket_keyTaken_fields, settings_keyTaken, length, down, closed] at served
  exact served

end Sys2Proof.Machine
end

section
/-! SUPPORT. Selection in a copy list (R76, R77), the requests of ITEM and LABEL (R42, R43), and their settlement. -/

namespace Sys2Proof.Machine

variable {h : Head} {i : Item} {s : State}

/-! ### Selection (R76, R77) -/

theorem onCopies_congr {f g : CopyList → CopyList} (e : f (copies h s) = g (copies h s)) : onCopies h f s = onCopies h g s := by
  simp only [copies] at e
  simp only [onCopies, Table.change, e]

theorem entryOf_none_iff {n : Nat} {c : CopyList} : entryOf n c = none ↔ ∀ e ∈ c.entries, e.number ≠ n := by
  simp [entryOf]

/-- An entry that stands moves to the front. -/
theorem selectItem_stands {e : CopyEntry} (stands : entryOf i.number (copies h s) = some e) : selectItem h i s
    = onCopies h (fun c => ⟨e :: c.entries.filter (·.number != i.number), c.drops⟩) s := by
  have kept : evicts i (copies h s) = false := by simp [evicts, stands]
  rw [selectItem, kept]
  exact onCopies_congr (by simp only [selectIn, stands])

/-- A new entry of a list that is not full takes the lowest cache slot that no entry names. -/
theorem selectItem_room {d : CacheSlot} (new : entryOf i.number (copies h s) = none) (room : (copies h s).entries.length < 16)
    (free : freeCacheSlot (copies h s).entries = some d) :
    selectItem h i s = onCopies h (enterNew d i (copies h s).entries) s := by
  have kept : evicts i (copies h s) = false := by
    rw [evicts, Config.copyPlaces, decide_eq_false (Nat.not_le.2 room), Bool.and_false]
  rw [selectItem, kept]
  exact onCopies_congr (by simp only [selectIn, new, Config.copyPlaces, if_pos room, free])

/-- A new entry of a full list takes the slot of the least recent one, and the in-step watch is examined. -/
theorem selectItem_full {kept : List CopyEntry} {last : CopyEntry} (new : entryOf i.number (copies h s) = none)
    (full : 16 ≤ (copies h s).entries.length) (entries : (copies h s).entries = kept ++ [last]) :
    selectItem h i s = examineWatch (onCopies h (enterNew last.slot i kept) s) := by
  have evicted : evicts i (copies h s) = true := by
    rw [evicts, new, Config.copyPlaces, decide_eq_true full]
    rfl
  have placed : onCopies h (selectIn i) s = onCopies h (enterNew last.slot i kept) s := by
    refine onCopies_congr ?_
    rw [selectIn, new]
    dsimp only
    rw [if_neg (show ¬(copies h s).entries.length < Config.copyPlaces from Nat.not_lt.2 full), entries,
      List.getLast?_concat, List.dropLast_concat]
  rw [selectItem, evicted, if_pos rfl, placed]

theorem freeCacheSlot_lowest {es : List CopyEntry} {d : CacheSlot} (free : ∀ e ∈ es, e.slot ≠ d)
    (below : ∀ j < d, ∃ e ∈ es, e.slot = j) : freeCacheSlot es = some d := by
  rw [freeCacheSlot, ← Fin.find?_eq_find?_finRange, Fin.find?_eq_some_iff]
  exact ⟨by simpa using free, fun j lower => by simpa using below j lower⟩

theorem watchMet_iff (s : State) : watchMet s = true ↔ ∀ g, onLink (headSlot g) s = true →
    ∀ x ∈ (copies g s).entries, x.state = .current := by
  simp [watchMet, inStep, mem_allHeads, Bool.or_eq_true, imp_iff_not_or]

/-- The entry of a selected item stands in the state it had, and a new one is SENDING. -/
theorem entryOf_selectIn (i : Item) (c : CopyList) : (entryOf i.number (selectIn i c)).any (·.state == .current)
    = (entryOf i.number c).any (·.state == .current) := by
  unfold selectIn
  split
  next e stands =>
    have number : e.number = i.number := by simpa using List.find?_some stands
    rw [stands]
    simp [entryOf, number]
  next new =>
    have front (d : CacheSlot) (es : List CopyEntry) : entryOf i.number (enterNew d i es c) = some (newEntry d i) := by
      simp [entryOf, enterNew, newEntry]
    rw [new]
    repeat' split
    all_goals simp [front, new, newEntry]

theorem copyCurrent_selectItem (h : Head) (i : Item) (s : State) :
    copyCurrent h i.number (selectItem h i s) = copyCurrent h i.number s := by
  have read (u : State) : copyCurrent h i.number u = (entryOf i.number (copies h u)).any (·.state == .current) := by
    unfold copyCurrent copyState
    cases entryOf i.number (copies h u) <;> rfl
  have list : copies h (selectItem h i s) = selectIn i (copies h s) := by
    have watch (u : State) : copies h (examineWatch u) = copies h u := by
      unfold examineWatch
      split <;> rfl
    unfold selectItem
    dsimp only
    split
    · rw [watch, copies_onCopies_same]
    · exact copies_onCopies_same ..
  rw [read, read, list, entryOf_selectIn]

/-- A request waits while its copy is not CURRENT (R44). -/
theorem examine_waits {q : Request} (pending : (ctx h s).request = some q) (stale : copyCurrent h q.number s = false) :
    examine h s = s := by
  have noCopy : currentCopy h q.number s = none := by
    unfold currentCopy
    unfold copyCurrent copyState at stale
    cases e : entryOf q.number (copies h s) <;> simp_all
  simp [examine, pending, noCopy]

/-! ### The refusals of R42 -/

section
variable {n : Nat}

theorem judgeItem_keyTaken (h : Head) (rest : List KeyEvent) (n : Nat) (s : State) :
    judgeItem h n (keyTaken h rest s) = judgeItem h n s := by
  simp only [judgeItem, lineRefusal, dayOpen_keyTaken, ctx_keyTaken_same, findItem_keyTaken, role_keyTaken,
    ticket_keyTaken_fields]

/-- The day, a pending request and the record are examined first, in that order. -/
theorem judgeItem_early {code : Code} (early : s.tot.day ≠ .opened ∧ code = .dayClosed
    ∨ s.tot.day = .opened ∧ ((ctx h s).request ≠ none ∧ code = .busy
      ∨ (ctx h s).request = none ∧ findItem n s = none ∧ code = .noItem)) : judgeItem h n s = .error code := by
  unfold judgeItem
  obtain ⟨closed, rfl⟩ | ⟨opened, ⟨pending, rfl⟩ | ⟨idle, unknown, rfl⟩⟩ := early
  · simp [← dayOpen_iff] at closed
    simp [closed]
  · simp [dayOpen_iff.2 opened, Option.isSome_iff_ne_none.2 pending]
  · simp [dayOpen_iff.2 opened, idle, unknown]

/-- The cases of R42 behind the day, the pending request and the record. -/
theorem judgeItem_found (opened : s.tot.day = .opened) (idle : (ctx h s).request = none) (found : findItem n s = some i) :
    judgeItem h n s = if i.state = .withdrawn then .error .withdrawn
      else match lineRefusal h s with
        | some code => .error code
        | none => if role h s = .prepack ∧ (ctx h s).batch = .done then .error .batchDone else .ok i := by
  simp only [judgeItem, dayOpen_iff.2 opened, idle, found, Bool.not_true, Bool.false_eq_true, if_false,
    Option.isSome_none, beq_iff_eq, Bool.and_eq_true] <;> rfl

theorem lineRefusal_notHeld (service : role h s = .service) (plain : (ctx h s).labelMark = false)
    (bare : (ctx h s).held = none) : lineRefusal h s = some .notHeld := by
  simp [lineRefusal, service, plain, bare]

theorem lineRefusal_held {id : TicketId} (service : role h s = .service) (plain : (ctx h s).labelMark = false)
    (held : (ctx h s).held = some id) :
    lineRefusal h s = if 24 ≤ (ticket id.slot s).lines.length then some .ticketFull else none := by
  rw [lineRefusal, service, plain, held]
  rfl

theorem lineRefusal_prepack (prepack : role h s = .prepack) : lineRefusal h s = none := by simp [lineRefusal, prepack]

theorem lineRefusal_label (marked : (ctx h s).labelMark = true) : lineRefusal h s = none := by
  unfold lineRefusal
  rw [marked]
  cases role h s <;> rfl

/-- The record, the ticket of a LINE request and the batch are examined last, in that order. -/
theorem judgeItem_late {code : Code} (opened : s.tot.day = .opened) (idle : (ctx h s).request = none)
    (found : findItem n s = some i) (late : i.state = .withdrawn ∧ code = .withdrawn
      ∨ i.state = .active ∧ role h s = .service ∧ (ctx h s).labelMark = false ∧ (ctx h s).held = none ∧ code = .notHeld
      ∨ (∃ id, i.state = .active ∧ role h s = .service ∧ (ctx h s).labelMark = false ∧ (ctx h s).held = some id
        ∧ 24 ≤ (ticket id.slot s).lines.length ∧ code = .ticketFull)
      ∨ i.state = .active ∧ role h s = .prepack ∧ (ctx h s).batch = .done ∧ code = .batchDone) :
    judgeItem h n s = .error code := by
  rw [judgeItem_found opened idle found]
  obtain ⟨withdrawn, rfl⟩ | ⟨active, service, plain, bare, rfl⟩ | ⟨id, active, service, plain, held, full, rfl⟩
    | ⟨active, prepack, done, rfl⟩ := late
  · rw [if_pos withdrawn]
  · simp [active, lineRefusal_notHeld service plain bare]
  · simp [active, lineRefusal_held service plain held, full]
  · simp [active, lineRefusal_prepack prepack, prepack, done]

/-- Where no case of R42 applies, the record is answered. -/
theorem judgeItem_ok (opened : s.tot.day = .opened) (idle : (ctx h s).request = none) (found : findItem n s = some i)
    (active : i.state = .active)
    (place : role h s = .service ∧ ((ctx h s).labelMark = true ∨ ∃ id, (ctx h s).held = some id
        ∧ (ticket id.slot s).lines.length < 24)
      ∨ role h s = .prepack ∧ (ctx h s).batch ≠ .done) : judgeItem h n s = .ok i := by
  have passes : lineRefusal h s = none := by
    obtain ⟨service, marked | ⟨id, held, room⟩⟩ | ⟨prepack, -⟩ := place
    · exact lineRefusal_label marked
    · cases plain : (ctx h s).labelMark with
      | true => exact lineRefusal_label plain
      | false => rw [lineRefusal_held service plain held, if_neg (Nat.not_le.2 room)]
    · exact lineRefusal_prepack prepack
  have left : ¬(role h s = .prepack ∧ (ctx h s).batch = .done) := by
    rintro ⟨prepack, done⟩
    simp [prepack, done] at place
  rw [judgeItem_found opened idle found, active, passes]
  simp [left]

end

/-! ### The request made, and what a refused key shows -/

section
variable {n : Nat}

theorem labelKey_asks (prepack : role h s = .prepack) (idle : (ctx h s).request = none)
    (selected : (ctx h s).selected = some n) : labelKey h s = askItem h n s := by
  rw [labelKey_prepack prepack, idle, selected]
  rfl

theorem askItem_refused {code : Code} (refused : judgeItem h n s = .error code) : askItem h n s = setMessage h code s := by
  rw [askItem, refused]

/-- What ITEM n makes of a head's context where no case of R42 applies. -/
def requested (prepack : Bool) (n : Nat) (q : Request) (c : HeadCtx) : HeadCtx :=
  if prepack then { c with request := some q, selected := some n, autoHold := false }
  else { c with request := some q, count := none, labelMark := false, autoHold := false }

theorem askItem_made (accepted : judgeItem h n s = .ok i) (enabled : role h s ≠ .disabled) : askItem h n s
    = examine h (selectItem h i (onCtx h (requested (role h s == .prepack) n (keyRequest h i s)) s)) := by
  rw [askItem, accepted]
  dsimp only
  rw [makeRequest, takenItem]
  cases r : role h s with
  | disabled => exact absurd r enabled
  | service => dsimp only; rw [onCtx_onCtx]; rfl
  | prepack => dsimp only; rw [onCtx_onCtx]; rfl

theorem keyRequest_keyTaken (rest : List KeyEvent) (enabled : role h s ≠ .disabled) : keyRequest h i (keyTaken h rest s)
    = { number := i.number, index := i.index, origin := .key, waited := 0
        purpose := if role h s = .prepack then .prepack else if (ctx h s).labelMark then .label else .line
        count := if i.mode = .counted then (ctx h s).count else none
        ticket := if role h s = .service ∧ (ctx h s).labelMark = false then (ctx h s).held else none } := by
  simp only [keyRequest, purposeAt, role_keyTaken, ctx_keyTaken_same]
  cases r : role h s with
  | disabled => exact absurd r enabled
  | service => cases (ctx h s).labelMark <;> simp
  | prepack => simp

/-- What the request of a taken ITEM or LABEL key comes to: its examination, which leaves it waiting where the copy is
not CURRENT. -/
theorem askItem_examined {rest : List KeyEvent} {u : State} {q : Request} (low : s.resetLow = false)
    (accepted : judgeItem h n s = .ok i) (enabled : role h s ≠ .disabled)
    (made : q = keyRequest h i (keyTaken h rest s))
    (left : u = selectItem h i (onCtx h (requested (role h s == .prepack) n q) (keyTaken h rest s))) {t : State}
    (behindT : SameBehind t (askItem h n (keyTaken h rest s))) :
    Examined h u t ∧ (copyCurrent h i.number s = false → SameBehind t u) := by
  have asked : askItem h n (keyTaken h rest s) = examine h u := by
    rw [askItem_made (by rwa [judgeItem_keyTaken]) (by simpa using enabled), role_keyTaken, ← made, ← left]
  have pin : u.resetLow = false := by
    rw [left, (selectItem_frame _ h i).1]
    simpa using low
  rw [asked] at behindT
  refine ⟨(examined_iff pin).2 behindT, fun stale => ?_⟩
  have pending : (ctx h u).request = some q := by
    rw [left, ctx, (selectItem_frame _ h i).2.2.2.2.2.1]
    change (ctx h (onCtx h _ _)).request = _
    rw [ctx_onCtx_same, requested]
    split <;> rfl
  have waits : copyCurrent h q.number u = false := by
    have own : q.number = i.number := by rw [made]; rfl
    rw [own, left, copyCurrent_selectItem]
    simpa [copyCurrent, copyState, copies] using stale
  rwa [examine_waits pending waits] at behindT

end

/-- Settles O24: the refusals of R42 in order, the request made where none applies, and the selection of R76 and R77. -/
theorem itemKeyRequestsOrRefuses : Obligations.ItemKeyRequestsOrRefuses := by
  refine ⟨?_, ?_, ?_, ?_⟩
  · intro h n rest s u i q signed opened idle found active place made left
    have enabled : role h s ≠ .disabled := by
      obtain ⟨r, -⟩ | ⟨r, -⟩ := place <;> simp [r]
    have number : i.number = n := by simpa using List.find?_some found
    have accepted := judgeItem_ok opened idle found active place
    have request : q = keyRequest h i (keyTaken h rest s) := by rw [made, keyRequest_keyTaken rest enabled, number]
    have context : u = selectItem h i (onCtx h (requested (role h s == .prepack) n q) (keyTaken h rest s)) := by
      rw [left]
      exact congrArg (selectItem h i) (onCtx_congr (by simp [requested]))
    refine ⟨fun keyed => ?_, fun m keyed prepack selected => ?_⟩
    · obtain ⟨t, ht, behindT⟩ := key_served (act := askItem h) (show exec (.keyItem h) s = _ from rfl) keyed enabled
        (.inl signed) rfl
      exact ⟨t, ht, askItem_examined keyed.1 accepted enabled request context behindT⟩
    · obtain ⟨t, ht, behindT⟩ := key_served (act := fun _ => labelKey h) (show exec (.keyLabel h) s = _ from rfl) keyed
        enabled (.inl signed) rfl
      rw [labelKey_asks (n := n) (by simpa using prepack) (by simpa using idle) (by simpa using selected)] at behindT
      exact ⟨t, ht, askItem_examined keyed.1 accepted enabled request context behindT⟩
  · intro h n rest s code keyed enabled signed refusal
    have refused : judgeItem h n s = .error code := by
      obtain closed | ⟨opened, pending | ⟨idle, unknown | ⟨i, found, found'⟩⟩⟩ := refusal
      · exact judgeItem_early (.inl closed)
      · exact judgeItem_early (.inr ⟨opened, .inl pending⟩)
      · exact judgeItem_early (.inr ⟨opened, .inr ⟨idle, unknown⟩⟩)
      exact judgeItem_late opened idle found found'
    have served := key_served (act := askItem h) (show exec (.keyItem h) s = _ from rfl) keyed enabled (.inl signed) rfl
    rwa [askItem_refused (by rwa [judgeItem_keyTaken])] at served
  · intro h n m rest s code keyed prepack signed idle selected refusal
    have refused : judgeItem h n s = .error code := by
      obtain closed | ⟨opened, unknown | ⟨i, found, found'⟩⟩ := refusal
      · exact judgeItem_early (.inl closed)
      · exact judgeItem_early (.inr ⟨opened, .inr ⟨idle, unknown⟩⟩)
      obtain withdrawn | ⟨active, done, shown⟩ := found'
      · exact judgeItem_late opened idle found (.inl withdrawn)
      · exact judgeItem_late opened idle found (.inr (.inr (.inr ⟨active, prepack, done, shown⟩)))
    have served := key_served (act := fun _ => labelKey h) (show exec (.keyLabel h) s = _ from rfl) keyed
      (by simp [prepack]) (.inl signed) rfl
    rw [labelKey_asks (n := n) (by simpa using prepack) (by simpa using idle) (by simpa using selected)] at served
    rwa [askItem_refused (by rwa [judgeItem_keyTaken])] at served
  · intro h i s new placed entry place
    have enters (d : CacheSlot) (es : List CopyEntry) : onCopies h (enterNew d i es) s = placed d es := by
      rw [place, entry]
      rfl
    refine ⟨fun e stands => selectItem_stands stands, fun unnamed => ?_⟩
    have absent := entryOf_none_iff.2 unnamed
    refine ⟨fun d room free below => ?_, fun kept last full entries => ?_⟩
    · rw [selectItem_room absent room (freeCacheSlot_lowest free below), enters]
    · have link (g : Head) : onLink (headSlot g) (placed last.slot kept) = onLink (headSlot g) s := by
        rw [place]
        rfl
      have armed : (placed last.slot kept).ccu.armed = s.ccu.armed := by
        rw [place]
        rfl
      rw [selectItem_full absent full entries, enters, examineWatch, armed]
      simp only [Bool.and_eq_true, watchMet_iff, link]
      exact ⟨fun met => if_pos met, fun unmet => if_neg unmet⟩

end Sys2Proof.Machine
end

section
/-! SUPPORT. The frame start of the Head Service Unit (R46, R50, R53) as one write of each head's context. -/

namespace Sys2Proof.Machine

variable {h : Head} {s : State}

/-! ### The three parts at one head -/

theorem frameRefusal_eq (h : Head) (q : Request) (s : State) : frameRefusal h q s
    = if activeItem q.number s = false then some .withdrawn
      else if s.tot.day ≠ .opened then some .dayClosed
      else if 300 ≤ q.waited + 1 then some (if copyCurrent h q.number s then .unstable else .copyWait)
      else none := by
  have day : dayOpen s = false ↔ s.tot.day ≠ .opened := by rw [Ne, ← dayOpen_iff, Bool.not_eq_true]
  simp only [frameRefusal, Bool.not_eq_true', day, Config.captureFrames, ← Nat.not_le, ite_not,
    apply_ite (some : Code → Option Code)]

theorem refuseRequest_eq {q : Request} (pending : (ctx h s).request = some q) (code : Code) :
    refuseRequest h code s = onCtx h (cancelled code) s := by
  rw [← cancelRequest_eq, cancelRequest, pending]
  rfl

/-- The request of a context at a frame start that ends it with a code, or not. -/
def requestFramed (ends : Option Code) (c : HeadCtx) : HeadCtx :=
  match ends with
  | some code => cancelled code c
  | none => { c with request := c.request.map fun q => { q with waited := q.waited + 1 } }

/-- The selected item of a context at a frame start, by the records that are ACTIVE. -/
def selectedFramed (active : Nat → Bool) (c : HeadCtx) : HeadCtx :=
  if c.selected.any (!active ·) then { c with selected := none, message := some ⟨.withdrawn, 200⟩ } else c

/-- A context after a frame start, its parts in the order of R174. -/
def framed (ends : Option Code) (active : Nat → Bool) (c : HeadCtx) : HeadCtx :=
  { selectedFramed active (requestFramed ends c) with
    message := (selectedFramed active (requestFramed ends c)).message.bind countMessage }

theorem requestFramed_idle {c : HeadCtx} (idle : c.request = none) : requestFramed none c = c := by
  cases c
  simp_all [requestFramed]

theorem frameRequest_eq (h : Head) (s : State) : frameRequest h s
    = onCtx h (requestFramed ((ctx h s).request.bind (frameRefusal h · s))) s := by
  unfold frameRequest
  cases pending : (ctx h s).request with
  | none => exact (onCtx_same (requestFramed_idle pending)).symm
  | some q =>
    dsimp only [Option.bind_some]
    cases frameRefusal h q s with
    | none => exact onCtx_congr (by simp [requestFramed, pending])
    | some code => exact refuseRequest_eq pending code

theorem frameSelected_eq (h : Head) (s : State) : frameSelected h s = onCtx h (selectedFramed (activeItem · s)) s := by
  unfold frameSelected
  cases selected : (ctx h s).selected with
  | none => exact (onCtx_same (by simp [selectedFramed, selected])).symm
  | some n =>
    dsimp only
    cases active : activeItem n s with
    | true => exact (onCtx_same (by simp [selectedFramed, selected, active])).symm
    | false =>
      rw [setMessage, onCtx_onCtx, if_neg Bool.false_ne_true]
      exact onCtx_congr (by simp [selectedFramed, selected, active, Config.messageFrames])

theorem frameHead_eq (h : Head) (s : State) : frameHead h s
    = onCtx h (framed ((ctx h s).request.bind (frameRefusal h · s)) (activeItem · s)) s := by
  rw [frameHead, frameRequest_eq, frameSelected_eq, frameMessage, onCtx_onCtx, onCtx_onCtx]
  rfl

/-! ### All heads -/

/-- Every head's context after the frame start is that before it, framed by the records, the day and the copies that
stand. -/
theorem ctx_frameHeads (h : Head) (s : State) : ctx h (eachHead frameHead s)
    = framed ((ctx h s).request.bind (frameRefusal h · s)) (activeItem · s) (ctx h s) := by
  refine eachHead_at ctx
    (fun a c => framed (c.request.bind (frameRefusal a · s)) (activeItem · s) c)
    (p := fun u => u.itb = s.itb ∧ u.tot = s.tot ∧ u.ccu = s.ccu) ?_ ⟨rfl, rfl, rfl⟩ h
  rintro a u ⟨itb, tot, ccu⟩
  refine ⟨by simp [itb, tot, ccu], fun b => ?_⟩
  have active (n : Nat) : activeItem n u = activeItem n s := by simp [activeItem, findItem, itb]
  have refusal (q : Request) : frameRefusal a q u = frameRefusal a q s := by
    simp [frameRefusal, active, dayOpen, tot, copyCurrent, copyState, copies, ccu]
  rw [frameHead_eq, ctx_onCtx]
  simp only [active, refusal]

/-- A state that differs from another in the contexts of the heads. -/
theorem eq_of_heads {w s : State} (rest : { w with hsu := { w.hsu with heads := s.hsu.heads } } = s) :
    w = { s with hsu := { s.hsu with heads := w.hsu.heads } } := by
  have put := congrArg (fun u : State => { u with hsu := { u.hsu with heads := w.hsu.heads } }) rest
  exact put

/-- The frame start at the heads writes contexts only. -/
theorem frameHeads_frame (s : State) : eachHead frameHead s
    = { s with hsu := { s.hsu with heads := (eachHead frameHead s).hsu.heads } } :=
  eq_of_heads (eachHead_keeps (fun u : State => { u with hsu := { u.hsu with heads := s.hsu.heads } })
    (fun h u => by rw [frameHead_eq]; rfl) s)

theorem selectedFramed_eq (active : Nat → Bool) (c : HeadCtx) : selectedFramed active c = { c with
    selected := c.selected.filter active
    message := if c.selected.any (fun n => !active n) then some ⟨.withdrawn, 200⟩ else c.message } := by
  obtain ⟨operator, nowServing, held, count, labelMark, selected, batch, request, autoHold, message, lastLine⟩ := c
  cases selected with
  | none => rfl
  | some n => cases found : active n <;> simp [selectedFramed, Option.filter, found]

theorem requestFramed_eq {ends : Option Code} {c : HeadCtx} : (c.request = none → ends = none) →
    requestFramed ends c = { c with
      request := if ends.isSome then none else c.request.map fun q => { q with waited := q.waited + 1 }
      autoHold := c.autoHold || (ends.isSome && c.request.any (·.origin == .auto))
      message := match ends with
        | some code => some ⟨code, 200⟩
        | none => c.message } := by
  intro idle
  cases ends with
  | none => simp [requestFramed]
  | some code =>
    cases pending : c.request with
    | none => exact absurd (idle pending) (by simp)
    | some q => simp [requestFramed, cancelled, pending]

/-- A context after a frame start, field by field; a message that the frame start sets has 199 frames left. -/
theorem framed_eq {ends : Option Code} (active : Nat → Bool) {c : HeadCtx} : (c.request = none → ends = none) →
    framed ends active c = { c with
      request := if ends.isSome then none else c.request.map fun q => { q with waited := q.waited + 1 }
      autoHold := c.autoHold || (ends.isSome && c.request.any (·.origin == .auto))
      selected := c.selected.filter active
      message :=
        if c.selected.any (fun n => !active n) then some ⟨.withdrawn, 199⟩
        else match ends with
          | some code => some ⟨code, 199⟩
          | none => c.message.bind fun m => if m.frames ≤ 1 then none else some ⟨m.code, m.frames - 1⟩ } := by
  intro idle
  rw [framed, selectedFramed_eq, requestFramed_eq idle]
  dsimp only
  congr 1
  split
  · rfl
  · cases ends <;> rfl

/-- A frame-start signal taken from those that wait at the Head Service Unit (R174). -/
def signalTaken (s : State) : State := { s with hand := { s.hand with hsu := s.hand.hsu - 1 } }

/-- What is left of a state that agrees behind the displays with one that differs from `w` in the contexts only. -/
theorem SameBehind.of_heads {t u w : State} (same : SameBehind t u)
    (frame : u = { w with hsu := { w.hsu with heads := u.hsu.heads } }) :
    t.hand = w.hand ∧ SameBehind t { w with hsu := { w.hsu with heads := t.hsu.heads } } := by
  obtain ⟨-, -, -, -, -, -, -, heads, -, -, -, -, -, -, -, hand, -⟩ := same.blocks
  refine ⟨hand.trans (by rw [frame]), ?_⟩
  rw [heads, ← frame]
  exact same

/-- Settles O31: each head's context framed by what stands, and the two parts at one head. -/
theorem frameStartCountsAtHeads : Obligations.FrameStartCountsAtHeads := by
  intro s ends low waits due
  have signal : s.hand.hsu ≠ 0 := Nat.pos_iff_ne_zero.1 waits
  refine ⟨?_, fun h q pending active opened late => ?_, fun h m shown last => ?_⟩
  · obtain ⟨t, ht, behindT⟩ := takes_high_behind (fun s =>
      if s.hand.hsu = 0 then s else eachHead frameHead (signalTaken s)) low
    rw [if_neg signal] at behindT
    obtain ⟨hand, rest⟩ := behindT.of_heads (frameHeads_frame (signalTaken s))
    have left : t.hand.hsu = s.hand.hsu - 1 := by rw [hand]; rfl
    refine ⟨t, (exec_headServiceFrameStart s).trans ht, by rw [left]; exact Nat.sub_add_cancel waits, ?_, fun h => ?_⟩
    · rw [left]
      exact rest
    · have ending : (ctx h s).request.bind (frameRefusal h · s) = ends h := by simp only [frameRefusal_eq, due h]
      have after : ctx h t = framed ((ctx h s).request.bind (frameRefusal h · s)) (activeItem · s) (ctx h s) :=
        (behindT.ctx h).trans (ctx_frameHeads h (signalTaken s))
      rw [after, ending, framed_eq _ (fun idle => by rw [due h, idle, Option.bind_none])] <;> rfl
  · obtain ⟨t, ht, behindT⟩ := takes_high_behind (fun s => if timeoutDue h s then frameRequest h s else s) low
    have timed : timeoutDue h s = true := by
      simp [timeoutDue, pending, signal, active, dayOpen_iff.2 opened, Config.captureFrames, late]
    have refusal : frameRefusal h q s = some (if copyCurrent h q.number s then .unstable else .copyWait) := by
      simp [frameRefusal_eq, active, opened, late]
    rw [if_pos timed, frameRequest_eq, pending, Option.bind_some, refusal] at behindT
    refine ⟨t, ht, behindT.trans (congrArg behind (onCtx_congr ?_))⟩
    simp [requestFramed, cancelled, pending]
  · obtain ⟨t, ht, behindT⟩ := takes_high_behind (fun s => if expiryDue h s then frameMessage h s else s) low
    have expires : expiryDue h s = true := by simp [expiryDue, shown, signal, last]
    rw [if_pos expires, frameMessage] at behindT
    refine ⟨t, ht, behindT.trans (congrArg behind (onCtx_congr ?_))⟩
    simp [shown, countMessage, last]

end Sys2Proof.Machine
end

section
/-! SUPPORT. Examination, completion and refusal of captures (R44 to R48), and the settlements of the two capture rows. -/

namespace Sys2Proof.Machine

variable {h : Head} {s : State}

/-! ### The two rows -/

/-- An event whose work changes nothing leaves the state as it stands. -/
theorem takes_unchanged {f : State → State} (low : s.resetLow = false) (same : f s = s) : takes f s = .next s := by
  rw [takes_high f low, same, settle_self, noted_same rfl]

section
variable {q : Request}

theorem exec_captureLineComplete (h : Head) (s : State) : exec (.captureLineComplete h) s
    = takes (fun s => if lineRequest h s then examine h s else s) s := rfl

theorem captureLine_work (pending : (ctx h s).request = some q) (purpose : q.purpose = .line) :
    (if lineRequest h s then examine h s else s) = examine h s := by
  simp [lineRequest, pending, purpose]

theorem captureLabel_work (pending : (ctx h s).request = some q) (purpose : q.purpose = .label ∨ q.purpose = .prepack) :
    (if lineRequest h s then s else examine h s) = examine h s := by
  have other : lineRequest h s = false := by
    obtain purpose | purpose := purpose <;> simp [lineRequest, pending, purpose]
  rw [other, if_neg Bool.false_ne_true]

/-! ### Examination (R44) -/

theorem currentCopy_some {n : Nat} {e : CopyEntry} {i : Item} (entry : entryOf n (copies h s) = some e)
    (current : e.state = .current) (record : itemAt e.index s = some i) : currentCopy h n s = some i := by
  simp [currentCopy, entry, current, record]

theorem verdictMet_iff (mode : SaleMode) (c : Channel) :
    verdictMet mode c = true ↔ (mode = .weighed → c.verdict = .eligible) := by
  cases mode <;> simp [verdictMet]

section
variable {e : CopyEntry} {i : Item}

/-- A request whose copy is CURRENT waits for the verdict. -/
theorem examine_notEligible (pending : (ctx h s).request = some q) (entry : entryOf q.number (copies h s) = some e)
    (current : e.state = .current) (record : itemAt e.index s = some i) (weighed : i.mode = .weighed)
    (verdict : (chan h s).verdict ≠ .eligible) : examine h s = s := by
  have unmet : ¬verdictMet i.mode (chan h s) = true := by
    rw [verdictMet_iff]
    exact fun met => verdict (met weighed)
  simp only [examine, pending, currentCopy_some entry current record, if_neg unmet]

theorem examine_completes (pending : (ctx h s).request = some q) (entry : entryOf q.number (copies h s) = some e)
    (current : e.state = .current) (record : itemAt e.index s = some i)
    (verdict : i.mode = .weighed → (chan h s).verdict = .eligible) : examine h s = complete h q i s := by
  simp only [examine, pending, currentCopy_some entry current record, if_pos ((verdictMet_iff _ _).2 verdict)]

/-! ### Completion and refusal (R45) -/

variable {op : Operator}

theorem complete_refused {code : Code} (signed : (ctx h s).operator = some op)
    (amount : amountOf i.mode i.price (quantityOf i.mode q (chan h s)) = .error code) :
    complete h q i s = refuseRequest h code s := by
  simp only [complete, signed, amount]

theorem complete_finishes {amount : Nat} (signed : (ctx h s).operator = some op)
    (value : amountOf i.mode i.price (quantityOf i.mode q (chan h s)) = .ok amount) : complete h q i s
    = finish ⟨h, op, i, quantityOf i.mode q (chan h s), tareOf i.mode (chan h s), amount⟩ q s := by
  simp only [complete, signed, value]

/-- The refusal of a request, field by field (R45). -/
theorem refuseRequest_fields (pending : (ctx h s).request = some q) (code : Code) : refuseRequest h code s
    = onCtx h (fun c => { c with
        request := none, autoHold := c.autoHold || q.origin == .auto, message := some ⟨code, 200⟩ }) s := by
  rw [refuseRequest_eq pending]
  exact onCtx_congr (by simp only [cancelled, pending])

end

theorem finish_line {k : Capture} {id : TicketId} (purpose : q.purpose = .line) (bound : q.ticket = some id)
    (held : (ticket id.slot s).state = .held) (serial : (ticket id.slot s).serial = id.serial)
    (room : (ticket id.slot s).lines.length < 24) : finish k q s
    = if 99999999 < (ticket id.slot s).total + k.amount then refuseRequest k.head .ticketLimit s
      else if (settings k.head s).lineLabels = true ∧ 16 ≤ (queue (settings k.head s).printer s).length then
        refuseRequest k.head .printerBusy s
      else completeLine k id s := by
  have takes : lineRoom id s = true := by simp [lineRoom, held, serial, Config.linePlaces, room]
  have busy (p : Printer) : queueRoom p s = false ↔ 16 ≤ (queue p s).length := by
    rw [← Bool.not_eq_true, queueRoom_iff, not_not]
  simp only [finish, purpose, bound, takes, Bool.not_true, Bool.false_eq_true, if_false, needsLabel, Bool.and_eq_true,
    Bool.not_eq_true', busy]
  rfl

theorem finish_label {k : Capture} (purpose : q.purpose = .label ∨ q.purpose = .prepack) : finish k q s
    = if 16 ≤ (queue (settings k.head s).printer s).length then refuseRequest k.head .printerBusy s
      else completeLabel k q.purpose s := by
  have busy (p : Printer) : queueRoom p s = false ↔ 16 ≤ (queue p s).length := by
    rw [← Bool.not_eq_true, queueRoom_iff, not_not]
  obtain purpose | purpose := purpose <;>
    simp only [finish, purpose, needsLabel, Bool.true_and, Bool.not_eq_true', busy]

end

/-! ### What a completion does (R47, R48) -/

theorem lockFor_eq (k : Capture) (s : State) : lockFor k s = if k.item.mode = .weighed then
    onChan k.head (fun c => { c with lock := .locked, verdict := .notEligible .locked }) s else s := by
  unfold lockFor
  cases k.item.mode <;> rfl

theorem queueAtHead_eq (h : Head) (content : Content) (s : State) : queueAtHead h content s
    = (if printerDown (settings h s).printer s then setMessage h .printerDown else fun x => x)
      (queueJob (settings h s).printer (some h) 1 content s) := by
  unfold queueAtHead
  dsimp only
  split <;> rfl

/-- A context at the end of a LABEL or PREPACK request: the request, and for PREPACK the batch (R48, R49). -/
def packed (purpose : Purpose) (c : HeadCtx) : HeadCtx :=
  match purpose, c.batch with
  | .prepack, .left 1 => { c with request := none, batch := .done, message := some ⟨.batchDone, 200⟩ }
  | .prepack, .left (k + 2) => { c with request := none, batch := .left (k + 1) }
  | _, _ => { c with request := none }

theorem endRequest_countBatch (h : Head) (s : State) : endRequest h (countBatch h s) = onCtx h (packed .prepack) s := by
  match batch : (ctx h s).batch with
  | .done =>
    have counted : countBatch h s = s := by simp [countBatch, batch]
    rw [counted]
    exact onCtx_congr (by simp [packed, batch])
  | .left 0 =>
    have counted : countBatch h s = s := by simp [countBatch, batch]
    rw [counted]
    exact onCtx_congr (by simp [packed, batch])
  | .left 1 =>
    have counted : countBatch h s = setMessage h .batchDone (onCtx h (fun c => { c with batch := .done }) s) := by
      simp [countBatch, batch]
    rw [counted, setMessage, endRequest, onCtx_onCtx, onCtx_onCtx]
    exact onCtx_congr (by simp [packed, batch, Config.messageFrames])
  | .left (n + 2) =>
    have counted : countBatch h s = onCtx h (fun c => { c with batch := .left (n + 1) }) s := by
      simp [countBatch, batch]
    rw [counted, endRequest, onCtx_onCtx]
    exact onCtx_congr (by simp [packed, batch])

/-- The lock of a weighed capture leaves labels, items, tickets and settings. -/
theorem lock_frame {k : Capture} {u : State} (locked : u = if k.item.mode = .weighed then
      onChan k.head (fun c => { c with lock := .locked, verdict := .notEligible .locked }) s else s) :
    u.lbc = s.lbc ∧ u.itb = s.itb ∧ u.tkp = s.tkp ∧ settings k.head u = settings k.head s := by
  rw [locked]
  split <;> simp

/-- A completed LINE capture, its parts in the order of R47. -/
theorem completeLine_eq {k : Capture} {id : TicketId} {u v : State} {line : Line}
    (locked : u = if k.item.mode = .weighed then
      onChan k.head (fun c => { c with lock := .locked, verdict := .notEligible .locked }) s else s)
    (made : line = lineOf k ((ticket id.slot s).lines.length + 1) s)
    (appended : v = onCtx k.head (fun c => { c with lastLine := some ⟨id, line.position⟩ })
      (onItemAt line.index (fun r => { r with refs := r.refs + 1 })
        (onTicket id.slot (fun t => { t with lines := t.lines ++ [line], total := t.total + line.amount, idle := 0 }) u))) :
    completeLine k id s = onCtx k.head (fun c => { c with request := none })
      (if (settings k.head s).lineLabels then
        (if printerDown (settings k.head s).printer s then setMessage k.head .printerDown else fun x => x)
          (queueJob (settings k.head s).printer (some k.head) 1 (.item (labelOf k s)) v)
      else v) := by
  obtain ⟨lbc, itb, tkp, stored⟩ := lock_frame locked
  have rule : settings k.head v = settings k.head s := by
    rw [← stored, appended]
    rfl
  have labels : v.lbc = s.lbc := by
    rw [← lbc, appended]
    rfl
  have label : labelOf k v = labelOf k s := by simp only [labelOf, labels]
  have down (p : Printer) : printerDown p v = printerDown p s := by simp only [printerDown, printer, labels]
  have entry : lineOf k ((ticket id.slot u).lines.length + 1) u = line := by
    rw [made, lineOf, lineOf, itb, ticket, tkp, ticket]
  have taken : onCtx k.head (fun c => { c with lastLine := some ⟨id, (ticket id.slot u).lines.length + 1⟩ })
      (appendLine id.slot line u) = v := by
    have place : (ticket id.slot u).lines.length + 1 = line.position := by rw [← entry]; rfl
    rw [appended, place]
    rfl
  rw [completeLine, lockFor_eq, ← locked, entry, taken, endRequest, rule]
  congr 1
  split
  · rw [queueAtHead_eq, rule, label, down]
  · rfl

/-- A completed LABEL or PREPACK capture, its parts in the order of R48. -/
theorem completeLabel_eq {k : Capture} {purpose : Purpose} {u : State} (named : purpose = .label ∨ purpose = .prepack)
    (locked : u = if k.item.mode = .weighed then
      onChan k.head (fun c => { c with lock := .locked, verdict := .notEligible .locked }) s else s) :
    completeLabel k purpose s = onCtx k.head (packed purpose)
      ((if printerDown (settings k.head s).printer s then setMessage k.head .printerDown else fun x => x)
        (queueJob (settings k.head s).printer (some k.head) 1 (.prepack (labelOf k s) (foldOf k s)) u)) := by
  obtain ⟨lbc, itb, -, stored⟩ := lock_frame locked
  have label : labelOf k u = labelOf k s := by simp only [labelOf, lbc]
  have fold : foldOf k u = foldOf k s := by simp only [foldOf, itb]
  have down (p : Printer) : printerDown p u = printerDown p s := by simp only [printerDown, printer, lbc]
  unfold completeLabel
  dsimp only
  rw [lockFor_eq, ← locked]
  rw [queueAtHead_eq, stored, label, fold, down]
  obtain rfl | rfl := named
  · rfl
  · exact endRequest_countBatch ..

/-! ### The rows of captures -/

section
variable {c : Instr} {f : State → State} (row : exec c s = takes f s) (low : s.resetLow = false)
  (work : f s = examine h s)
include row low work

/-- A row that examines leaves behind the displays what the examination makes. -/
theorem row_examines {u : State} (made : examine h s = u) : ∃ t, exec c s = .next t ∧ SameBehind t u := by
  obtain ⟨t, ht, behindT⟩ := takes_high_behind f low
  rw [work, made] at behindT
  exact ⟨t, row.trans ht, behindT⟩

theorem row_waits (waits : examine h s = s) : exec c s = .next s := row.trans (takes_unchanged low (work.trans waits))

end

/-- Settles O32: the examination of a LINE request, which waits, is refused, or appends its line. -/
theorem lineCaptureAppendsLine : Obligations.LineCaptureAppendsLine := by
  refine ⟨?_, fun h s q id op low pending purpose bound signed => ?_⟩
  · intro h s u v q id op e i quantity amount tare line label p low pending purpose bound signed entry current record
      verdict weight used value held serial room limit printer labelRoom made content locked appended
    have pieces : quantityOf i.mode q (chan h s) = quantity := weight.symm
    have tared : tareOf i.mode (chan h s) = tare := by
      rw [used]
      cases i.mode <;> rfl
    have notBusy : ¬((settings h s).lineLabels = true ∧ 16 ≤ (queue (settings h s).printer s).length) := by
      rintro ⟨needed, full⟩
      rw [printer] at labelRoom
      exact absurd (labelRoom needed) (Nat.not_lt.2 full)
    have completed : examine h s = completeLine ⟨h, op, i, quantity, tare, amount⟩ id s := by
      rw [examine_completes pending entry current record verdict,
        complete_finishes signed (by rw [pieces]; exact value), pieces, tared,
        finish_line purpose bound held serial room, if_neg (Nat.not_lt.2 limit), if_neg notBusy]
    have parts := completeLine_eq (k := ⟨h, op, i, quantity, tare, amount⟩) (id := id) (v := v) locked made
      (by rw [appended, made])
    refine row_examines (exec_captureLineComplete h s) low (captureLine_work pending purpose)
      (completed.trans (parts.trans ?_))
    rw [printer, content]
    rfl
  have row := exec_captureLineComplete h s
  have work := captureLine_work pending purpose
  refine ⟨fun stale => row_waits row low work (examine_waits pending stale),
    fun e i quantity code entry current record =>
      ⟨fun weighed unmet => row_waits row low work (examine_notEligible pending entry current record weighed unmet),
        fun verdict weight why => ?_⟩⟩
  have pieces : quantityOf i.mode q (chan h s) = quantity := weight.symm
  refine row_examines row low work (.trans ?_ (refuseRequest_fields pending code))
  rw [examine_completes pending entry current record verdict]
  obtain unpriced | ⟨amount, value, held, serial, room, why⟩ := why
  · exact complete_refused signed (by rw [pieces]; exact unpriced)
  · rw [complete_finishes signed (by rw [pieces]; exact value), finish_line purpose bound held serial room]
    obtain ⟨beyond, rfl⟩ | ⟨within, labels, full, rfl⟩ := why
    · rw [if_pos beyond]
    · rw [if_neg (Nat.not_lt.2 within), if_pos ⟨labels, full⟩]

/-- Settles O33: the examination of a LABEL or PREPACK request, which waits, is refused, or queues its pack. -/
theorem labelCaptureQueuesPack : Obligations.LabelCaptureQueuesPack := by
  refine ⟨?_, fun h s q op low pending purpose signed => ?_⟩
  · intro h s u v q op e i quantity amount label p low pending purpose signed entry current record verdict weight value
      printer room content locked queued
    have pieces : quantityOf i.mode q (chan h s) = quantity := weight.symm
    rw [printer] at room
    have completed : examine h s
        = completeLabel ⟨h, op, i, quantity, tareOf i.mode (chan h s), amount⟩ q.purpose s := by
      rw [examine_completes pending entry current record verdict,
        complete_finishes signed (by rw [pieces]; exact value), pieces, finish_label purpose, if_neg (Nat.not_le.2 room)]
    have parts := completeLabel_eq (k := ⟨h, op, i, quantity, tareOf i.mode (chan h s), amount⟩) purpose locked
    refine row_examines (exec_captureLabelComplete h s) low (captureLabel_work pending purpose)
      (completed.trans (parts.trans ?_))
    rw [queued, printer, content]
    rfl
  have row := exec_captureLabelComplete h s
  have work := captureLabel_work pending purpose
  refine ⟨fun stale => row_waits row low work (examine_waits pending stale),
    fun e i quantity code entry current record =>
      ⟨fun weighed unmet => row_waits row low work (examine_notEligible pending entry current record weighed unmet),
        fun verdict weight why => ?_⟩⟩
  have pieces : quantityOf i.mode q (chan h s) = quantity := weight.symm
  refine row_examines row low work (.trans ?_ (refuseRequest_fields pending code))
  rw [examine_completes pending entry current record verdict]
  obtain unpriced | ⟨amount, value, full, rfl⟩ := why
  · exact complete_refused signed (by rw [pieces]; exact unpriced)
  · rw [complete_finishes signed (by rw [pieces]; exact value), finish_label purpose, if_pos full]

end Sys2Proof.Machine
end

section
/-! SUPPORT. The item table read by number and by record index, and what a change of its records keeps of the laws of the
table and of the copy lists. -/

namespace Sys2Proof.Machine

variable {s t : State}

/-! ### Records found by number and by index (R56, R57) -/

/-- With distinct keys a search by key finds exactly the element that has it. -/
theorem find?_key_iff {α : Type} {key : α → Nat} {xs : List α} (nodup : (xs.map key).Nodup) {k : Nat} {x : α} :
    xs.find? (fun y => key y == k) = some x ↔ x ∈ xs ∧ key x = k := by
  constructor
  · exact fun found => ⟨List.mem_of_find?_eq_some found, by simpa using List.find?_some found⟩
  · rintro ⟨mem, rfl⟩
    cases found : xs.find? (fun y => key y == key x) with
    | none => exact absurd (List.find?_eq_none.1 found x mem) (by simp)
    | some y =>
      have same : key y = key x := by simpa using List.find?_some found
      rw [List.inj_on_of_nodup_map nodup (List.mem_of_find?_eq_some found) mem same]

theorem Directory.nodup (dir : Directory s) : (s.itb.items.map (·.number)).Nodup :=
  List.pairwise_map.2 (dir.imp fun lt => lt.ne)

theorem findItem_iff (dir : Directory s) {n : Nat} {i : Item} : findItem n s = some i ↔ i ∈ s.itb.items ∧ i.number = n :=
  find?_key_iff dir.nodup

theorem itemAt_iff (places : Places s) {k : Nat} {i : Item} : itemAt k s = some i ↔ i ∈ s.itb.items ∧ i.index = k :=
  find?_key_iff places.1

theorem findItem_found {n : Nat} {i : Item} (found : findItem n s = some i) : i ∈ s.itb.items ∧ i.number = n :=
  ⟨List.mem_of_find?_eq_some found, by simpa using List.find?_some found⟩

theorem itemAt_found {k : Nat} {i : Item} (found : itemAt k s = some i) : i ∈ s.itb.items ∧ i.index = k :=
  ⟨List.mem_of_find?_eq_some found, by simpa using List.find?_some found⟩

/-- A record found by its number is found by its index. -/
theorem itemAt_of_findItem (places : Places s) {n : Nat} {i : Item} (found : findItem n s = some i) :
    itemAt i.index s = some i := (itemAt_iff places).2 ⟨(findItem_found found).1, rfl⟩

theorem itemAt_congr (items : t.itb.items = s.itb.items) (k : Nat) : itemAt k t = itemAt k s := by simp [itemAt, items]

theorem findItem_congr (items : t.itb.items = s.itb.items) (n : Nat) : findItem n t = findItem n s := by
  simp [findItem, items]

/-- Records changed without their index are found as before, changed. -/
theorem itemAt_map {f : Item → Item} (index : ∀ i, (f i).index = i.index) (items : t.itb.items = s.itb.items.map f)
    (k : Nat) :
    itemAt k t = (itemAt k s).map f := by
  rw [itemAt, items, List.find?_map]
  congr 2
  funext i
  simp [index]

theorem findItem_map {f : Item → Item} (number : ∀ i, (f i).number = i.number) (items : t.itb.items = s.itb.items.map f)
    (n : Nat) : findItem n t = (findItem n s).map f := by
  rw [findItem, items, List.find?_map]
  congr 2
  funext i
  simp [number]

/-! ### The laws of the table and of the copy lists across an event -/

/-- What a copy entry keeps (R74, R84): an ACTIVE record under its index and number, that record's version unless STALE,
and a push age of at most 10 in SENDING only. -/
def EntryGood (s : State) (e : CopyEntry) : Prop :=
  (∃ i, itemAt e.index s = some i ∧ i.number = e.number ∧ i.state = .active ∧ (e.state ≠ .stale → e.version = i.version))
    ∧ ∀ a, e.age = some a → e.state = .sending ∧ a ≤ Config.pushFrames

/-- What every event keeps of the item table and of the copy lists. -/
structure Tabled (s t : State) : Prop where
  directory : Directory s → Directory t
  places : Places s → Places t
  pending : Directory s → PendingLaw s → PendingLaw t
  purge : Directory s → Places s → PurgeLaw s → PurgeLaw t
  copies : CopyLaw s → CopyLaw t
  entries : Directory s → Places s → CopyLaw s → EntryLaw s → EntryLaw t

theorem Tabled.trans {s t u : State} (a : Tabled s t) (b : Tabled t u) : Tabled s u where
  directory dir := b.directory (a.directory dir)
  places pl := b.places (a.places pl)
  pending dir law := b.pending (a.directory dir) (a.pending dir law)
  purge dir pl law := b.purge (a.directory dir) (a.places pl) (a.purge dir pl law)
  copies law := b.copies (a.copies law)
  entries dir pl lists law := b.entries (a.directory dir) (a.places pl) (a.copies lists) (a.entries dir pl lists law)

/-- An event that writes neither records nor copy lists. -/
theorem Tabled.of_blocks (items : t.itb.items = s.itb.items) (lists : t.ccu.lists = s.ccu.lists) : Tabled s t := by
  have found := itemAt_congr items
  have same (h : Head) : Machine.copies h t = Machine.copies h s := by rw [Machine.copies, lists]; rfl
  constructor
  · simpa only [Directory, items] using id
  · simpa only [Places, items] using id
  · simpa only [PendingLaw, items] using fun _ => id
  · simpa only [PurgeLaw, items] using fun _ _ => id
  · simpa only [CopyLaw, same] using id
  · simpa only [EntryLaw, same, found] using fun _ _ _ => id

theorem Tabled.refl (s : State) : Tabled s s := .of_blocks rfl rfl

/-- What the entries of the copy lists read of a record. -/
def recordCore (i : Item) : Nat × Nat × ItemState × Byte := (i.number, i.index, i.state, i.version)

theorem directory_map {f : Item → Item} (number : ∀ i, (f i).number = i.number) (items : t.itb.items = s.itb.items.map f)
    (dir : Directory s) : Directory t := by
  rw [Directory, items, List.pairwise_map]
  simpa only [Directory, number] using dir

theorem places_map {f : Item → Item} (index : ∀ i, (f i).index = i.index) (items : t.itb.items = s.itb.items.map f)
    (places : Places s) : Places t := by
  have indices : (s.itb.items.map f).map (·.index) = s.itb.items.map (·.index) := by simp [index]
  refine ⟨by rw [items, indices]; exact places.1, fun i mem => ?_⟩
  rw [items] at mem
  obtain ⟨j, old, rfl⟩ := List.mem_map.1 mem
  exact index j ▸ places.2 j old

/-- An entry whose record reads as before is as good as before. -/
theorem EntryGood.congr {e : CopyEntry} (same : (itemAt e.index t).map recordCore = (itemAt e.index s).map recordCore)
    (good : EntryGood s e) : EntryGood t e := by
  obtain ⟨⟨i, found, number, active, version⟩, age⟩ := good
  rw [found] at same
  obtain ⟨j, found, core⟩ := Option.map_eq_some_iff.1 same
  simp only [recordCore, Prod.mk.injEq] at core
  obtain ⟨sameNumber, -, sameState, sameVersion⟩ := core
  exact ⟨⟨j, found, sameNumber.trans number, sameState.trans active, fun fresh => (version fresh).trans sameVersion.symm⟩,
    age⟩

/-- Records changed in their counts alone: each WITHDRAWN record that was to be kept still is. -/
theorem Tabled.of_map {f : Item → Item} (core : ∀ i, recordCore (f i) = recordCore i) (pend : ∀ i, (f i).pending = i.pending)
    (kept : ∀ i ∈ s.itb.items, i.state = .withdrawn → i.refs ≠ 0 ∨ i.acc ≠ emptyAcc → (f i).refs ≠ 0 ∨ (f i).acc ≠ emptyAcc)
    (items : t.itb.items = s.itb.items.map f) (lists : t.ccu.lists = s.ccu.lists) : Tabled s t := by
  simp only [recordCore, Prod.mk.injEq] at core
  have found := itemAt_map (fun i => (core i).2.1) items
  have sameList (h : Head) : Machine.copies h t = Machine.copies h s := by rw [Machine.copies, lists]; rfl
  refine ⟨directory_map (fun i => (core i).1) items, places_map (fun i => (core i).2.1) items, fun _ law i mem => ?_,
    fun _ _ law i mem => ?_, fun law h => sameList h ▸ law h, fun _ _ _ law h e mem => ?_⟩
  · rw [items] at mem
    obtain ⟨j, old, rfl⟩ := List.mem_map.1 mem
    rw [pend, (core j).2.2.1]
    exact law j old
  · rw [items] at mem
    obtain ⟨j, old, rfl⟩ := List.mem_map.1 mem
    rw [(core j).2.2.1]
    exact fun gone => kept j old gone (law j old gone)
  · rw [sameList] at mem
    refine EntryGood.congr ?_ (law h e mem)
    rw [found]
    cases itemAt e.index s with
    | none => rfl
    | some i => exact congrArg some (by simp [recordCore, core])

/-- One copy list changed. -/
theorem tabled_onCopies (h : Head) (f : CopyList → CopyList) (law : CopyListLaw (copies h s) → CopyListLaw (f (copies h s)))
    (good : Places s → CopyListLaw (copies h s) → (∀ e ∈ (copies h s).entries, EntryGood s e) →
      ∀ e ∈ (f (copies h s)).entries, EntryGood s e) : Tabled s (onCopies h f s) := by
  refine ⟨id, id, fun _ => id, fun _ _ => id, fun lists a => ?_, fun _ pl lists entries a => ?_⟩
  · rw [copies_onCopies]
    split
    · exact law (lists h)
    · exact lists a
  · rw [copies_onCopies]
    split
    · exact good pl (lists h) (entries h)
    · exact entries a

end Sys2Proof.Machine
end

section
/-! SUPPORT. References counted against open lines (R71) and records under unfolded packs (R147): `Tended` composes, so an
event keeps these laws and those of the table and the copy lists when its parts do. -/

namespace Sys2Proof.Machine

variable {s t : State}

/-! ### Lines of open tickets (R71) -/

/-- The references that the record at index `k` counts; 0 where there is none. -/
def refsAt (k : Nat) (s : State) : Nat := ((itemAt k s).map (·.refs)).getD 0

theorem refsLaw_iff : RefsLaw s ↔ ∀ k, refsAt k s = openLines k s := .rfl

/-- The lines of a HELD or PARKED ticket that name index `k`. -/
def lineCount (k : Nat) (x : Ticket) : Nat := if openTicket x then x.lines.countP (·.index == k) else 0

theorem lineCount_open {x : Ticket} (opened : openTicket x = true) (k : Nat) :
    lineCount k x = x.lines.countP (·.index == k) := if_pos opened

theorem lineCount_closed {x : Ticket} (closed : openTicket x = false) (k : Nat) : lineCount k x = 0 := by
  simp [lineCount, closed]

theorem openLines_eq_sum (k : Nat) (s : State) : openLines k s = ∑ x : TicketSlot, lineCount k (ticket x s) := by
  rw [Fin.sum_univ_def]
  rfl

theorem openLines_congr {k : Nat} (same : ∀ x : TicketSlot, lineCount k (ticket x t) = lineCount k (ticket x s)) :
    openLines k t = openLines k s := by
  simp only [openLines_eq_sum, same]

/-- One ticket changed: the open lines change by what it had and has. -/
theorem openLines_change {k : Nat} (x : TicketSlot) (same : ∀ y, y ≠ x → ticket y t = ticket y s) :
    openLines k t + lineCount k (ticket x s) = openLines k s + lineCount k (ticket x t) := by
  have rest : ∑ y ∈ Finset.univ.erase x, lineCount k (ticket y t) = ∑ y ∈ Finset.univ.erase x, lineCount k (ticket y s) :=
    Finset.sum_congr rfl fun y mem => by rw [same y (Finset.ne_of_mem_erase mem)]
  rw [openLines_eq_sum, openLines_eq_sum, ← Finset.add_sum_erase _ _ (Finset.mem_univ x),
    ← Finset.add_sum_erase Finset.univ (fun y => lineCount k (ticket y s)) (Finset.mem_univ x), rest]
  omega

theorem refsLaw_congr (refs : ∀ k, refsAt k t = refsAt k s)
    (lines : ∀ k, ∀ x : TicketSlot, lineCount k (ticket x t) = lineCount k (ticket x s)) (law : RefsLaw s) : RefsLaw t :=
  refsLaw_iff.2 fun k => by rw [refs, openLines_congr (lines k)]; exact law k

theorem refsAt_congr (items : t.itb.items = s.itb.items) (k : Nat) : refsAt k t = refsAt k s := by
  rw [refsAt, itemAt_congr items]; rfl

theorem refsAt_map {f : Item → Item} (index : ∀ i, (f i).index = i.index) (refs : ∀ i, (f i).refs = i.refs)
    (items : t.itb.items = s.itb.items.map f) (k : Nat) : refsAt k t = refsAt k s := by
  rw [refsAt, itemAt_map index items, Option.map_map]
  simp only [Function.comp_def, refs]
  rfl

/-! ### Records under unfolded packs (R147) -/

theorem unfoldedOf_iff {k : Nat} {j : Job} :
    unfoldedOf k j = true ↔ j.folded = false ∧ ∃ l f, j.content = .prepack l f ∧ f.index = k := by
  unfold unfoldedOf
  cases j.content <;> simp

theorem packsLaw_iff : PacksLaw s ↔ ∀ p, ∀ j ∈ queue p s, ∀ k, unfoldedOf k j = true → (itemAt k s).isSome := by
  constructor
  · intro law p j mem k unfolded
    obtain ⟨waits, l, f, content, rfl⟩ := unfoldedOf_iff.1 unfolded
    exact law p j mem l f content waits
  · exact fun law p j mem l f content waits => law p j mem f.index (unfoldedOf_iff.2 ⟨waits, l, f, content, rfl⟩)

/-- Records stay, and an unfolded pack names a record or stands for one that was queued. -/
theorem packsLaw_of_jobs (records : ∀ k, (itemAt k s).isSome → (itemAt k t).isSome)
    (jobs : ∀ p, ∀ j ∈ queue p t, ∀ k, unfoldedOf k j = true →
      (itemAt k t).isSome ∨ ∃ r, ∃ i ∈ queue r s, unfoldedOf k i = true) (law : PacksLaw s) : PacksLaw t := by
  refine packsLaw_iff.2 fun p j mem k unfolded => ?_
  rcases jobs p j mem k unfolded with there | ⟨r, i, old, was⟩
  · exact there
  · exact records k (packsLaw_iff.1 law r i old k was)

theorem packsLaw_congr (records : ∀ k, (itemAt k s).isSome → (itemAt k t).isSome) (queues : t.lbc.queues = s.lbc.queues)
    (law : PacksLaw s) : PacksLaw t :=
  packsLaw_of_jobs records (fun p j mem _ unfolded => .inr ⟨p, j, by rwa [queue, queues] at mem, unfolded⟩) law

theorem isSome_itemAt_map {f : Item → Item} (index : ∀ i, (f i).index = i.index) (items : t.itb.items = s.itb.items.map f)
    (k : Nat) : (itemAt k t).isSome = (itemAt k s).isSome := by rw [itemAt_map index items, Option.isSome_map]

/-! ### What an event keeps of all these laws -/

/-- What every event but a withdrawal and a drain keeps. -/
structure Tended (s t : State) : Prop extends Tabled s t where
  holders : HolderLaw s → HolderLaw t
  refs : HolderLaw s → RefsLaw s → RefsLaw t
  packs : PacksLaw s → PacksLaw t

theorem Tended.trans {s t u : State} (a : Tended s t) (b : Tended t u) : Tended s u :=
  ⟨a.toTabled.trans b.toTabled, fun law => b.holders (a.holders law),
    fun law refs => b.refs (a.holders law) (a.refs law refs), fun law => b.packs (a.packs law)⟩

/-- An event that writes neither records, nor copy lists, nor queues, and no line of an open ticket. -/
theorem Tended.of_lines (holders : HolderLaw s → HolderLaw t)
    (h : t.itb.items = s.itb.items ∧ t.ccu.lists = s.ccu.lists ∧ t.lbc.queues = s.lbc.queues)
    (lines : HolderLaw s → ∀ k, ∀ x : TicketSlot, lineCount k (ticket x t) = lineCount k (ticket x s)) : Tended s t := by
  obtain ⟨items, lists, queues⟩ := h
  exact ⟨.of_blocks items lists, holders, fun law => refsLaw_congr (refsAt_congr items) (lines law),
    packsLaw_congr (fun k => by rw [itemAt_congr items]; exact id) queues⟩

/-- The same with the tickets untouched. -/
theorem Tended.of_tickets (holders : HolderLaw s → HolderLaw t) (h : t.itb.items = s.itb.items ∧ t.ccu.lists = s.ccu.lists
    ∧ t.lbc.queues = s.lbc.queues ∧ t.tkp.tickets = s.tkp.tickets) : Tended s t :=
  .of_lines holders ⟨h.1, h.2.1, h.2.2.1⟩ fun _ k x => by rw [ticket, h.2.2.2]; rfl

/-- The same with the heads untouched. -/
theorem Tended.of_blocks (h : t.itb.items = s.itb.items ∧ t.ccu.lists = s.ccu.lists ∧ t.lbc.queues = s.lbc.queues
    ∧ t.tkp.tickets = s.tkp.tickets ∧ t.hsu.heads = s.hsu.heads) : Tended s t := by
  obtain ⟨items, lists, queues, tickets, heads⟩ := h
  exact .of_tickets (holderLaw_congr (fun k => by rw [ticket, tickets]; exact ⟨rfl, rfl, rfl⟩)
    (fun a => by rw [ctx, heads]; exact ⟨rfl, rfl⟩)) ⟨items, lists, queues, tickets⟩

theorem Tended.refl (s : State) : Tended s s := .of_blocks ⟨rfl, rfl, rfl, rfl, rfl⟩

theorem Tended.ite {u : State} {c : Prop} [Decidable c] (a : Tended s t) (b : Tended s u) :
    Tended s (if c then t else u) := by
  split
  · exact a
  · exact b

theorem Tended.foldl {α : Type} {f : State → α → State} (hf : ∀ s a, Tended s (f s a)) :
    ∀ (xs : List α) (s : State), Tended s (xs.foldl f s)
  | [], s => .refl s
  | x :: xs, s => (hf s x).trans (Tended.foldl hf xs (f s x))

/-! ### Updates -/

theorem tended_onCtx (h : Head) (f : HeadCtx → HeadCtx) (hf : headCore (f (ctx h s)) = headCore (ctx h s)) :
    Tended s (onCtx h f s) := .of_tickets (steady_onCtx h f hf).holderLaw ⟨rfl, rfl, rfl, rfl⟩

theorem tended_onChan (h : Head) (f : Channel → Channel) : Tended s (onChan h f s) := .of_blocks ⟨rfl, rfl, rfl, rfl, rfl⟩

theorem tended_onPrinter (p : Printer) (f : PrinterCtx → PrinterCtx) : Tended s (onPrinter p f s) :=
  .of_blocks ⟨rfl, rfl, rfl, rfl, rfl⟩

theorem tended_onSnu (f : Snu → Snu) : Tended s (onSnu f s) := .of_blocks ⟨rfl, rfl, rfl, rfl, rfl⟩

theorem tended_onSlot (i : Slot) (f : SlotLink → SlotLink) : Tended s (onSlot i f s) := .of_blocks ⟨rfl, rfl, rfl, rfl, rfl⟩

theorem tended_onHeadLink (h : Head) (f : HeadLink → HeadLink) : Tended s (onHeadLink h f s) :=
  .of_blocks ⟨rfl, rfl, rfl, rfl, rfl⟩

theorem tended_onInbox (h : Head) (f : Inbox → Inbox) : Tended s (onInbox h f s) := .of_blocks ⟨rfl, rfl, rfl, rfl, rfl⟩

theorem tended_latch (f : Latched → Latched) : Tended s (latch f s) := .of_blocks ⟨rfl, rfl, rfl, rfl, rfl⟩

theorem tended_recompose (h : Head) : Tended s (recompose h s) := .of_blocks ⟨rfl, rfl, rfl, rfl, rfl⟩

theorem tended_examineWatch : Tended s (examineWatch s) := by
  unfold examineWatch
  exact .ite (.of_blocks ⟨rfl, rfl, rfl, rfl, rfl⟩) (.refl s)

theorem Tended.of_sameBehind (same : SameBehind t s) : Tended s t := by
  obtain ⟨-, -, -, -, -, -, -, heads, -, itb, ccu, -, tkp, lbc, -⟩ := same.blocks
  exact .of_blocks ⟨by rw [itb], by rw [ccu], by rw [lbc], by rw [tkp], heads⟩

/-- A ticket record written without what the laws read of it. -/
theorem tended_onTicket (x : TicketSlot) (f : Ticket → Ticket) (core : ticketCore (f (ticket x s)) = ticketCore (ticket x s))
    (lines : (f (ticket x s)).lines = (ticket x s).lines) : Tended s (onTicket x f s) := by
  refine .of_lines (calm_onTicket x f core).holderLaw ⟨rfl, rfl, rfl⟩ fun _ k y => ?_
  rw [ticket_onTicket]
  split
  next e => rw [e, lineCount, lineCount, openTicket_of_core core, lines]
  · rfl

theorem tended_onCopies (h : Head) (f : CopyList → CopyList) (law : CopyListLaw (copies h s) → CopyListLaw (f (copies h s)))
    (good : Places s → CopyListLaw (copies h s) → (∀ e ∈ (copies h s).entries, EntryGood s e) →
      ∀ e ∈ (f (copies h s)).entries, EntryGood s e) : Tended s (onCopies h f s) :=
  ⟨tabled_onCopies h f law good, id, fun _ => id, id⟩

/-- A queue written with no new unfolded pack but of a record that stands. -/
theorem tended_onQueue (p : Printer) (f : List Job → List Job) (hf : ∀ j ∈ f (queue p s), ∀ k, unfoldedOf k j = true →
    (itemAt k s).isSome ∨ ∃ i ∈ queue p s, unfoldedOf k i = true) : Tended s (onQueue p f s) := by
  refine ⟨.of_blocks rfl rfl, id, fun _ => id, packsLaw_of_jobs (fun _ => id) fun r j mem k unfolded => ?_⟩
  rw [queue_onQueue] at mem
  split at mem
  · rcases hf j mem k unfolded with there | ⟨i, old, was⟩
    · exact .inl there
    · exact .inr ⟨p, i, old, was⟩
  · exact .inr ⟨r, j, mem, unfolded⟩

end Sys2Proof.Machine
end

section
/-! SUPPORT. Folds, references and label queues: `Tended`, operation by operation. -/

namespace Sys2Proof.Machine

variable {s t : State}

/-! ### Folds (R154, R155) -/

/-- A fold makes an accumulator non-empty: it counts a line. -/
theorem foldSale_nonempty (mode : SaleMode) (quantity amount : Nat) (a : Acc) :
    (foldSale mode quantity amount a).1 ≠ emptyAcc := by
  intro empty
  have lines := congrArg Acc.lines empty
  simp only [foldSale, satAdd, emptyAcc] at lines
  split at lines <;> simp [Config.countLimit] at lines

theorem foldVoid_nonempty (amount : Nat) (a : Acc) : (foldVoid amount a).1 ≠ emptyAcc := by
  intro empty
  have lines := congrArg Acc.voidLines empty
  simp only [foldVoid, satAdd, emptyAcc] at lines
  split at lines <;> simp [Config.countLimit] at lines

/-- What a fold makes of a record. -/
def foldRecord (f : Acc → Acc × Bool) (k : Nat) (i : Item) : Item :=
  if i.index == k then { i with acc := (f i.acc).1 } else i

theorem items_foldInto (f : Acc → Acc × Bool) (k : FoldKeys) (s : State) :
    (foldInto f k s).itb.items = s.itb.items.map (foldRecord f k.index) := by
  unfold foldInto
  exact (apply_ite (fun u : State => u.itb.items) _ _ _).trans (ite_self _)

theorem foldRecord_core (f : Acc → Acc × Bool) (k : Nat) (i : Item) : recordCore (foldRecord f k i) = recordCore i
    ∧ (foldRecord f k i).pending = i.pending ∧ (foldRecord f k i).refs = i.refs := by
  unfold foldRecord
  split <;> exact ⟨rfl, rfl, rfl⟩

theorem foldRecord_index (f : Acc → Acc × Bool) (k : Nat) (i : Item) : (foldRecord f k i).index = i.index :=
  congrArg (·.2.1) (foldRecord_core f k i).1

theorem tended_foldInto {f : Acc → Acc × Bool} (counts : ∀ a, (f a).1 ≠ emptyAcc) (k : FoldKeys) :
    Tended s (foldInto f k s) := by
  have items := items_foldInto f k s
  obtain ⟨-, -, -, -, -, -, ccu, -, tkp, lbc, -⟩ := foldInto_frame s f k
  refine ⟨.of_map (fun i => (foldRecord_core f _ i).1) (fun i => (foldRecord_core f _ i).2.1) (fun i _ _ kept => ?_) items
    (by rw [ccu]), (calm_foldInto f k).holderLaw, fun _ => refsLaw_congr
    (refsAt_map (foldRecord_index f _) (fun i => (foldRecord_core f _ i).2.2) items) fun _ x => by rw [ticket, tkp]; rfl,
    packsLaw_congr (fun n => by rw [isSome_itemAt_map (foldRecord_index f _) items]; exact id) (by rw [lbc])⟩
  unfold foldRecord
  split
  · exact .inr (counts _)
  · exact kept

/-- After a fold the record at its index has a non-empty accumulator. -/
theorem acc_foldInto {f : Acc → Acc × Bool} (counts : ∀ a, (f a).1 ≠ emptyAcc) (k : FoldKeys) :
    ∀ i ∈ (foldInto f k s).itb.items, i.index = k.index → i.acc ≠ emptyAcc := by
  rw [items_foldInto]
  intro i mem at_k
  obtain ⟨j, -, rfl⟩ := List.mem_map.1 mem
  rw [foldRecord_index] at at_k
  rw [foldRecord, if_pos (by simpa using at_k)]
  exact counts _

/-! ### References added and released (R71) -/

/-- What a new count of references makes of a record. -/
def countRecord (g : Nat → Nat) (k : Nat) (i : Item) : Item := if i.index == k then { i with refs := g i.refs } else i

theorem countRecord_core (g : Nat → Nat) (k : Nat) (i : Item) : recordCore (countRecord g k i) = recordCore i
    ∧ (countRecord g k i).pending = i.pending ∧ (countRecord g k i).acc = i.acc := by
  unfold countRecord
  split <;> exact ⟨rfl, rfl, rfl⟩

theorem countRecord_index (g : Nat → Nat) (k : Nat) (i : Item) : (countRecord g k i).index = i.index :=
  congrArg (·.2.1) (countRecord_core g k i).1

/-- The references counted after a record's count is rewritten. -/
theorem refsAt_countRecord {g : Nat → Nat} {k : Nat} (items : t.itb.items = s.itb.items.map (countRecord g k)) (n : Nat) :
    refsAt n t = if n = k then ((itemAt k s).map fun i => g i.refs).getD 0 else refsAt n s := by
  have counted (i : Item) (at_n : i.index = n) : (countRecord g k i).refs = if n = k then g i.refs else i.refs := by
    unfold countRecord
    rw [at_n]
    by_cases e : n = k <;> simp [e]
  rw [refsAt, itemAt_map (countRecord_index g k) items]
  cases found : itemAt n s with
  | none =>
    split
    next e => simp [← e, found]
    · simp [refsAt, found]
  | some i =>
    have refs := counted i (itemAt_found found).2
    simp only [Option.map_some, Option.getD_some, refs]
    split
    next e => simp [← e, found]
    · simp [refsAt, found]

/-- A record with a non-empty accumulator is not purged when a reference to it is released. -/
theorem releaseRef_of_acc {k : Nat} (kept : ∀ i ∈ s.itb.items, i.index = k → i.acc ≠ emptyAcc) :
    releaseRef k s = onItems (·.map (countRecord (· - 1) k)) s := by
  have counted : onItemAt k (fun i => { i with refs := i.refs - 1 }) s = onItems (·.map (countRecord (· - 1) k)) s := rfl
  rw [releaseRef, counted, purgeCheck]
  split
  next i found =>
    obtain ⟨mem, at_k⟩ := itemAt_found found
    obtain ⟨j, old, rfl⟩ := List.mem_map.1 mem
    rw [countRecord_index] at at_k
    have nonempty := kept j old at_k
    rw [if_neg]
    simp [purgeable, (countRecord_core _ _ _).2.2, nonempty]
  · rfl

/-- The lines of `ls` walked: each folded, then its reference released. -/
structure Walked (ls : List Line) (s t : State) : Prop extends Tabled s t where
  tickets : t.tkp = s.tkp
  queues : t.lbc.queues = s.lbc.queues
  records : ∀ k, (itemAt k t).isSome = (itemAt k s).isSome
  refs : ∀ k, refsAt k t = refsAt k s - ls.countP (·.index == k)

theorem Walked.trans {xs ys : List Line} {s t u : State} (a : Walked xs s t) (b : Walked ys t u) : Walked (xs ++ ys) s u :=
  ⟨a.toTabled.trans b.toTabled, b.tickets.trans a.tickets, b.queues.trans a.queues,
    fun k => (b.records k).trans (a.records k), fun k => by rw [b.refs, a.refs, List.countP_append, Nat.sub_sub]⟩

theorem Walked.packs {ls : List Line} (a : Walked ls s t) : PacksLaw s → PacksLaw t :=
  packsLaw_congr (fun k => by rw [a.records]; exact id) a.queues

/-- A reference to a record with a non-empty accumulator released. -/
theorem walked_releaseRef {l : Line} (kept : ∀ i ∈ s.itb.items, i.index = l.index → i.acc ≠ emptyAcc) :
    Walked [l] s (releaseRef l.index s) := by
  rw [releaseRef_of_acc kept]
  have items : (onItems (·.map (countRecord (· - 1) l.index)) s).itb.items
    = s.itb.items.map (countRecord (· - 1) l.index) := rfl
  refine ⟨.of_map (fun i => (countRecord_core _ _ i).1) (fun i => (countRecord_core _ _ i).2.1) (fun i mem _ nonempty => ?_)
    items rfl, rfl, rfl, isSome_itemAt_map (countRecord_index _ _) items, fun k => ?_⟩
  · rw [(countRecord_core _ _ i).2.2]
    by_cases at_l : i.index = l.index
    · exact .inr (kept i mem at_l)
    · rw [countRecord, if_neg (by simpa using at_l)]
      exact nonempty
  · rw [refsAt_countRecord items]
    by_cases e : k = l.index
    · subst e
      cases found : itemAt l.index s <;> simp [refsAt, found]
    · rw [if_neg e]
      simp [Ne.symm e]

/-- The fold of a line of one of the two kinds. -/
def lineFold (f : Line → Acc → Acc × Bool) (l : Line) : State → State := foldInto (f l) (lineKeys l)

theorem walked_line {f : Line → Acc → Acc × Bool} (counts : ∀ l a, (f l a).1 ≠ emptyAcc) (l : Line) (s : State) :
    Walked [l] s (releaseRef l.index (lineFold f l s)) := by
  have folded := tended_foldInto (s := s) (counts l) (lineKeys l)
  have items := items_foldInto (f l) (lineKeys l) s
  obtain ⟨-, -, -, -, -, -, ccu, -, tkp, lbc, -⟩ := foldInto_frame s (f l) (lineKeys l)
  have first : Walked [] s (lineFold f l s) := ⟨folded.toTabled, tkp, by rw [lineFold, lbc],
    isSome_itemAt_map (foldRecord_index _ _) items,
    refsAt_map (foldRecord_index _ _) (fun i => (foldRecord_core _ _ i).2.2) items⟩
  exact first.trans (walked_releaseRef (acc_foldInto (counts l) (lineKeys l)))

theorem walked_walkLines {f : Line → Acc → Acc × Bool} (counts : ∀ l a, (f l a).1 ≠ emptyAcc) :
    ∀ (ls : List Line) (s : State), Walked ls s (walkLines (lineFold f) ls s)
  | [], s => ⟨.refl s, rfl, rfl, fun _ => rfl, fun _ => rfl⟩
  | l :: ls, s => (walked_line counts l s).trans (walked_walkLines counts ls _)

theorem walked_sale (ls : List Line) (s : State) : Walked ls s (walkLines foldLineSale ls s) :=
  walked_walkLines (f := fun l => foldSale l.mode l.quantity l.amount) (fun _ => foldSale_nonempty _ _ _) ls s

theorem walked_void (ls : List Line) (s : State) : Walked ls s (walkLines foldLineVoid ls s) :=
  walked_walkLines (f := fun l => foldVoid l.amount) (fun _ => foldVoid_nonempty _) ls s

/-- The references of an open ticket's lines released, and the ticket no longer open: the counts agree again. -/
theorem refsLaw_of_walk {x : TicketSlot} (opened : openTicket (ticket x s) = true)
    (refs : ∀ k, refsAt k t = refsAt k s - (ticket x s).lines.countP (·.index == k))
    (same : ∀ y, y ≠ x → ticket y t = ticket y s) (closed : openTicket (ticket x t) = false) (law : RefsLaw s) :
    RefsLaw t := by
  refine refsLaw_iff.2 fun k => ?_
  have before := refsLaw_iff.1 law k
  have changed := openLines_change (k := k) x same
  rw [lineCount_closed closed, lineCount_open opened] at changed
  rw [refs, before]
  omega

/-! ### Label queues (R130, R146) -/

theorem tended_startIfIdle (p : Printer) : Tended s (startIfIdle p s) := by
  unfold startIfIdle
  exact .ite (tended_onPrinter ..) (.refl s)

/-- A job queued; a PREPACK job names a record. -/
theorem tended_queueJob (p : Printer) (source : Option Head) (n : Nat) {content : Content}
    (record : ∀ l f, content = .prepack l f → (itemAt f.index s).isSome) : Tended s (queueJob p source n content s) := by
  have candidate : Tended s { s with lbc := { s.lbc with candidate := (newJob source n content s).tag + 1 } } :=
    .of_blocks ⟨rfl, rfl, rfl, rfl, rfl⟩
  refine (candidate.trans (tended_onQueue p (· ++ [newJob source n content s]) fun j mem k unfolded => ?_)).trans
    (tended_startIfIdle p)
  rcases List.mem_append.1 mem with old | new
  · exact .inr ⟨j, old, unfolded⟩
  · rw [List.mem_singleton.1 new] at unfolded
    obtain ⟨-, l, f, prepack, rfl⟩ := unfoldedOf_iff.1 unfolded
    exact .inl (record l f prepack)

/-- The front job of a queue rewritten without becoming an unfolded pack. -/
theorem tended_front (p : Printer) (g : Job → Job) (hg : ∀ j k, unfoldedOf k (g j) = true → unfoldedOf k j = true) :
    Tended s (onQueue p (fun q => match q with
      | [] => []
      | j :: q => g j :: q) s) := by
  refine tended_onQueue p _ fun i mem k unfolded => .inr ?_
  cases e : queue p s with
  | nil => simp [e] at mem
  | cons j js =>
    rw [e] at mem
    rcases List.mem_cons.1 mem with rfl | old
    · exact ⟨j, List.mem_cons_self, hg j k unfolded⟩
    · exact ⟨i, List.mem_cons_of_mem _ old, unfolded⟩

theorem tended_foldPack (p : Printer) (j : Job) : Tended s (foldPack p j s) := by
  unfold foldPack
  split
  · exact .ite (.refl s) ((tended_front p (fun j => { j with folded := true }) fun _ _ unfolded =>
      nomatch (unfoldedOf_iff.1 unfolded).1).trans (tended_foldInto (foldSale_nonempty _ _ _) _))
  · exact .refl s

theorem lineCount_onTicket {x : TicketSlot} {f : Ticket → Ticket}
    (same : ∀ k, lineCount k (f (ticket x s)) = lineCount k (ticket x s))
    (k : Nat) (y : TicketSlot) : lineCount k (ticket y (onTicket x f s)) = lineCount k (ticket y s) := by
  rw [ticket_onTicket]
  split
  next e => rw [e, same]
  · rfl

/-- A ticket that is not open written so that it is not open. -/
theorem tended_closedTicket {x : TicketSlot} {f : Ticket → Ticket} (holders : HolderLaw s → HolderLaw (onTicket x f s))
    (was : openTicket (ticket x s) = false) (closed : openTicket (f (ticket x s)) = false) : Tended s (onTicket x f s) :=
  .of_lines holders ⟨rfl, rfl, rfl⟩ fun _ =>
    lineCount_onTicket fun k => by rw [lineCount_closed was, lineCount_closed closed]

theorem tended_endSummary (id : TicketId) : Tended s (endSummary id s) := by
  have holders := (orderly_endSummary (s := s) id).holders
  unfold endSummary at holders ⊢
  dsimp only at holders ⊢
  split
  next closing =>
    rw [if_pos closing] at holders
    have was : openTicket (ticket id.slot s) = false := by
      have state : (ticket id.slot s).state = .closing := by simp_all
      simp [openTicket, state]
    split
    next collects => rw [if_pos collects] at holders; exact tended_closedTicket holders was rfl
    next frees => rw [if_neg frees] at holders; exact tended_closedTicket holders was rfl
  · exact .refl s

theorem tended_jobLeft (c : Content) : Tended s (jobLeft c s) := by
  unfold jobLeft
  split
  · exact tended_endSummary _
  · exact .refl s

theorem tended_completeJob (p : Printer) (j : Job) : Tended s (completeJob p j s) := by
  have left : Tended s (onQueue p List.tail s) :=
    tended_onQueue p _ fun i mem _ unfolded => .inr ⟨i, List.mem_of_mem_tail mem, unfolded⟩
  exact ((left.trans (tended_jobLeft j.content)).trans (tended_onPrinter p _)).trans (tended_startIfIdle p)

theorem tended_countCopies (p : Printer) (n : Nat) : Tended s (countCopies p n s) := by
  have counted (j : Job) : Tended s (onPrinter p (fun c => { c with printed := n }) (foldPack p j s)) :=
    (tended_foldPack p j).trans (tended_onPrinter p _)
  unfold countCopies
  dsimp only
  split
  · exact .refl s
  · exact .ite (.ite ((counted _).trans (tended_completeJob p _))
      ((counted _).trans (tended_front p (fun j => { j with remaining := _ }) fun _ _ => id))) (.refl s)

theorem tended_stopOrRecover (p : Printer) (cond : Condition) : Tended s (stopOrRecover p cond s) := by
  have recovered : Tended s (recoverPrinter p s) := by
    unfold recoverPrinter
    split
    · exact (tended_onPrinter p _).trans (tended_startIfIdle p)
    · exact .ite (tended_onPrinter ..) (tended_onPrinter ..)
  unfold stopOrRecover
  dsimp only
  split
  · exact .ite recovered (.refl s)
  · exact .ite (.refl s) (.of_blocks ⟨rfl, rfl, rfl, rfl, rfl⟩)

theorem tended_takePrinterReport (p : Printer) (r : PrinterReport) : Tended s (takePrinterReport p r s) :=
  .ite (.refl s) ((((tended_onPrinter p _).trans (tended_countCopies p _)).trans (tended_stopOrRecover p _)).trans
    (.ite (tended_onPrinter ..) (.refl _)))

theorem tended_printerOnline (p : Printer) (r : PrinterReport) : Tended s (printerOnline p r s) :=
  ((tended_onPrinter p _).trans (tended_takePrinterReport p r)).trans (tended_startIfIdle p)

end Sys2Proof.Machine
end

section
/-! SUPPORT. Copy lists, captures and channel results: `Tended`, operation by operation. -/

namespace Sys2Proof.Machine

variable {s t : State}

/-! ### One copy list (R74, R76) -/

theorem entryOf_found {n : Nat} {c : CopyList} {e : CopyEntry} (found : entryOf n c = some e) :
    e ∈ c.entries ∧ e.number = n :=
  ⟨List.mem_of_find?_eq_some found, by simpa using List.find?_some found⟩

/-- Entries rewritten in place. -/
theorem copyListLaw_map {c : CopyList} {f : CopyEntry → CopyEntry} (hf : ∀ e, (f e).slot = e.slot ∧ (f e).number = e.number)
    (law : CopyListLaw c) : CopyListLaw { c with entries := c.entries.map f } := by
  obtain ⟨length, slots, numbers⟩ := law
  refine ⟨by simpa using length, ?_, ?_⟩
  · simpa only [List.map_map, Function.comp_def, hf] using slots
  · simpa only [List.map_map, Function.comp_def, hf] using numbers

/-- Fewer entries, in the order they had. -/
theorem copyListLaw_sublist {c d : CopyList} (sub : d.entries.Sublist c.entries) (law : CopyListLaw c) : CopyListLaw d :=
  ⟨sub.length_le.trans law.1, law.2.1.sublist (sub.map _), law.2.2.sublist (sub.map _)⟩

/-- An entry put before others that have neither its slot nor its number. -/
theorem copyListLaw_cons {c d : CopyList} {e : CopyEntry} {es : List CopyEntry} (entries : d.entries = e :: es)
    (sub : es.Sublist c.entries) (room : es.length < Config.copyPlaces) (slot : ∀ x ∈ es, x.slot ≠ e.slot)
    (number : ∀ x ∈ es, x.number ≠ e.number) (law : CopyListLaw c) : CopyListLaw d := by
  obtain ⟨-, slots, numbers⟩ := copyListLaw_sublist (d := ⟨es, []⟩) sub law
  rw [CopyListLaw, entries, List.map_cons, List.map_cons, List.nodup_cons, List.nodup_cons]
  refine ⟨room, ⟨fun mem => ?_, slots⟩, fun mem => ?_, numbers⟩
  · obtain ⟨x, mem, same⟩ := List.mem_map.1 mem
    exact slot x mem same
  · obtain ⟨x, mem, same⟩ := List.mem_map.1 mem
    exact number x mem same

/-- Entries with one slot are one entry. -/
theorem CopyListLaw.eq_of_slot {c : CopyList} (law : CopyListLaw c) {e x : CopyEntry} (he : e ∈ c.entries)
    (hx : x ∈ c.entries)
    (same : x.slot = e.slot) : x = e := List.inj_on_of_nodup_map law.2.1 hx he same

theorem copyListLaw_selectIn (i : Item) {c : CopyList} (law : CopyListLaw c) : CopyListLaw (selectIn i c) := by
  unfold selectIn
  split
  next e found =>
    obtain ⟨mem, number⟩ := entryOf_found found
    have fewer : (c.entries.filter fun x => x.number != i.number).length < c.entries.length :=
      List.length_filter_lt_length_iff_exists.2 ⟨e, mem, by simp [number]⟩
    have other (x : CopyEntry) (hx : x ∈ c.entries.filter fun x => x.number != i.number) :
      x ∈ c.entries ∧ x.number ≠ e.number := by
      simpa [number] using hx
    exact copyListLaw_cons rfl List.filter_sublist (fewer.trans_le law.1)
      (fun x hx same => (other x hx).2 (congrArg CopyEntry.number (law.eq_of_slot mem (other x hx).1 same)))
      (fun x hx => (other x hx).2) law
  next missing =>
    have new := entryOf_none_iff.1 missing
    split
    next room =>
      split
      next slot free =>
        have unused := List.find?_some free
        simp only [Bool.not_eq_true', List.any_eq_false] at unused
        exact copyListLaw_cons rfl (List.Sublist.refl _) room
          (fun x hx same => unused x hx (beq_iff_eq.2 same))
          new law
      · exact law
    · split
      next last ends =>
        have parts : c.entries.dropLast ++ [last] = c.entries := List.dropLast_append_getLast? last ends
        have lastMem : last ∈ c.entries := List.mem_of_getLast? ends
        have slots := law.2.1
        rw [← parts, List.map_append, List.nodup_append] at slots
        have fewer : c.entries.dropLast.length < c.entries.length := by
          rw [List.length_dropLast]
          have := List.length_pos_of_mem lastMem
          omega
        exact copyListLaw_cons rfl (List.dropLast_sublist _) (fewer.trans_le law.1)
          (fun x hx same => slots.2.2 _ (List.mem_map_of_mem hx) last.slot (by simp) same)
          (fun x hx => new x ((List.dropLast_sublist _).subset hx)) law
      · exact law

/-- After a selection each entry stood before or is the new one. -/
theorem mem_selectIn {i : Item} {c : CopyList} {e : CopyEntry} (mem : e ∈ (selectIn i c).entries) :
    e ∈ c.entries ∨ ∃ slot, e = newEntry slot i := by
  unfold selectIn at mem
  split at mem
  next found =>
    rcases List.mem_cons.1 mem with rfl | old
    · exact .inl (entryOf_found found).1
    · exact .inl (List.mem_of_mem_filter old)
  · split at mem
    · split at mem
      · rcases List.mem_cons.1 mem with rfl | old
        · exact .inr ⟨_, rfl⟩
        · exact .inl old
      · exact .inl mem
    · split at mem
      · rcases List.mem_cons.1 mem with rfl | old
        · exact .inr ⟨_, rfl⟩
        · exact .inl ((List.dropLast_sublist _).subset old)
      · exact .inl mem

theorem entryGood_newEntry {i : Item} (found : itemAt i.index s = some i) (active : i.state = .active) (slot : CacheSlot) :
    EntryGood s (newEntry slot i) := ⟨⟨i, found, rfl, active, fun _ => rfl⟩, fun _ none => nomatch none⟩

/-- An ACTIVE record of the table selected at a head. -/
theorem tended_selectItem (h : Head) {i : Item} (mem : i ∈ s.itb.items) (active : i.state = .active) :
    Tended s (selectItem h i s) := by
  have selected : Tended s (onCopies h (selectIn i) s) := by
    refine tended_onCopies h _ (copyListLaw_selectIn i) fun places _ good e he => ?_
    rcases mem_selectIn he with old | ⟨slot, rfl⟩
    · exact good e old
    · exact entryGood_newEntry ((itemAt_iff places).2 ⟨mem, rfl⟩) active slot
  unfold selectItem
  exact .ite (selected.trans tended_examineWatch) selected

theorem entryGood_age {e : CopyEntry} (good : EntryGood s e) : EntryGood s (ageEntry e) := by
  obtain ⟨record, age⟩ := good
  unfold ageEntry
  split
  next sending =>
    refine ⟨record, fun a aged => ⟨sending, ?_⟩⟩
    obtain ⟨b, -, rfl⟩ := Option.map_eq_some_iff.1 aged
    exact Nat.min_le_right ..
  · exact ⟨record, age⟩
  · exact ⟨record, age⟩

theorem ageEntry_fields (e : CopyEntry) : (ageEntry e).slot = e.slot ∧ (ageEntry e).number = e.number := by
  unfold ageEntry
  split <;> exact ⟨rfl, rfl⟩

/-- Entries rewritten in place, each as good as before. -/
theorem tended_mapEntries (h : Head) {f : CopyEntry → CopyEntry} (hf : ∀ e, (f e).slot = e.slot ∧ (f e).number = e.number)
    (good : CopyListLaw (copies h s) → ∀ e ∈ (copies h s).entries, EntryGood s e → EntryGood s (f e)) :
    Tended s (onCopies h (fun c => { c with entries := c.entries.map f }) s) := by
  refine tended_onCopies h _ (copyListLaw_map hf) fun _ law goods e mem => ?_
  obtain ⟨x, old, rfl⟩ := List.mem_map.1 mem
  exact good law x old (goods x old)

theorem tended_ageCopies : Tended s (ageCopies s) :=
  .foldl (fun _ a => tended_mapEntries a ageEntry_fields fun _ _ _ => entryGood_age) _ s

/-- What an acknowledgement makes of an entry (R80). -/
theorem tended_ackIn (h : Head) (a : Ack) : Tended s (onCopies h (ackIn a) s) := by
  refine tended_mapEntries h (fun e => ?_) fun _ e _ good => ?_
  · split <;> exact ⟨rfl, rfl⟩
  · split
    next acknowledged =>
      obtain ⟨⟨i, found, number, active, version⟩, -⟩ := good
      have sending : e.state = .sending := by simp_all [acked]
      exact ⟨⟨i, found, number, active, fun _ => version (by rw [sending]; exact nofun)⟩, fun _ none => nomatch none⟩
    · exact good

theorem pushChoice_mem {requested : Option Nat} {c : CopyList} {e : CopyEntry} (choice : pushChoice requested c = some e) :
    e ∈ c.entries := by
  simp only [pushChoice, Option.orElse_eq_orElse, Option.orElse_eq_or, Option.or_eq_some_iff] at choice
  rcases choice with first | ⟨-, stale | ⟨-, sending⟩⟩
  · cases requested with
    | none => cases first
    | some n => exact (entryOf_found (Option.filter_eq_some_iff.1 first).1).1
  · exact List.mem_of_find?_eq_some stale
  · exact List.mem_of_find?_eq_some sending

/-- The copy operation of a HEAD_UPDATE (R78, R79): a push gives the entry its record's version. -/
theorem tended_copyOperation (h : Head) : Tended s (copyOperation h s).2 := by
  unfold copyOperation
  dsimp only
  split
  · exact tended_onCopies h _ id fun _ _ => id
  · split
    · exact .refl s
    next e choice =>
      split
      · exact .refl s
      next i found =>
        refine tended_mapEntries h (fun x => ?_) fun law x mem good => ?_
        · split <;> exact ⟨rfl, rfl⟩
        · split
          next same =>
            have chosen := law.eq_of_slot (pushChoice_mem choice) mem (by simpa using same)
            subst chosen
            obtain ⟨⟨j, foundJ, number, active, -⟩, -⟩ := good
            obtain rfl : i = j := Option.some.inj (found.symm.trans foundJ)
            exact ⟨⟨i, found, number, active, fun _ => rfl⟩, fun a age => ⟨rfl, by cases age; exact Nat.zero_le _⟩⟩
          · exact good

end Sys2Proof.Machine
end

section
/-! SUPPORT. Captures, channel results, tickets and keys: `Tended`, operation by operation. -/

namespace Sys2Proof.Machine

variable {s t : State}

/-! ### Messages and requests -/

theorem tended_setMessage (h : Head) (code : Code) : Tended s (setMessage h code s) := tended_onCtx h _ rfl

theorem tended_refuseRequest (h : Head) (code : Code) : Tended s (refuseRequest h code s) :=
  (tended_onCtx h withoutRequest rfl).trans (tended_setMessage h code)

theorem tended_cancelRequest (h : Head) (code : Code) : Tended s (cancelRequest h code s) :=
  .ite (tended_refuseRequest h code) (.refl s)

/-! ### Captures (R44 to R48) -/

theorem openTicket_lineRoom {id : TicketId} (room : lineRoom id s = true) : openTicket (ticket id.slot s) = true := by
  simp only [lineRoom, Bool.and_eq_true, beq_iff_eq] at room
  exact openTicket_of_held room.1.1

/-- A line appended to an open ticket counts in its record (R108, R71). -/
theorem tended_appendLine {x : TicketSlot} {l : Line} (opened : openTicket (ticket x s) = true)
    (record : (itemAt l.index s).isSome) : Tended s (appendLine x l s) := by
  have items : (appendLine x l s).itb.items = s.itb.items.map (countRecord (· + 1) l.index) := rfl
  have calm : Calm s (appendLine x l s) := (calm_onTicket x _ rfl).trans (calm_onItems _)
  refine ⟨.of_map (fun i => (countRecord_core _ _ i).1) (fun i => (countRecord_core _ _ i).2.1) (fun i _ _ kept => ?_)
    items rfl, calm.holderLaw, fun _ law => refsLaw_iff.2 fun k => ?_,
    packsLaw_congr (fun k => by rw [isSome_itemAt_map (countRecord_index _ _) items]; exact id) rfl⟩
  · rw [(countRecord_core _ _ i).2.2]
    unfold countRecord
    split
    · exact .inl (Nat.succ_ne_zero _)
    · exact kept
  · have changed := openLines_change (s := s) (t := appendLine x l s) (k := k) x fun y ne => ticket_onTicket_ne _ _ ne
    have line : ticket x (appendLine x l s) = { ticket x s with
      lines := (ticket x s).lines ++ [l], total := (ticket x s).total + l.amount, idle := 0 } := ticket_onTicket_same ..
    rw [line, lineCount_open opened, lineCount_open (by exact opened), List.countP_append, List.countP_singleton] at changed
    have before := refsLaw_iff.1 law k
    rw [refsAt_countRecord items]
    obtain ⟨i, found⟩ := Option.isSome_iff_exists.1 record
    by_cases e : k = l.index
    · subst e
      simp only [refsAt, found, Option.map_some, Option.getD_some, BEq.rfl, if_true] at before changed ⊢
      omega
    · simp only [if_neg e, beq_eq_false_iff_ne.2 (Ne.symm e), Bool.false_eq_true, if_false] at changed ⊢
      omega

theorem tended_queueAtHead (h : Head) {content : Content}
    (record : ∀ l f, content = .prepack l f → (itemAt f.index s).isSome) :
    Tended s (queueAtHead h content s) :=
  have queued := tended_queueJob (settings h s).printer (some h) 1 record
  .ite (queued.trans (tended_setMessage h _)) queued

theorem tended_lockFor (k : Capture) : Tended s (lockFor k s) := by
  unfold lockFor
  split
  · exact tended_onChan ..
  · exact .refl s
  · exact .refl s

/-- What a capture records names the record of its item. -/
theorem itemAt_lockFor (k : Capture) (n : Nat) : itemAt n (lockFor k s) = itemAt n s := itemAt_congr (by simp) n

theorem ticket_lockFor (k : Capture) (x : TicketSlot) : ticket x (lockFor k s) = ticket x s := by
  rw [ticket, show (lockFor k s).tkp = s.tkp by simp]
  rfl

theorem tended_completeLine {k : Capture} {id : TicketId} (opened : openTicket (ticket id.slot s) = true)
    (record : (itemAt k.item.index s).isSome) : Tended s (completeLine k id s) := by
  have appended (position : Nat) (u : State) : Tended s (appendLine id.slot (lineOf k position u) (lockFor k s)) :=
    (tended_lockFor k).trans (tended_appendLine (by rwa [ticket_lockFor]) (by rwa [lineOf, itemAt_lockFor]))
  have printed (u : State) : Tended u (if (settings k.head u).lineLabels then
      queueAtHead k.head (.item (labelOf k u)) u else u) := .ite (tended_queueAtHead _ nofun) (.refl u)
  exact (((appended _ _).trans (tended_onCtx k.head _ rfl)).trans (printed _)).trans (tended_onCtx k.head _ rfl)

theorem tended_countBatch (h : Head) : Tended s (countBatch h s) := by
  unfold countBatch
  split
  · exact .ite ((tended_onCtx h _ rfl).trans (tended_setMessage h _)) (tended_onCtx h _ rfl)
  · exact .refl s
  · exact .refl s

theorem tended_completeLabel {k : Capture} (purpose : Purpose) (record : (itemAt k.item.index s).isSome) :
    Tended s (completeLabel k purpose s) := by
  have queued : Tended s (queueAtHead k.head (.prepack (labelOf k (lockFor k s)) (foldOf k (lockFor k s)))
    (lockFor k s)) := by
    refine (tended_lockFor k).trans (tended_queueAtHead _ fun l f content => ?_)
    obtain ⟨-, rfl⟩ := Content.prepack.inj content
    rwa [foldOf, itemAt_lockFor]
  unfold completeLabel
  dsimp only
  split
  · exact (queued.trans (tended_countBatch _)).trans (tended_onCtx _ _ rfl)
  · exact queued.trans (tended_onCtx _ _ rfl)
  · exact queued.trans (tended_onCtx _ _ rfl)

theorem tended_finish {k : Capture} (q : Request) (record : (itemAt k.item.index s).isSome) : Tended s (finish k q s) := by
  unfold finish
  dsimp only
  split
  next id _ _ =>
    split
    · exact .refl s
    next room =>
      exact .ite (tended_refuseRequest ..) (.ite (tended_refuseRequest ..)
        (tended_completeLine (openTicket_lineRoom (by simpa using room)) record))
  · exact .refl s
  · exact .ite (tended_refuseRequest ..) (tended_completeLabel _ record)

theorem tended_complete (h : Head) (q : Request) {i : Item} (record : (itemAt i.index s).isSome) :
    Tended s (complete h q i s) := by
  unfold complete
  dsimp only
  split
  · exact .refl s
  split
  · exact tended_refuseRequest ..
  · exact tended_finish q record

/-- The record of a CURRENT copy stands in the table. -/
theorem itemAt_currentCopy {h : Head} {n : Nat} {i : Item} (current : currentCopy h n s = some i) :
    (itemAt i.index s).isSome := by
  unfold currentCopy at current
  split at current
  · split at current
    · rw [(itemAt_found current).2, current]
      rfl
    · cases current
  · cases current

theorem tended_examine (h : Head) : Tended s (examine h s) := by
  unfold examine
  split
  · exact .refl s
  split
  · exact .refl s
  next current => exact .ite (tended_complete h _ (itemAt_currentCopy current)) (.refl s)

/-- A request for an ACTIVE record of the table (R42, R50). -/
theorem tended_makeRequest (h : Head) {i : Item} (q : Request) (mem : i ∈ s.itb.items) (active : i.state = .active) :
    Tended s (makeRequest h i q s) := by
  have asked : Tended s (onCtx h (fun c => { c with request := some q }) s) := tended_onCtx h _ rfl
  exact (asked.trans (tended_selectItem h mem active)).trans (tended_examine h)

/-- ITEM accepts an ACTIVE record of the table. -/
theorem judgeItem_active {h : Head} {n : Nat} {i : Item} (ok : judgeItem h n s = .ok i) :
    i ∈ s.itb.items ∧ i.state = .active := by
  unfold judgeItem at ok
  split at ok
  · cases ok
  split at ok
  · cases ok
  split at ok
  · cases ok
  next j found =>
    split at ok
    · cases ok
    next sold =>
      have active : j.state = .active := by
        cases state : j.state with
        | active => rfl
        | withdrawn => simp [state] at sold
      split at ok
      · cases ok
      · split at ok
        · cases ok
        · cases ok
          exact ⟨(findItem_found found).1, active⟩

theorem tended_askItem (h : Head) (n : Nat) : Tended s (askItem h n s) := by
  unfold askItem
  split
  · exact tended_setMessage ..
  next i ok =>
    obtain ⟨mem, active⟩ := judgeItem_active ok
    have taken : Tended s (takenItem h n s) := by
      unfold takenItem
      split
      · exact tended_onCtx h _ rfl
      · exact tended_onCtx h _ rfl
      · exact .refl s
    have items : (takenItem h n s).itb.items = s.itb.items := by simp
    exact taken.trans (tended_makeRequest h _ (by rwa [items]) active)

/-- An automatic request is made for an ACTIVE record of the table (R50). -/
theorem autoItem_active {h : Head} {r : ChanResult} {i : Item} (auto : autoItem h r s = some i) :
    i ∈ s.itb.items ∧ i.state = .active := by
  unfold autoItem at auto
  dsimp only at auto
  split at auto
  · obtain ⟨selected, conditions⟩ := Option.filter_eq_some_iff.1 auto
    obtain ⟨n, -, found⟩ := Option.bind_eq_some_iff.1 selected
    simp only [Bool.and_eq_true, beq_iff_eq] at conditions
    exact ⟨(findItem_found found).1, conditions.1⟩
  · cases auto

theorem tended_handResult (h : Head) (r : ChanResult) (fault newOver : Bool) :
    Tended s (handResult h r fault newOver s) := by
  have taken : Tended s (resultTaken h r fault newOver s) := by
    have cell : Tended s (if fault then cancelRequest h .cell s else s) := .ite (tended_cancelRequest ..) (.refl s)
    exact (cell.trans (.ite (tended_cancelRequest ..) (.refl _))).trans (.ite (tended_onCtx h _ rfl) (.refl _))
  have judged (waiting : Bool) (u : State) : Tended u (resultJudged h r waiting u) := by
    refine .ite (tended_examine h) ?_
    split
    next i auto =>
      obtain ⟨mem, active⟩ := autoItem_active auto
      exact tended_makeRequest h _ mem active
    · exact .refl u
  rw [handResult_eq]
  exact (taken.trans (judged ..)).trans (tended_recompose h)

theorem tended_takeSample (h : Head) (raw : Int) : Tended s (takeSample h raw s) := by
  unfold takeSample
  split
  · exact .refl s
  · have low (b : Bool) (u : State) : Tended u (if b then flagZeroLimit h u else u) := .ite (tended_latch _) (.refl u)
    have fault (b : Bool) (u : State) : Tended u (if b then flagCellFault h u else u) := .ite (tended_latch _) (.refl u)
    exact (((tended_onChan h _).trans (low ..)).trans (fault ..)).trans (tended_handResult ..)

theorem tended_takeHanded (h : Head) (p : Int → Bool) : Tended s (takeHanded h p s) := by
  unfold takeHanded
  split
  · exact .refl s
  · exact .ite ((tended_onInbox h _).trans (tended_takeSample ..)) (.refl s)

theorem tended_restart (h : Head) : Tended s (restart h s) :=
  .ite ((tended_onChan h _).trans (tended_handResult ..)) (tended_onChan h _)

theorem tended_goIdle (h : Head) : Tended s (goIdle h s) := (tended_onChan h _).trans (tended_handResult ..)

theorem tended_takeAck (h : Head) (a : Ack) : Tended s (takeAck h a s) := by
  unfold takeAck
  dsimp only
  split
  · exact .refl s
  · exact ((tended_ackIn h a).trans (.ite (tended_examine h) (.refl _))).trans tended_examineWatch

theorem tended_frameHead (h : Head) : Tended s (frameHead h s) := .of_tickets (calm_frameHead h).holderLaw (by simp)

/-! ### Tickets let go (R109, R110, R114, R117 to R119) -/

/-- A ticket parked out of HELD is open as before, with its lines. -/
theorem lineCount_park (k : Nat) {x : Ticket} (held : x.state = .held) :
    lineCount k { x with state := .parked, holder := none, idle := 0 } = lineCount k x := by
  simp [lineCount, openTicket, held]

/-- A head leaves the ticket it holds, which is parked. -/
theorem tended_park {h : Head} {id : TicketId} (held : (ctx h s).held = some id) :
    Tended s (leaveTicket h id (parkRecord id.slot s)) :=
  .of_lines (orderly_park held).holders ⟨rfl, rfl, rfl⟩ fun law =>
    lineCount_onTicket fun k => lineCount_park k (law.holder held).2.2

theorem tended_idlePark (x : TicketSlot) : Tended s (idlePark x s) := by
  refine .of_lines (orderly_idlePark x).holders (by simp) fun law => ?_
  unfold idlePark
  dsimp only
  split
  next h holder =>
    have state : (ticket x s).state = .held := (law.2.1 x).2 (by rw [holder]; rfl)
    exact lineCount_onTicket fun k => lineCount_park k state
  · exact fun _ _ => rfl

theorem tended_frameTicket (x : TicketSlot) : Tended s (frameTicket x s) :=
  .ite (.refl s) (.ite (tended_idlePark x) (tended_onTicket x _ rfl rfl))

theorem tabled_onTicket (x : TicketSlot) (f : Ticket → Ticket) (s : State) : Tabled s (onTicket x f s) := .of_blocks rfl rfl

/-- A head that leaves its ticket writes neither records nor queues nor lines. -/
theorem tabled_leaveTicket (h : Head) (id : TicketId) (s : State) : Tabled s (leaveTicket h id s)
    ∧ (RefsLaw s → RefsLaw (leaveTicket h id s)) ∧ (PacksLaw s → PacksLaw (leaveTicket h id s)) :=
  ⟨.of_blocks rfl rfl, fun law => law, fun law => law⟩

/-- A ticket without its newest line `l` (R109). -/
def lineDropped (l : Line) (x : Ticket) : Ticket := { x with lines := x.lines.dropLast, total := x.total - l.amount }

theorem voidNewest_some {x : TicketSlot} {l : Line} (newest : (ticket x s).lines.getLast? = some l) :
    voidNewest x s = releaseRef l.index (onTicket x (lineDropped l) (foldLineVoid l s)) := by
  rw [voidNewest, newest]
  rfl

/-- The release that ends the void of a line purges nothing, as the line was folded. -/
theorem walked_voided (x : TicketSlot) (l : Line) : Walked [l] (onTicket x (lineDropped l) (foldLineVoid l s))
    (releaseRef l.index (onTicket x (lineDropped l) (foldLineVoid l s))) :=
  walked_releaseRef (acc_foldInto (foldVoid_nonempty l.amount) (lineKeys l))

theorem ticket_foldLineVoid (l : Line) (y : TicketSlot) : ticket y (foldLineVoid l s) = ticket y s := by
  rw [ticket, show (foldLineVoid l s).tkp = s.tkp by simp]
  rfl

theorem ticket_voided (x : TicketSlot) (l : Line) (y : TicketSlot) :
    ticket y (releaseRef l.index (onTicket x (lineDropped l) (foldLineVoid l s)))
      = if y = x then lineDropped l (ticket x s) else ticket y s := by
  rw [ticket, (walked_voided x l).tickets, ← ticket_foldLineVoid l x, ← ticket_foldLineVoid l y]
  exact ticket_onTicket ..

/-- An open ticket without its newest line counts that line less. -/
theorem lineCount_lineDropped {x : Ticket} {l : Line} (opened : openTicket x = true) (newest : x.lines.getLast? = some l)
    (k : Nat) : lineCount k x = lineCount k (lineDropped l x) + [l].countP (·.index == k) := by
  have lines : x.lines.dropLast ++ [l] = x.lines := List.dropLast_append_getLast? l newest
  rw [lineCount_open opened, lineCount_open (show openTicket (lineDropped l x) = true from opened), lineDropped,
    ← List.countP_append, lines]

/-- The newest line of an open ticket voided (R109). -/
theorem tended_voidNewest {x : TicketSlot} (opened : HolderLaw s → openTicket (ticket x s) = true) :
    Tended s (voidNewest x s) := by
  have calm := calm_voidNewest (s := s) x
  cases newest : (ticket x s).lines.getLast? with
  | none =>
    rw [voidNewest, newest]
    exact .refl s
  | some l =>
    rw [voidNewest_some newest] at calm ⊢
    have folded := tended_foldInto (s := s) (foldVoid_nonempty l.amount) (lineKeys l)
    have walked := walked_voided (s := s) x l
    refine ⟨(folded.toTabled.trans (tabled_onTicket ..)).trans walked.toTabled, calm.holderLaw, fun holders law => ?_,
      fun law => walked.packs (folded.packs law)⟩
    refine refsLaw_iff.2 fun k => ?_
    have refs : refsAt k (onTicket x (lineDropped l) (foldLineVoid l s)) = refsAt k s :=
      refsAt_map (foldRecord_index _ _) (fun i => (foldRecord_core _ _ i).2.2) (items_foldInto _ _ _) k
    have changed := openLines_change (k := k) x fun y ne => (ticket_voided (s := s) x l y).trans (if_neg ne)
    have before := refsLaw_iff.1 law k
    rw [ticket_voided, if_pos rfl, lineCount_lineDropped (opened holders) newest] at changed
    rw [walked.refs, refs, before]
    omega

theorem tended_voidLast {h : Head} {id : TicketId} (held : (ctx h s).held = some id) : Tended s (voidLast h id s) := by
  have voided := tended_voidNewest (s := s) (x := id.slot) fun law => openTicket_of_held (law.holder held).2.2
  unfold voidLast
  split
  · exact tended_setMessage ..
  · exact .ite (voided.trans (tended_onCtx h _ rfl)) (tended_setMessage ..)

/-- The void of a ticket: its lines walked, its record FREE. -/
theorem walked_voidRecord (x : TicketSlot) : Walked (ticket x s).lines (onTicket x (fun k => { k with holder := none }) s)
    (walkLines foldLineVoid (ticket x s).lines (onTicket x (fun k => { k with holder := none }) s)) := walked_void ..

theorem tabled_voidRecord (x : TicketSlot) : Tabled s (voidRecord x s) :=
  (tabled_onTicket x _ s).trans ((walked_voidRecord x).toTabled.trans (tabled_onTicket ..))

theorem packs_voidRecord (x : TicketSlot) (law : PacksLaw s) : PacksLaw (voidRecord x s) := (walked_voidRecord x).packs law

theorem refs_voidRecord {x : TicketSlot} (opened : openTicket (ticket x s) = true) (law : RefsLaw s) :
    RefsLaw (voidRecord x s) := by
  have walked := walked_voidRecord (s := s) x
  refine refsLaw_of_walk opened walked.refs (fun y ne => ?_) ?_ law
  · refine (ticket_onTicket_ne _ _ ne).trans ?_
    rw [ticket, walked.tickets]
    exact ticket_onTicket_ne _ _ ne
  · rw [voidRecord, freeRecord, ticket_onTicket_same]
    rfl

/-- A head leaves the ticket it holds, whose record is voided or closed. -/
theorem tended_leave {h : Head} {id : TicketId} (tabled : Tabled s t)
    (holders : HolderLaw s → HolderLaw (leaveTicket h id t))
    (refs : HolderLaw s → RefsLaw s → RefsLaw t) (packs : PacksLaw s → PacksLaw t) : Tended s (leaveTicket h id t) := by
  obtain ⟨left, leftRefs, leftPacks⟩ := tabled_leaveTicket h id t
  exact ⟨tabled.trans left, holders, fun law counts => leftRefs (refs law counts), fun law => leftPacks (packs law)⟩

theorem tended_void {h : Head} {id : TicketId} (held : (ctx h s).held = some id) :
    Tended s (leaveTicket h id (voidRecord id.slot s)) :=
  tended_leave (tabled_voidRecord _) (orderly_void held).holders
    (fun law => refs_voidRecord (openTicket_of_held (law.holder held).2.2)) (packs_voidRecord _)

/-- A ticket record CLOSING, before its lines are walked. -/
def closingRecord (x : TicketSlot) (s : State) : State :=
  onTicket x (fun k => { k with state := .closing, holder := none }) s

/-- What the close of a ticket walks. -/
theorem walked_closeRecord (x : TicketSlot) : Walked (ticket x s).lines (closingRecord x s)
    (walkLines foldLineSale (ticket x s).lines (closingRecord x s)) := walked_sale ..

theorem tended_queueSummary (p : Printer) (h : Head) (l : SummaryLabel) : Tended s (queueJob p (some h) 1 (.summary l) s) :=
  tended_queueJob _ _ _ nofun

theorem tabled_closeRecord (x : TicketSlot) (h : Head) (p : Printer) : Tabled s (closeRecord x h p s) :=
  (tabled_onTicket x _ s).trans ((walked_closeRecord x).toTabled.trans
    ((tended_queueSummary p h _).toTabled.trans (tabled_onTicket ..)))

theorem packs_closeRecord (x : TicketSlot) (h : Head) (p : Printer) (law : PacksLaw s) : PacksLaw (closeRecord x h p s) :=
  (tended_queueSummary p h _).packs ((walked_closeRecord x).packs law)

theorem closeRecord_eq (x : TicketSlot) (h : Head) (p : Printer) (s : State) : closeRecord x h p s =
    onTicket x (fun k =>
        { k with job := some ⟨p, freshTag (walkLines foldLineSale (ticket x s).lines (closingRecord x s))⟩ })
      (queueJob p (some h) 1 (.summary (summaryOf x s))
        (walkLines foldLineSale (ticket x s).lines (closingRecord x s))) := rfl

/-- What the close of a ticket makes of the tickets. -/
theorem ticket_closeRecord (x : TicketSlot) (h : Head) (p : Printer) (s : State) (y : TicketSlot) :
    ticket y (closeRecord x h p s)
    = if y = x then { ticket x s with
        state := .closing, holder := none, job := (ticket x (closeRecord x h p s)).job } else ticket y s := by
  have queued (u : State) (y : TicketSlot) : ticket y (queueJob p (some h) 1 (.summary (summaryOf x s)) u) = ticket y u := by
    rw [ticket, show (queueJob p (some h) 1 (.summary (summaryOf x s)) u).tkp = u.tkp by simp]
    rfl
  have walked (y : TicketSlot) : ticket y (walkLines foldLineSale (ticket x s).lines (closingRecord x s))
    = ticket y (closingRecord x s) := by
    rw [ticket, (walked_closeRecord x).tickets]
    rfl
  rw [closeRecord_eq, ticket_onTicket, ticket_onTicket_same, queued, queued, walked, walked]
  split
  · rw [closingRecord, ticket_onTicket_same]
  next ne => exact ticket_onTicket_ne _ _ ne

theorem refs_closeRecord {x : TicketSlot} (h : Head) (p : Printer) (opened : openTicket (ticket x s) = true)
    (law : RefsLaw s) :
    RefsLaw (closeRecord x h p s) := by
  have items : (closeRecord x h p s).itb.items = (walkLines foldLineSale (ticket x s).lines
    (closingRecord x s)).itb.items := by simp [closeRecord, closingRecord]
  have refs (k : Nat) : refsAt k (closingRecord x s) = refsAt k s := refsAt_congr rfl k
  refine refsLaw_of_walk opened (fun k => by rw [refsAt_congr items, (walked_closeRecord x).refs, refs])
    (fun y ne => (ticket_closeRecord ..).trans (if_neg ne)) ?_ law
  rw [ticket_closeRecord, if_pos rfl]
  rfl

theorem tended_totalTicket {h : Head} {id : TicketId} (held : (ctx h s).held = some id) : Tended s (totalTicket h id s) := by
  have closed : Tended s (leaveTicket h id (closeRecord id.slot h (settings h s).printer s)) :=
    tended_leave (tabled_closeRecord ..)
      (orderly_leave held (fun _ => letGo_closeRecord ..) fun g => (calm_closing ..).heads g).holders
      (fun law => refs_closeRecord _ _ (openTicket_of_held (law.holder held).2.2)) (packs_closeRecord _ _ _)
  exact .ite (tended_setMessage ..) (.ite (tended_setMessage ..) (.ite (closed.trans (tended_setMessage ..)) closed))

end Sys2Proof.Machine
end

section
/-! SUPPORT. Sign-on, service numbers, keys and the counter link: `Tended`, operation by operation. -/

namespace Sys2Proof.Machine

variable {s t : State}

/-! ### Sign-on and sign-off (R35, R36) -/

theorem tkp_signOff {h : Head} {op : Operator} (signed : (ctx h s).operator = some op) :
    (signOff h s).tkp = (ticketBack (ctx h s).held s).tkp := by
  rw [signOff_parts signed]
  cases (ctx h s).nowServing <;> rfl

/-- A ticket parked by the sign-off of its head keeps its lines. -/
theorem lineCount_signOff (h : Head) (law : HolderLaw s) (k : Nat) (x : TicketSlot) :
    lineCount k (ticket x (signOff h s)) = lineCount k (ticket x s) := by
  cases signed : (ctx h s).operator with
  | none => rw [signOff_none signed]
  | some op =>
    rw [ticket, tkp_signOff signed]
    cases held : (ctx h s).held with
    | none => rfl
    | some id => exact lineCount_onTicket (fun k => lineCount_park k (law.holder held).2.2) k x

theorem tended_signOff (h : Head) : Tended s (signOff h s) :=
  .of_lines (orderly_signOff h).holders (by simp) (lineCount_signOff h)

theorem tended_loseContext (h : Head) : Tended s (loseContext h s) :=
  .of_lines (orderly_loseContext h).holders (by simp) (lineCount_signOff h)

theorem tended_changeRole (h : Head) : Tended s (changeRole h s) := (tended_signOff h).trans (tended_onCtx h _ rfl)

theorem tended_signOn (h : Head) (op : Operator) : Tended s (signOn h op s) :=
  .of_tickets (orderly_signOn h op).holders ⟨rfl, rfl, rfl, rfl⟩

theorem tended_signOnKey (h : Head) (n : Nat) : Tended s (signOnKey h n s) := by
  have moved (h' : Head) (parked : Bool) (u : State) : Tended u (movedMessage h' parked u) :=
    .ite (tended_setMessage ..) (.refl u)
  unfold signOnKey
  split
  · exact tended_setMessage ..
  · split
    · exact (tended_signOff h).trans (tended_signOn ..)
    · exact .ite (.refl s)
        ((((tended_signOff _).trans (tended_signOff h)).trans (moved ..)).trans (tended_signOn ..))

/-! ### Tickets opened and picked (R107, R115) -/

theorem tended_openWith_none {h : Head} {op : Operator} {n : Nat} (full : freeSlot s = none) :
    Tended s (openWith h op n s) := by
  rw [openWith_none full]
  exact tended_setMessage ..

/-- A ticket opened has no lines, and none were counted in the FREE record. -/
theorem lineCount_opened {h : Head} {op : Operator} {n : Nat} {x : TicketSlot} (free : (ticket x s).state = .free) (k : Nat)
    (y : TicketSlot) : lineCount k (ticket y (opened h op n x s)) = lineCount k (ticket y s) := by
  have was : lineCount k (ticket x s) = 0 := lineCount_closed (by simp [openTicket, free]) k
  by_cases e : y = x
  · subst e
    have record : ticket y (opened h op n y s)
        = ⟨(ticket y s).serial + 1, .held, some n, some h, some h, some op, 0, [], 0, none⟩ := ticket_onTicket_same s y _
    rw [record, was]
    rfl
  · exact congrArg (lineCount k) (ticket_onTicket_ne s _ e)

theorem tended_openWith {h : Head} {op : Operator} {n : Nat} (noTicket : (ctx h s).held = none)
    (operator : (ctx h s).operator.isSome) : Tended s (openWith h op n s) := by
  cases free : freeSlot s with
  | none => exact tended_openWith_none free
  | some x =>
    rw [openWith_some free]
    have state := freeSlot_free free
    exact .of_lines (holderLaw_opened state noTicket operator) ⟨rfl, rfl, rfl⟩ fun _ => lineCount_opened state

theorem tended_openKey (h : Head) : Tended s (openKey h s) := by
  have advanced : Tended s (advanceNumber s) := tended_onSnu _
  unfold openKey
  split
  · exact .refl s
  next op signed =>
    have operator : (ctx h s).operator.isSome := by rw [signed]; rfl
    split
    · exact tended_setMessage ..
    next idle =>
      have noTicket := service_serving_of_held operator (by simpa using idle)
      refine .ite (tended_setMessage ..) ?_
      split
      · exact tended_openWith noTicket operator
      · exact .ite (tended_setMessage ..) (advanced.trans (tended_openWith noTicket operator))

theorem lineCount_pick (k : Nat) {x : Ticket} (h : Head) (parked : x.state = .parked) :
    lineCount k { x with state := .held, holder := some h, idle := 0 } = lineCount k x := by
  simp [lineCount, openTicket, parked]

theorem tended_pickKey {h : Head} (operator : (ctx h s).operator.isSome) (n : Nat) : Tended s (pickKey h n s) := by
  unfold pickKey
  split
  · exact tended_setMessage ..
  next idle =>
    simp only [Bool.or_eq_true, not_or, beq_iff_eq] at idle
    split
    · exact tended_setMessage ..
    · split
      next parked =>
        have parked := beq_iff_eq.1 parked
        exact .of_lines (orderly_pick parked (service_serving_of_held operator idle.1) operator).holders ⟨rfl, rfl, rfl⟩
          fun _ => lineCount_onTicket fun k => lineCount_pick k h parked
      · exact tended_setMessage ..

/-! ### Keys (R33 to R49) -/

theorem tended_takeKey {k : KeyKind} {h : Head} {act : Nat → State → State}
    (ha : ∀ n u, (takenOff k = false → (ctx h u).operator.isSome) → Tended u (act n u)) :
    Tended s (takeKey k h act s) := by
  have passed (n : Nat) (u : State) : Tended u (gate k h (act n) u) := by
    have before : Tended u (keyAtTicket h (clearMessage h u)) := by
      refine (tended_onCtx h (fun c => { c with message := none }) rfl).trans ?_
      unfold keyAtTicket
      split
      · exact tended_onTicket _ _ rfl rfl
      · exact .refl _
    unfold gate
    dsimp only
    split
    · exact .refl u
    split
    · exact before.trans (tended_setMessage ..)
    next signed =>
      refine .ite (before.trans (ha _ _ fun off => ?_)) before
      rw [off] at signed
      cases operator : (ctx h (keyAtTicket h (clearMessage h u))).operator with
      | none => simp [service, serviceOf, operator] at signed
      | some op => rfl
  unfold takeKey
  split
  · exact .refl s
  · exact .ite ((tended_onInbox h _).trans (passed ..)) (.refl s)

theorem tended_countKey (h : Head) (n : Nat) : Tended s (countKey h n s) :=
  .ite (tended_setMessage ..) (.ite (tended_onCtx h _ rfl) (.ite (tended_onCtx h _ rfl) (tended_onCtx h _ rfl)))

theorem tended_labelKey (h : Head) : Tended s (labelKey h s) := by
  refine .ite (.ite (tended_setMessage ..) ?_) (.ite (tended_setMessage ..) (tended_onCtx h _ rfl))
  split
  · exact tended_askItem ..
  · exact tended_setMessage ..

theorem tended_batchKey (h : Head) (n : Nat) : Tended s (batchKey h n s) :=
  .ite (tended_setMessage ..) (tended_onCtx h _ rfl)

theorem tended_clearKey (h : Head) : Tended s (clearKey h s) :=
  (tended_onCtx h withoutRequest rfl).trans (tended_onCtx h _ rfl)

theorem tended_weighingKey (h : Head) (r : Except Code Channel) : Tended s (weighingKey h r s) := by
  unfold weighingKey
  split
  · exact tended_onChan ..
  · exact tended_setMessage ..

theorem tended_nextKey (h : Head) : Tended s (nextKey h s) := .of_tickets (orderly_nextKey h).holders (by simp)

theorem tended_skipKey (h : Head) : Tended s (skipKey h s) := .of_tickets (orderly_skipKey h).holders (by simp)

theorem tended_withTicket {h : Head} {f : TicketId → State → State}
    (hf : ∀ id, (ctx h s).held = some id → Tended s (f id s)) : Tended s (withTicket h f s) := by
  unfold withTicket
  split
  · exact tended_setMessage ..
  next id held => exact hf id held

/-! ### The dispenser, presence and reports (R176 to R189) -/

theorem tended_takeCounter (c : Byte) : Tended s (takeCounter c s) := .of_tickets (orderly_takeCounter c).holders (by simp)

theorem tended_countError (i : Slot) : Tended s (countError i s) := .ite (.refl s) (tended_onSlot ..)

/-- A copy list emptied. -/
theorem tended_clearCopies (h : Head) (drops : List CacheSlot) : Tended s (onCopies h (fun _ => ⟨[], drops⟩) s) :=
  tended_onCopies h _ (fun _ => ⟨Nat.zero_le _, List.nodup_nil, List.nodup_nil⟩) fun _ _ _ _ mem => nomatch mem

theorem tended_ownersLose (i : Slot) : Tended s (ownersLose i s) := by
  have lost (h : Head) : Tended s (loseContext h (flagHeadLost h (onHeadLink h (fun _ => resetHeadLink) s))) :=
    ((tended_onHeadLink h _).trans (tended_latch _)).trans (tended_loseContext h)
  unfold ownersLose
  split
  · exact (lost _).trans (((tended_goIdle _).trans (tended_clearCopies _ _)).trans tended_examineWatch)
  · exact (tended_latch _).trans (tended_onPrinter _ _)
  · exact (tended_latch _).trans (tended_onSnu _)

theorem tended_loseSlot (p : Presence) (i : Slot) : Tended s (loseSlot p i s) :=
  (tended_onSlot i _).trans (tended_ownersLose i)

theorem tended_ownersJoin (i : Slot) : Tended s (ownersJoin i s) := by
  unfold ownersJoin
  split
  · exact ((tended_onHeadLink _ _).trans (tended_restart _)).trans (tended_clearCopies _ _)
  · exact .refl s
  · exact tended_onSnu _

theorem tended_takeJoin (i : Slot) : Tended s (takeJoin i s) :=
  have lost : Tended s (if onLink i s then loseSlot .absent i s else s) := .ite (tended_loseSlot ..) (.refl s)
  lost.trans ((tended_onSlot i _).trans (tended_ownersJoin i))

theorem tended_channelMiss (i : Slot) : Tended s (channelMiss i s) := by
  unfold channelMiss
  split
  · exact tended_onChan ..
  · exact .refl s

theorem tended_takeMiss (i : Slot) : Tended s (takeMiss i s) :=
  .ite (.refl s) (.ite ((tended_channelMiss i).trans (tended_loseSlot ..))
    ((tended_onSlot i _).trans (tended_channelMiss i)))

theorem tended_takeKeyEvent (h : Head) (k : WireKey) : Tended s (takeKeyEvent h k s) := by
  refine .ite (.refl s) ?_
  split
  · exact .ite ((tended_onHeadLink h _).trans (tended_onInbox h _)) ((tended_onHeadLink h _).trans (tended_countError _))
  · exact (tended_onHeadLink h _).trans (tended_countError _)

theorem tended_takeWireAck (h : Head) (a : WireAck) : Tended s (takeWireAck h a s) := by
  unfold takeWireAck
  split
  · exact (tended_onHeadLink h _).trans (tended_onInbox h _)
  · exact tended_countError _

theorem tended_handHead (h : Head) (r : HeadReport) : Tended s (handHead h r s) := by
  have keyed : Tended s (match r.key with
      | some k => takeKeyEvent h k (onInbox h (fun b => { b with samples := b.samples ++ [r.raw] }) s)
      | none => onInbox h (fun b => { b with samples := b.samples ++ [r.raw] }) s) := by
    split
    · exact (tended_onInbox h _).trans (tended_takeKeyEvent ..)
    · exact tended_onInbox h _
  unfold handHead
  dsimp only
  split
  · exact keyed.trans (tended_takeWireAck ..)
  · exact keyed

theorem tended_handOn (i : Slot) (first : Bool) (m : Upstream) : Tended s (handOn i first m s) := by
  have online (h : Head) : Tended s (channelOnline h s) := .ite (.refl s) (tended_onChan ..)
  unfold handOn
  split
  · exact Tended.trans (.ite (online _) (.refl s)) (tended_handHead ..)
  · exact .ite (tended_printerOnline ..) (tended_takePrinterReport ..)
  · exact tended_takeCounter _
  · exact .refl s

theorem tended_takeReport (i : Slot) (m : Upstream) : Tended s (takeReport i m s) := by
  have online (first : Bool) : Tended s (handOn i first m (setPresence i .online s)) :=
    (tended_onSlot i _).trans (tended_handOn ..)
  unfold takeReport
  split
  · exact .refl s
  · exact .refl s
  all_goals exact online _

theorem tended_rejectPart (i : Slot) : Tended s (rejectPart i s) := (tended_countError i).trans (tended_takeMiss i)

theorem tended_upstreamPart (i : Slot) (part : Option (List Byte)) : Tended s (upstreamPart i part s) := by
  refine .ite (.refl s) ?_
  split
  · exact tended_takeMiss i
  · exact tended_rejectPart i
  · exact tended_rejectPart i
  next m _ =>
    cases m with
    | join k => exact .ite (tended_takeJoin i) (tended_rejectPart i)
    | head | printer | dispenser => exact tended_takeReport ..

/-! ### Frame start (R174) -/

theorem tended_maskSlot (m : Table Bool 11) (i : Slot) : Tended s (maskSlot m i s) := by
  unfold maskSlot
  split
  · exact .ite (tended_loseSlot ..) (tended_onSlot ..)
  · exact .ite (tended_onSlot ..) (.refl s)
  · exact .refl s
  · exact .refl s

theorem tended_link (u : Lnk) : Tended s { s with lnk := u } := .of_blocks ⟨rfl, rfl, rfl, rfl, rfl⟩

theorem tended_applyMask : Tended s (applyMask s) := by
  unfold applyMask
  split
  · exact .refl s
  next m _ =>
    have masked : Tended s (eachSlotDown (maskSlot m) s) := .foldl (fun _ _ => tended_maskSlot ..) _ s
    exact masked.trans (tended_link _)

theorem tended_restartSlot (i : Slot) : Tended s (restartSlot i s) := by
  unfold restartSlot
  split
  · exact tended_loseSlot ..
  · exact tended_loseSlot ..
  · exact tended_onSlot ..
  · exact .refl s
  · exact .refl s

theorem tended_applyRestart : Tended s (applyRestart s) := by
  have restarted : Tended s (eachSlotDown restartSlot s) := .foldl (fun _ _ => tended_restartSlot _) _ s
  exact .ite (restarted.trans (tended_link _)) (.refl s)

theorem tended_joinWait (i : Slot) : Tended s (joinWait i s) := tended_onSlot ..

theorem tended_frameStart : Tended s (frameStart s) := by
  have waits (u : State) : Tended u (eachSlot joinWait u) := .foldl (fun _ _ => tended_joinWait _) _ u
  have counted (u : State) : Tended u (countFrame u) := .of_blocks ⟨rfl, rfl, rfl, rfl, rfl⟩
  exact (tended_applyMask.trans tended_applyRestart).trans ((waits _).trans (counted _))

/-! ### The RESET pin (R207) -/

/-- Every copy list emptied. -/
theorem tended_copiesReset : Tended s { s with ccu := powerOnCcu } := by
  have empty (h : Head) : (copies h { s with ccu := powerOnCcu }).entries = [] := by simp [copies, powerOnCcu, emptyCopies]
  have same : Tabled s { s with ccu := powerOnCcu } :=
    ⟨id, id, fun _ => id, fun _ _ => id, fun _ h => by
      rw [CopyListLaw, empty]; exact ⟨Nat.zero_le _, List.nodup_nil, List.nodup_nil⟩,
      fun _ _ _ _ h e mem => by rw [empty] at mem; cases mem⟩
  exact ⟨same, id, fun _ => id, id⟩

theorem tended_hubReset : Tended s (hubResetEffects s) := by
  have signedOff : Tended s (allHeads.reverse.foldl (fun s h => loseContext h s) s) :=
    .foldl (fun _ _ => tended_loseContext _) _ s
  have emptied (u : State) : Tended u { u with hsu := { u.hsu with signOn := Table.const 32 none } } :=
    .of_blocks ⟨rfl, rfl, rfl, rfl, rfl⟩
  have channels (u : State) : Tended u (resetChannels u) := .of_blocks ⟨rfl, rfl, rfl, rfl, rfl⟩
  have devices (u : State) : Tended u (printerOffline 0 (printerOffline 1 (dispenserGone u))) :=
    ((tended_onSnu _).trans (tended_onPrinter 1 _)).trans (tended_onPrinter 0 _)
  have rest (u : State) : Tended u { u with
      ccu := powerOnCcu, tot := { u.tot with hold := none }, lnk := resetLink u.lnk, port := resetPort u.port
      hand := emptyHand, down := noDownstream } := tended_copiesReset.trans (.of_blocks ⟨rfl, rfl, rfl, rfl, rfl⟩)
  exact (signedOff.trans (emptied _)).trans (((channels _).trans (devices _)).trans (rest _))

end Sys2Proof.Machine
end

section
/-! SUPPORT. The commands of the host but the withdrawal and the drain: `Tended`, operation by operation. -/

namespace Sys2Proof.Machine

variable {s t : State}

/-! ### Copy lists written at every head -/

/-- One write of the copy list of each head. -/
theorem copies_eachHead (f : CopyList → CopyList) (h : Head) (s : State) :
    copies h (eachHead (fun h => onCopies h f) s) = f (copies h s) :=
  eachHead_at copies (fun _ => f) (p := fun _ => True) (fun a u _ => ⟨trivial, fun b => copies_onCopies u a b f⟩) trivial h

/-- What a staling makes of an entry (R81). -/
def stalened (changed : Nat → Bool) (e : CopyEntry) : CopyEntry := if changed e.index then staleEntry e else e

theorem copies_staleCopies (changed : Nat → Bool) (h : Head) (s : State) : copies h (staleCopies changed s)
    = { copies h s with entries := (copies h s).entries.map (stalened changed) } := copies_eachHead _ h s

theorem stalened_fields (changed : Nat → Bool) (e : CopyEntry) : (stalened changed e).slot = e.slot
    ∧ (stalened changed e).number = e.number ∧ (stalened changed e).index = e.index := by
  unfold stalened
  split <;> exact ⟨rfl, rfl, rfl⟩

/-! ### Records inserted and changed (R57, R61 to R70) -/

theorem mem_insertItem {i j : Item} {is : List Item} : j ∈ insertItem i is ↔ j = i ∨ j ∈ is := by
  induction is with
  | nil => simp [insertItem]
  | cons x xs ih =>
    unfold insertItem
    split
    · simp
    · simp [ih, or_left_comm]

/-- A record with a new number inserted leaves the directory ascending (R57). -/
theorem insertItem_sorted {i : Item} {is : List Item} (sorted : is.Pairwise fun a b => a.number < b.number)
    (new : ∀ j ∈ is, j.number ≠ i.number) : (insertItem i is).Pairwise fun a b => a.number < b.number := by
  induction is with
  | nil => simp [insertItem]
  | cons x xs ih =>
    obtain ⟨least, sorted⟩ := List.pairwise_cons.1 sorted
    unfold insertItem
    split
    next lt => exact List.pairwise_cons.2 ⟨by simpa [lt] using fun a mem => lt.trans (least a mem),
      List.pairwise_cons.2 ⟨least, sorted⟩⟩
    next ge =>
      refine List.pairwise_cons.2 ⟨fun a mem => ?_, ih sorted fun j mem => new j (List.mem_cons_of_mem _ mem)⟩
      rcases mem_insertItem.1 mem with rfl | old
      · exact lt_of_le_of_ne (not_lt.1 ge) (new x List.mem_cons_self)
      · exact least a old

theorem insertItem_perm (i : Item) (is : List Item) : (insertItem i is).Perm (i :: is) := by
  induction is with
  | nil => exact .refl _
  | cons x xs ih =>
    unfold insertItem
    split
    · exact .refl _
    · exact (ih.cons x).trans (.swap ..)

/-- A search that the inserted record does not meet finds what it found before. -/
theorem find?_insertItem_of_not {i : Item} {p : Item → Bool} (no : p i = false) (is : List Item) :
    (insertItem i is).find? p = is.find? p := by
  induction is with
  | nil => simp [insertItem, no]
  | cons x xs ih =>
    unfold insertItem
    split
    · rw [List.find?_cons_of_neg (by simp [no])]
    · rw [List.find?_cons, List.find?_cons, ih]

/-- A search that only the inserted record meets finds it. -/
theorem find?_insertItem_of_only {i : Item} {p : Item → Bool} (yes : p i = true) {is : List Item}
    (only : ∀ j ∈ is, p j = false) :
    (insertItem i is).find? p = some i := by
  induction is with
  | nil => simp [insertItem, yes]
  | cons x xs ih =>
    have other := only x List.mem_cons_self
    unfold insertItem
    split
    · exact List.find?_cons_of_pos yes
    · rw [List.find?_cons_of_neg (by simp [other])]
      exact ih fun j mem => only j (List.mem_cons_of_mem _ mem)

/-- A record with a new index inserted is found by it, and the others as before. -/
theorem itemAt_insertItem {i : Item} (items : t.itb.items = insertItem i s.itb.items)
    (new : ∀ j ∈ s.itb.items, j.index ≠ i.index) (k : Nat) : itemAt k t = if k = i.index then some i else itemAt k s := by
  rw [itemAt, items]
  split
  next e =>
    subst e
    exact find?_insertItem_of_only (by simp) fun j mem => by simpa using new j mem
  next other => exact find?_insertItem_of_not (by simpa using Ne.symm other) _

theorem freeIndex_some {is : List Item} {k : Nat} (free : freeIndex is = some k) :
    k < Config.itemPlaces ∧ ∀ j ∈ is, j.index ≠ k := by
  unfold freeIndex at free
  have unused : is.any (·.index == k) = false := by simpa using List.find?_some free
  exact ⟨List.mem_range.1 (List.mem_of_find?_eq_some free), fun j mem => by simpa using List.any_eq_false.1 unused j mem⟩

theorem findItem_eq_none {n : Nat} : findItem n s = none ↔ ∀ i ∈ s.itb.items, i.number ≠ n := by
  simp [findItem, List.find?_eq_none]

/-- An ACTIVE record added under a new number and a new index. -/
theorem tended_insertItem {i : Item} (number : findItem i.number s = none) (free : freeIndex s.itb.items = some i.index)
    (active : i.state = .active) (refs : i.refs = 0) : Tended s (onItems (insertItem i) s) := by
  have newNumber := findItem_eq_none.1 number
  obtain ⟨place, newIndex⟩ := freeIndex_some free
  have found := itemAt_insertItem (s := s) (t := onItems (insertItem i) s) rfl newIndex
  refine ⟨⟨fun dir => insertItem_sorted dir newNumber, fun places => ⟨?_, fun j mem => ?_⟩, fun _ law j mem => ?_,
    fun _ _ law j mem => ?_, id, fun _ _ _ law h e mem => ?_⟩, id, fun _ => refsLaw_congr (fun k => ?_) fun _ _ => rfl,
    packsLaw_congr (fun k there => ?_) rfl⟩
  · refine ((insertItem_perm i s.itb.items).map _).nodup_iff.2 (List.nodup_cons.2 ⟨fun mem => ?_, places.1⟩)
    obtain ⟨j, mem, same⟩ := List.mem_map.1 mem
    exact newIndex j mem same
  · rcases mem_insertItem.1 mem with rfl | old
    · exact place
    · exact places.2 j old
  · rcases mem_insertItem.1 mem with rfl | old
    · exact fun _ => active
    · exact law j old
  · rcases mem_insertItem.1 mem with rfl | old
    · exact fun gone => absurd (active.symm.trans gone) nofun
    · exact law j old
  · refine EntryGood.congr ?_ (law h e mem)
    rw [found, if_neg]
    obtain ⟨⟨j, at_e, -⟩, -⟩ := law h e mem
    obtain ⟨mem, index⟩ := itemAt_found at_e
    exact index ▸ newIndex j mem
  · rw [refsAt, found, refsAt]
    split
    next e =>
      have none : itemAt k s = none := by simpa [itemAt, List.find?_eq_none, e] using newIndex
      simp [none, refs]
    · rfl
  · rw [found]
    split
    · rfl
    · exact there

/-- Heads and tickets as they were. -/
theorem holderLaw_of_blocks (tickets : t.tkp.tickets = s.tkp.tickets) (heads : t.hsu.heads = s.hsu.heads) :
    HolderLaw s → HolderLaw t :=
  holderLaw_congr (fun k => by rw [ticket, tickets]; exact ⟨rfl, rfl, rfl⟩) fun a => by rw [ctx, heads]; exact ⟨rfl, rfl⟩

/-- Records changed under their number, index, references and accumulator, with the copies of those whose version has
changed turned STALE. -/
theorem tended_changedRecords {f : Item → Item} {changed : Nat → Bool}
    (fields : ∀ i, (f i).number = i.number ∧ (f i).index = i.index ∧ (f i).refs = i.refs ∧ (f i).acc = i.acc)
    (sold : ∀ i, i.state = .active → (f i).state = .active)
    (pending : Directory s → ∀ i ∈ s.itb.items, (i.pending.isSome → i.state = .active) →
      (f i).pending.isSome → (f i).state = .active)
    (version : Directory s → ∀ i ∈ s.itb.items, changed i.index = false → (f i).version = i.version)
    (items : t.itb.items = s.itb.items.map f)
    (lists : ∀ h, (copies h t).entries = (copies h s).entries.map (stalened changed))
    (rest : t.lbc.queues = s.lbc.queues ∧ t.tkp.tickets = s.tkp.tickets ∧ t.hsu.heads = s.hsu.heads) : Tended s t := by
  obtain ⟨queues, tickets, heads⟩ := rest
  have number (i : Item) := (fields i).1
  have index (i : Item) := (fields i).2.1
  have found := itemAt_map index items
  refine ⟨⟨directory_map number items, places_map index items, fun dir law i mem => ?_, fun _ _ law i mem gone => ?_,
    fun law h => ?_, fun dir _ _ law h e mem => ?_⟩, holderLaw_of_blocks tickets heads,
    fun _ => refsLaw_congr (refsAt_map index (fun i => (fields i).2.2.1) items) fun _ _ => by rw [ticket, tickets]; rfl,
    packsLaw_congr (fun k => by rw [isSome_itemAt_map index items]; exact id) queues⟩
  · rw [items] at mem
    obtain ⟨j, old, rfl⟩ := List.mem_map.1 mem
    exact pending dir j old (law j old)
  · rw [items] at mem
    obtain ⟨j, old, rfl⟩ := List.mem_map.1 mem
    obtain ⟨-, -, refs, acc⟩ := fields j
    rw [refs, acc]
    cases state : j.state with
    | active => rw [sold j state] at gone; cases gone
    | withdrawn => exact law j old state
  · rw [CopyListLaw, lists]
    exact copyListLaw_map (fun e => ⟨(stalened_fields changed e).1, (stalened_fields changed e).2.1⟩) (law h)
  · rw [lists] at mem
    obtain ⟨x, old, rfl⟩ := List.mem_map.1 mem
    obtain ⟨⟨i, at_x, named, active, fresh⟩, age⟩ := law h x old
    obtain ⟨there, at_index⟩ := itemAt_found at_x
    obtain ⟨-, sameNumber, sameIndex⟩ := stalened_fields changed x
    refine ⟨⟨f i, by rw [found, sameIndex, at_x]; rfl, by rw [number, sameNumber]; exact named, sold i active, ?_⟩, ?_⟩
    all_goals unfold stalened; split
    · exact fun notStale => absurd rfl notStale
    next kept =>
      intro notStale
      rw [version dir i there (by simpa [at_index] using kept)]
      exact fresh notStale
    · exact fun _ none => nomatch none
    · exact age

/-- The record with one number changed. -/
def atNumber (n : Nat) (f : Item → Item) (i : Item) : Item := if i.number == n then f i else i

theorem onItemNumber_items (n : Nat) (f : Item → Item) (s : State) :
    (onItemNumber n f s).itb.items = s.itb.items.map (atNumber n f) := rfl

theorem atNumber_ind {n : Nat} {f : Item → Item} {p : Item → Prop} {i : Item} (change : i.number = n → p (f i))
    (stay : p i) :
    p (atNumber n f i) := by
  unfold atNumber
  split
  next e => exact change (by simpa using e)
  · exact stay

/-- A record with the number of one found is the one found. -/
theorem Directory.eq_of_number (dir : Directory s) {n : Nat} {i j : Item} (found : findItem n s = some i)
    (mem : j ∈ s.itb.items) (number : j.number = n) : j = i :=
  Option.some.inj (((findItem_iff dir).2 ⟨mem, number⟩).symm.trans found)

theorem map_id_of_none (es : List CopyEntry) : es.map (stalened fun _ => false) = es := by
  have same : stalened (fun _ => false) = id := funext fun e => if_neg nofun
  rw [same, List.map_id]

/-! ### The item commands (R60 to R70) -/

theorem tended_named {n : Nat} {ok : Bool} {f : Item → State → Answer}
    (hf : ∀ i, findItem n s = some i → Tended s (f i s).state) : Tended s (named n ok f s).state := by
  unfold named
  split
  · exact .refl s
  split
  · exact .refl s
  next i found => exact hf i found

theorem tended_addItem (f : RawItem) (price : Nat) : Tended s (addItem f price s).state := by
  unfold addItem
  split
  · exact .refl s
  split
  · exact .refl s
  split
  · exact .refl s
  next number =>
    split
    · exact .refl s
    next free => exact tended_insertItem (Option.not_isSome_iff_eq_none.1 number) free rfl rfl

/-- One record and its version changed, its copies STALE. -/
theorem tended_staled {n : Nat} {i : Item} {f : Item → Item} (found : findItem n s = some i)
    (fields : ∀ i, (f i).number = i.number ∧ (f i).index = i.index ∧ (f i).refs = i.refs ∧ (f i).acc = i.acc)
    (sold : ∀ i, i.state = .active → (f i).state = .active) (pending : ∀ i, (f i).pending = i.pending) :
    Tended s (staleCopies (· == i.index) (onItemNumber n f s)) := by
  refine tended_changedRecords (f := atNumber n f) (changed := (· == i.index))
    (fun j => atNumber_ind (p := fun x => x.number = j.number ∧ x.index = j.index ∧ x.refs = j.refs ∧ x.acc = j.acc)
      (fun _ => fields j) ⟨rfl, rfl, rfl, rfl⟩)
    (fun j active => atNumber_ind (p := fun x => x.state = .active) (fun _ => sold j active) active)
    (fun _ j _ law => atNumber_ind (p := fun x => x.pending.isSome → x.state = .active)
      (fun _ staged => sold j (law (by rwa [pending] at staged))) law)
    (fun dir j mem other => atNumber_ind (p := fun x => x.version = j.version) (fun number => ?_) rfl)
    (by simp [onItemNumber_items]) (fun h => by rw [copies_staleCopies]; rfl) (by simp)
  rw [dir.eq_of_number found mem number] at other
  simp at other

theorem tended_updateItem (f : RawItem) : Tended s (updateItem f s).state := by
  unfold updateItem
  split
  · exact .refl s
  next g _ =>
    split
    · exact .refl s
    next found =>
      have renewed (u : State) : Tended u (renewOffers g.number u) := .of_blocks (by simp)
      have staled := tended_staled (f := updated g) found (fun _ => ⟨rfl, rfl, rfl, rfl⟩) (fun _ => id) fun _ => rfl
      exact staled.trans (.ite (.refl _) (renewed _))

theorem tended_reinstateItem (n : Nat) : Tended s (reinstateItem n s).state :=
  tended_named fun i found => by
    split
    · exact .refl s
    · exact tended_staled found (fun _ => ⟨rfl, rfl, rfl, rfl⟩) (fun _ _ => rfl) fun _ => rfl

/-- One pending price changed, and set in an ACTIVE record only. -/
theorem tended_pending {n : Nat} {p : Option Nat}
    (active : Directory s → p.isSome → ∀ i ∈ s.itb.items, i.number = n → i.state = .active) :
    Tended s (onItemNumber n (fun i => { i with pending := p }) s) :=
  tended_changedRecords (f := atNumber n fun i => { i with pending := p }) (changed := fun _ => false)
    (fun j => atNumber_ind (p := fun x => x.number = j.number ∧ x.index = j.index ∧ x.refs = j.refs ∧ x.acc = j.acc)
      (fun _ => ⟨rfl, rfl, rfl, rfl⟩) ⟨rfl, rfl, rfl, rfl⟩)
    (fun _ active => atNumber_ind (p := fun x => x.state = .active) (fun _ => active) active)
    (fun dir j mem law => atNumber_ind (p := fun x => x.pending.isSome → x.state = .active)
      (fun number staged => active dir staged j mem number) law)
    (fun _ _ _ _ => atNumber_ind (p := fun x => x.version = _) (fun _ => rfl) rfl)
    (onItemNumber_items ..) (fun _ => (map_id_of_none _).symm) ⟨rfl, rfl, rfl⟩

theorem tended_stagePrice (n price : Nat) : Tended s (stagePrice n price s).state :=
  tended_named fun i found => by
    split
    · exact .refl s
    next sold =>
      refine tended_pending fun dir _ j mem number => ?_
      rw [dir.eq_of_number found mem number]
      cases state : i.state with
      | active => rfl
      | withdrawn => simp [state] at sold

theorem tended_unstagePrice (n : Nat) : Tended s (unstagePrice n s).state :=
  tended_named fun _ _ => tended_pending fun _ none => nomatch none

theorem commitItem_fields (i : Item) : (commitItem i).number = i.number ∧ (commitItem i).index = i.index
    ∧ (commitItem i).refs = i.refs ∧ (commitItem i).acc = i.acc ∧ (commitItem i).state = i.state
    ∧ (commitItem i).pending = none ∧ (changesPrice i = false → (commitItem i).version = i.version) := by
  unfold commitItem changesPrice
  split
  next p staged =>
    split
    · exact ⟨rfl, rfl, rfl, rfl, rfl, rfl, fun _ => rfl⟩
    next other => exact ⟨rfl, rfl, rfl, rfl, rfl, rfl, fun same => absurd same (by simpa using other)⟩
  next none => exact ⟨rfl, rfl, rfl, rfl, rfl, none, fun _ => rfl⟩

theorem tended_commitPrices : Tended s (commitPrices s).state := by
  have committed : Tended s (staleCopies (changedAt s.itb.items) { s with itb := commitTable s.itb }) := by
    refine tended_changedRecords (f := commitItem) (changed := changedAt s.itb.items) (fun i => ?_) (fun i active => ?_)
      (fun _ i _ _ staged => ?_) (fun _ i mem same => ?_) (by simp [commitTable]) (fun h => by rw [copies_staleCopies]; rfl)
      (by simp)
    all_goals obtain ⟨number, index, refs, acc, state, pending, version⟩ := commitItem_fields i
    · exact ⟨number, index, refs, acc⟩
    · exact state.trans active
    · rw [pending] at staged
      cases staged
    · refine version ?_
      have unchanged := List.any_eq_false.1 same i mem
      simpa using unchanged
  exact (committed.trans (.of_blocks (by simp [setWatch]))).trans tended_examineWatch

/-! ### The other commands of the host -/

theorem tended_channelEffects (h : Head) (old new : HeadSettings) : Tended s (channelEffects h old new s) := by
  have calibrated (u : State) : Tended u (if calibrationChanged old new then
      onChan h (fun c => { c with manual := none, zero := new.z0 }) u else u) := .ite (tended_onChan ..) (.refl u)
  have tare (u : State) : Tended u (if old.scale != new.scale then onChan h (fun c => { c with manual := none }) u else u) :=
    .ite (tended_onChan ..) (.refl u)
  exact .ite (tended_goIdle h) (((calibrated s).trans (tare _)).trans
    ((Tended.ite (tended_restart h) (.refl _)).trans (.ite (tended_onChan ..) (.refl _))))

theorem tended_configureHead (f : RawHead) : Tended s (configureHead f s).state := by
  have stored (h : Head) (new : HeadSettings) : Tended s (storeSettings h new s) := .of_blocks ⟨rfl, rfl, rfl, rfl, rfl⟩
  rw [configureHead_eq]
  split
  · exact .refl s
  · split
    · exact .refl s
    · exact ((stored ..).trans (.ite (tended_changeRole _) (.refl _))).trans
        ((tended_channelEffects ..).trans (.ite (tended_onHeadLink ..) (.refl _)))

theorem tended_configurePair (f : RawPair) : Tended s (configurePair f s).state := by
  unfold configurePair
  split
  · exact .refl s
  next p new _ =>
    have stored : Tended s (storePair p new s) := .of_blocks ⟨rfl, rfl, rfl, rfl, rfl⟩
    exact .ite stored ((stored.trans (tended_restart _)).trans (tended_restart _))

theorem tended_setNumberRange (low high : Nat) : Tended s (setNumberRange low high s).state := by
  unfold setNumberRange
  split
  · exact .refl s
  · split
    · exact .refl s
    · exact .of_blocks ⟨rfl, rfl, rfl, rfl, rfl⟩

/-- A ticket voided by the host, which its holder leaves first. -/
theorem tended_voidByHost {x : TicketSlot} (opened : openTicket (ticket x s) = true)
    (holders : HolderLaw s → HolderLaw (voidRecord x (releaseHolder x s))) :
      Tended s (voidRecord x (releaseHolder x s)) := by
  have left : Tabled s (releaseHolder x s) ∧ (RefsLaw s → RefsLaw (releaseHolder x s))
      ∧ (PacksLaw s → PacksLaw (releaseHolder x s)) ∧ ticket x (releaseHolder x s) = ticket x s := by
    unfold releaseHolder
    split
    next h _ =>
      obtain ⟨tabled, refs, packs⟩ := tabled_leaveTicket h (ticketId x s) s
      exact ⟨tabled, refs, packs, rfl⟩
    · exact ⟨.refl s, id, id, rfl⟩
  obtain ⟨tabled, refs, packs, same⟩ := left
  exact ⟨tabled.trans (tabled_voidRecord x), holders, fun _ law => refs_voidRecord (by rwa [same]) (refs law),
    fun law => packs_voidRecord x (packs law)⟩

theorem tended_voidTicketCommand (slot serial : Nat) : Tended s (voidTicketCommand slot serial s).state := by
  have holders := (orderly_voidTicketCommand (s := s) slot serial).holders
  unfold voidTicketCommand onNamed at holders ⊢
  split
  · exact .refl s
  split
  · exact .refl s
  split
  · exact .refl s
  dsimp only [done] at holders ⊢
  split
  next opened => exact tended_voidByHost opened (by simpa [*] using holders)
  · exact .refl s

theorem tended_collectTicket (slot serial : Nat) : Tended s (collectTicket slot serial s).state := by
  have holders := (orderly_collectTicket (s := s) slot serial).holders
  unfold collectTicket onNamed at holders ⊢
  split
  · exact .refl s
  split
  · exact .refl s
  split
  · exact .refl s
  dsimp only [done] at holders ⊢
  split
  next closed =>
    exact tended_closedTicket (by simp_all [freeRecord]) (by simp_all [openTicket]) rfl
  · exact .refl s

theorem tended_setCollection (n : Nat) : Tended s (setCollection n s).state := by
  unfold setCollection
  split
  · exact .refl s
  · exact .of_blocks ⟨rfl, rfl, rfl, rfl, rfl⟩

theorem tended_printText (p n : Nat) (text : List (List Byte)) : Tended s (printText p n text s).state := by
  unfold printText
  split
  · exact .refl s
  split
  · exact .refl s
  split
  · exact .refl s
  · exact tended_queueJob _ _ _ nofun

theorem tended_removeJob (p : Printer) (tag : Tag) : Tended s (removeJob p tag s) := by
  have removed : Tended s (onQueue p (·.eraseP (·.tag == tag)) s) :=
    tended_onQueue p _ fun j mem _ unfolded => .inr ⟨j, List.mem_of_mem_eraseP mem, unfolded⟩
  exact .ite ((removed.trans (tended_onPrinter p _)).trans (tended_startIfIdle p)) removed

theorem tended_cancelJob (n : Nat) : Tended s (cancelJob n s).state := by
  unfold cancelJob
  split
  · exact .refl s
  split
  · exact .refl s
  · exact (tended_removeJob ..).trans (tended_jobLeft _)

theorem tended_followSummary (q : Printer) (j : Job) : Tended s (followSummary q s j) := by
  unfold followSummary
  split
  · exact .ite (tended_onTicket _ _ rfl rfl) (.refl s)
  · exact .refl s

theorem tended_moveJobs (p q : Printer) : Tended s (moveJobs p q s).2.2 := by
  have moved (n : Nat) : Tended s (onQueue q (· ++ (movable p s).2.take n)
      (onQueue p (fun _ => (movable p s).1 ++ (movable p s).2.drop n) s)) := by
    have stays (u : State) : ∀ r, ∀ j ∈ queue r (onQueue p (fun _ => (movable p s).1 ++ (movable p s).2.drop n) s),
        ∃ r, j ∈ queue r s := by
      intro r j mem
      rw [queue_onQueue] at mem
      split at mem
      · rcases List.mem_append.1 mem with first | later
        · exact ⟨p, movable_mem (.inl first)⟩
        · exact ⟨p, movable_mem (.inr (List.mem_of_mem_drop later))⟩
      · exact ⟨r, mem⟩
    refine ⟨.of_blocks rfl rfl, id, fun _ => id, packsLaw_of_jobs (fun _ => id) fun r j mem k unfolded => .inr ?_⟩
    have stood : ∃ r, j ∈ queue r s := by
      rw [queue_onQueue] at mem
      split at mem
      · rcases List.mem_append.1 mem with there | goes
        · exact stays s _ j there
        · exact ⟨p, movable_mem (.inr (List.mem_of_mem_take goes))⟩
      · exact stays s _ j mem
    obtain ⟨r, there⟩ := stood
    exact ⟨r, j, there, unfolded⟩
  have unfed (u : State) (go : List Job) : Tended u (match (movable p s).1, go with
      | [], j :: _ => onPrinter p (unfeed j.tag) u
      | _, _ => u) := by
    split
    · exact tended_onPrinter ..
    · exact .refl u
  exact (((moved _).trans (unfed _ _)).trans (.foldl (fun _ _ => tended_followSummary ..) _ _)).trans (tended_startIfIdle q)

theorem tended_redirectJobs (p q : Nat) : Tended s (redirectJobs p q s).state := by
  unfold redirectJobs
  split
  · split
    · exact .refl s
    · exact tended_moveJobs ..
  · exact .refl s

theorem tended_openDay (y m d : Nat) : Tended s (openDay y m d s).state := by
  unfold openDay
  split
  · exact .refl s
  split
  · exact .refl s
  · dsimp only [done]
    exact .of_blocks ⟨rfl, rfl, rfl, rfl, rfl⟩

/-- A head's number cleared: the laws of heads and tickets do not read it. -/
theorem tended_clearNumber (h : Head) : Tended s (onCtx h (fun c => { c with nowServing := none }) s) := by
  refine .of_tickets (holderLaw_congr (fun _ => ⟨rfl, rfl, rfl⟩) fun a => ?_) ⟨rfl, rfl, rfl, rfl⟩
  rw [ctx_onCtx]
  split
  next e => subst e; exact ⟨rfl, rfl⟩
  · exact ⟨rfl, rfl⟩

theorem tended_dayClosing : Tended s (dayClosing s) := by
  have started : Tended s (startDrain s) := .of_blocks ⟨rfl, rfl, rfl, rfl, rfl⟩
  have cleared (u : State) : Tended u (closeNumbers u) :=
    (tended_onSnu _).trans (.foldl (fun _ _ => tended_clearNumber _) _ _)
  exact (started.trans (cleared _)).trans (.foldl (fun _ _ => tended_cancelRequest ..) _ _)

theorem tended_closeDay : Tended s (closeDay s).state := by
  unfold closeDay
  dsimp only [done]
  split
  · exact .refl s
  split
  · exact .refl s
  · dsimp only
    exact tended_dayClosing

theorem tended_readTotals (g : Nat) : Tended s (readTotals g s).state := by
  unfold readTotals
  split
  · exact .refl s
  · exact .of_blocks ⟨rfl, rfl, rfl, rfl, rfl⟩

/-! ### Downstream parts (R175, R178) -/

theorem tended_send (i : Fin 12) (m : Downstream) : Tended s (send i m s) := .of_blocks ⟨rfl, rfl, rfl, rfl, rfl⟩

theorem tended_printerOp (p : Printer) : Tended s (printerOp p s).2 := by
  unfold printerOp
  dsimp only
  split
  · exact .refl s
  · exact tended_onPrinter ..
  · split
    · split
      · exact .refl s
      · split
        · exact tended_onPrinter ..
        · exact .refl s
    · exact .refl s
  · exact .refl s
  · exact .refl s

theorem tended_sendPrinterUpdate (p : Printer) : Tended s (sendPrinterUpdate p s) :=
  .ite ((tended_printerOp p).trans (tended_send ..)) (.refl s)

theorem tended_sendDispenserUpdate : Tended s (sendDispenserUpdate s) :=
  .ite ((tended_onSnu _).trans (tended_send ..)) (.refl s)

end Sys2Proof.Machine
end

section
/-! SUPPORT. The purge of a record (R72, R73, R147): the queues without its jobs, and what the withdrawal and the drain,
which alone purge, keep of the laws. -/

namespace Sys2Proof.Machine

variable {s t : State}

/-! ### Jobs removed from a queue (R147) -/

/-- With distinct keys the first element with a key is the only one. -/
theorem eraseP_key_eq_filter {α : Type} {key : α → Tag} {xs : List α} (nodup : (xs.map key).Nodup) (k : Tag) :
    xs.eraseP (fun x => key x == k) = xs.filter fun x => key x != k := by
  induction xs with
  | nil => rfl
  | cons x xs ih =>
    rw [List.map_cons, List.nodup_cons] at nodup
    obtain ⟨new, nodup⟩ := nodup
    by_cases e : key x = k
    · have rest : xs.filter (fun x => key x != k) = xs := List.filter_eq_self.2 fun y mem => by
        have other : key y ≠ key x := fun same => new (List.mem_map.2 ⟨y, mem, same⟩)
        simpa [← e] using other
      rw [List.eraseP_cons_of_pos (by simpa using e), List.filter_cons_of_neg (by simpa using e), rest]
    · rw [List.eraseP_cons_of_neg (by simpa using e), List.filter_cons_of_pos (by simpa using e), ih nodup]

/-- Elements removed one after the other by their distinct keys: the others are left. -/
theorem foldl_eraseP_key {α : Type} {key : α → Tag} (go : List α) {xs : List α} (nodup : (xs.map key).Nodup) :
    go.foldl (fun xs g => xs.eraseP fun x => key x == key g) xs = xs.filter fun x => !go.any fun g => key x == key g := by
  induction go generalizing xs with
  | nil => simp
  | cons g go ih =>
    rw [List.foldl_cons, eraseP_key_eq_filter nodup, ih (nodup.sublist (List.filter_sublist.map key)), List.filter_filter]
    simp only [List.any_cons, Bool.not_or, bne, Bool.and_comm]

/-- The elements of a kind removed by their keys: those of no such kind are left. -/
theorem foldl_eraseP_filter {α : Type} {key : α → Tag} (p : α → Bool) {xs : List α} (nodup : (xs.map key).Nodup) :
    (xs.filter p).foldl (fun xs g => xs.eraseP fun x => key x == key g) xs = xs.filter fun x => !p x := by
  rw [foldl_eraseP_key _ nodup]
  refine List.filter_congr fun x mem => congrArg _ ?_
  rw [Bool.eq_iff_iff, List.any_eq_true]
  constructor
  · rintro ⟨g, gone, same⟩
    obtain ⟨there, kind⟩ := List.mem_filter.1 gone
    rwa [List.inj_on_of_nodup_map nodup mem there (beq_iff_eq.1 same)]
  · exact fun kind => ⟨x, List.mem_filter.2 ⟨mem, kind⟩, BEq.rfl⟩

/-- The jobs `go` removed from printer `p`'s queue. -/
def removeJobs (p : Printer) (go : List Job) (s : State) : State := go.foldl (fun s j => removeJob p j.tag s) s

theorem queue_removeJobs (p r : Printer) (go : List Job) (s : State) : queue r (removeJobs p go s)
    = if r = p then go.foldl (fun q j => q.eraseP fun x => x.tag == j.tag) (queue p s) else queue r s := by
  induction go generalizing s with
  | nil =>
    split
    next e => subst e; rfl
    · rfl
  | cons j go ih =>
    refine (ih (removeJob p j.tag s)).trans ?_
    rw [queue_removeJob, queue_removeJob, if_pos rfl]
    split <;> rfl

theorem removePurged_eq (k : Nat) (s : State) : removePurged k s
    = removeJobs 1 ((queue 1 s).filter (unfoldedOf k)) (removeJobs 0 ((queue 0 s).filter (unfoldedOf k)) s) := by
  have untouched : queue 1 (removeJobs 0 ((queue 0 s).filter (unfoldedOf k)) s) = queue 1 s :=
    (queue_removeJobs ..).trans (if_neg (by decide))
  rw [← untouched]
  rfl

theorem printer_cases (p : Printer) : p = 0 ∨ p = 1 := by
  revert p
  decide

/-- The tags of one queue are distinct (R131). -/
theorem QueueLaw.tags (law : QueueLaw s) (p : Printer) : ((queue p s).map (·.tag)).Nodup := by
  have both := law.2
  rw [queuedTags, List.map_append, List.nodup_append] at both
  obtain ⟨first, second, -⟩ := both
  rcases printer_cases p with rfl | rfl
  · exact first
  · exact second

/-- A purge leaves the queues without the unfolded packs of the record (R147). -/
theorem queue_removePurged (law : QueueLaw s) (k : Nat) (p : Printer) :
    queue p (removePurged k s) = (queue p s).filter fun j => !unfoldedOf k j := by
  rw [removePurged_eq]
  rcases printer_cases p with rfl | rfl
  · rw [queue_removeJobs, if_neg (by decide), queue_removeJobs, if_pos rfl]
    exact foldl_eraseP_filter _ (law.tags 0)
  · rw [queue_removeJobs, if_pos rfl, queue_removeJobs, if_neg (by decide)]
    exact foldl_eraseP_filter _ (law.tags 1)

/-! ### The purge test (R72) -/

theorem purgeable_iff {i : Item} : purgeable i = true ↔ i.state = .withdrawn ∧ i.refs = 0 ∧ i.acc = emptyAcc := by
  simp [purgeable, and_assoc]

theorem purgeCheck_none {k : Nat} (none : itemAt k s = none) : purgeCheck k s = s := by simp [purgeCheck, none]

theorem purgeCheck_stays {k : Nat} {i : Item} (found : itemAt k s = some i) (stays : purgeable i = false) :
    purgeCheck k s = s := by simp [purgeCheck, found, stays]

theorem purgeCheck_goes {k : Nat} {i : Item} (found : itemAt k s = some i) (goes : purgeable i = true) :
    purgeCheck k s = purge i s := by simp [purgeCheck, found, goes]

theorem items_purge (i : Item) (s : State) : (purge i s).itb.items = s.itb.items.filter fun j => j.number != i.number := by
  simp [purge]

/-- A purge takes its record out of the table and no other. -/
theorem itemAt_purge (dir : Directory s) (places : Places s) {i : Item} (mem : i ∈ s.itb.items) (k : Nat) :
    itemAt k (purge i s) = if k = i.index then none else itemAt k s := by
  have after : Places (purge i s) := by
    rw [Places, items_purge]
    exact ⟨places.1.sublist (List.filter_sublist.map _), fun j there => places.2 j (List.mem_of_mem_filter there)⟩
  have same (j : Item) (there : j ∈ s.itb.items) : j.number = i.number ↔ j.index = i.index :=
    ⟨fun e => congrArg Item.index (List.inj_on_of_nodup_map dir.nodup there mem e),
      fun e => congrArg Item.number (List.inj_on_of_nodup_map places.1 there mem e)⟩
  refine Option.ext fun j => ?_
  have left : j ∈ (purge i s).itb.items ↔ j ∈ s.itb.items ∧ j.number ≠ i.number := by rw [items_purge]; simp
  rw [itemAt_iff after, left]
  split
  next e =>
    subst e
    refine iff_of_false (fun ⟨⟨there, other⟩, at_i⟩ => other ((same j there).2 at_i)) nofun
  next e =>
    rw [itemAt_iff places]
    exact ⟨fun ⟨⟨there, _⟩, at_k⟩ => ⟨there, at_k⟩,
      fun ⟨there, at_k⟩ => ⟨⟨there, fun named => e (at_k ▸ (same j there).1 named)⟩, at_k⟩⟩

/-! ### What the withdrawal and the drain keep -/

/-- What a row keeps of the laws of the table, the copy lists, the references and the packs. -/
structure Upheld (s t : State) : Prop extends Tabled s t where
  holders : HolderLaw s → HolderLaw t
  refs : Directory s → Places s → HolderLaw s → RefsLaw s → RefsLaw t
  packs : Directory s → Places s → QueueLaw s → PacksLaw s → PacksLaw t

theorem Tended.upheld (a : Tended s t) : Upheld s t :=
  ⟨a.toTabled, a.holders, fun _ _ => a.refs, fun _ _ _ => a.packs⟩

theorem Upheld.trans_tended {u : State} (a : Upheld s t) (b : Tended t u) : Upheld s u :=
  ⟨a.toTabled.trans b.toTabled, fun law => b.holders (a.holders law),
    fun dir places law refs => b.refs (a.holders law) (a.refs dir places law refs),
    fun dir places law packs => b.packs (a.packs dir places law packs)⟩

/-- A row up to its purge test of the record at index `k`: this record alone may be one that is to be purged. -/
structure Unpurged (k : Nat) (s t : State) : Prop where
  directory : Directory s → Directory t
  places : Places s → Places t
  pending : Directory s → PendingLaw s → PendingLaw t
  purge : Directory s → Places s → PurgeLaw s → ∀ i ∈ t.itb.items, i.index ≠ k → i.state = .withdrawn →
    i.refs ≠ 0 ∨ i.acc ≠ emptyAcc
  copies : CopyLaw s → CopyLaw t
  entries : Directory s → Places s → CopyLaw s → EntryLaw s → EntryLaw t
  holders : HolderLaw s → HolderLaw t
  refs : RefsLaw s → RefsLaw t
  packs : PacksLaw s → PacksLaw t
  queues : QueueLaw s → QueueLaw t

/-- What the purge test of a record leaves. -/
theorem purgeCheck_ind {k : Nat} {p : State → Prop} (none : itemAt k s = none → p s)
    (stays : ∀ i, itemAt k s = some i → purgeable i = false → p s)
    (goes : ∀ i, itemAt k s = some i → purgeable i = true → p (purge i s)) : p (purgeCheck k s) := by
  cases found : itemAt k s with
  | none => rw [purgeCheck_none found]; exact none found
  | some i =>
    cases goesNow : purgeable i with
    | false => rw [purgeCheck_stays found goesNow]; exact stays i found goesNow
    | true => rw [purgeCheck_goes found goesNow]; exact goes i found goesNow

/-- The table after a purge. -/
theorem upheld_purge {i : Item} (found : itemAt i.index s = some i) (goes : purgeable i = true) : Upheld s (purge i s) := by
  obtain ⟨gone, unused, -⟩ := purgeable_iff.1 goes
  obtain ⟨mem, -⟩ := itemAt_found found
  have fewer (j : Item) (there : j ∈ (purge i s).itb.items) : j ∈ s.itb.items := by
    rw [items_purge] at there
    exact List.mem_of_mem_filter there
  have lists (h : Head) : copies h (purge i s) = copies h s := by
    rw [copies, show (purge i s).ccu = s.ccu by simp [purge]]
    rfl
  have tickets (x : TicketSlot) : ticket x (purge i s) = ticket x s := by
    rw [ticket, show (purge i s).tkp = s.tkp by simp [purge]]
    rfl
  refine ⟨⟨fun dir => ?_, fun places => ?_, fun _ law j there => law j (fewer j there),
    fun _ _ law j there => law j (fewer j there), fun law h => lists h ▸ law h, fun dir places _ law h e mem' => ?_⟩,
    fun law => ?_, fun dir places _ => refsLaw_congr (fun k => ?_) fun k x => by rw [tickets],
      fun dir places queues law => ?_⟩
  · rw [Directory, items_purge]
    exact List.Pairwise.sublist List.filter_sublist dir
  · rw [Places, items_purge]
    exact ⟨places.1.sublist (List.filter_sublist.map _), fun j there => places.2 j (List.mem_of_mem_filter there)⟩
  · rw [lists] at mem'
    have good := law h e mem'
    refine EntryGood.congr ?_ good
    rw [itemAt_purge dir places mem, if_neg]
    intro same
    obtain ⟨⟨j, at_e, -, active, -⟩, -⟩ := good
    rw [same, found] at at_e
    cases at_e
    exact absurd (gone.symm.trans active) nofun
  · exact holderLaw_congr (fun x => by rw [tickets]; exact ⟨rfl, rfl, rfl⟩)
      (fun a => by rw [ctx, show (purge i s).hsu = s.hsu by simp [purge]]; exact ⟨rfl, rfl⟩) law
  · rw [refsAt, itemAt_purge dir places mem]
    split
    next e => rw [refsAt, e, found]; simp [unused]
    · rfl
  · refine packsLaw_iff.2 fun p j queued k unfolded => ?_
    have stays : queue p (purge i s) = (queue p s).filter fun j => !unfoldedOf i.index j :=
      queue_removePurged (s := onItems _ s) queues _ p
    rw [stays] at queued
    obtain ⟨old, other⟩ := List.mem_filter.1 queued
    rw [itemAt_purge dir places mem, if_neg]
    · exact packsLaw_iff.1 law p j old k unfolded
    · rintro rfl
      simp [unfolded] at other

/-- A row completed by its purge test. -/
theorem Unpurged.purged {k : Nat} (a : Unpurged k s t) : Upheld s (purgeCheck k t) := by
  have purged : Upheld t (purgeCheck k t) := by
    refine purgeCheck_ind (fun _ => (Tended.refl t).upheld) (fun _ _ _ => (Tended.refl t).upheld) fun i found goes => ?_
    obtain ⟨-, rfl⟩ := itemAt_found found
    exact upheld_purge found goes
  have nothing (dir : Directory s) (places : Places s) (law : PurgeLaw s) : PurgeLaw (purgeCheck k t) := by
    have others := a.purge dir places law
    refine purgeCheck_ind (fun none i mem gone => ?_) (fun j found stays i mem gone => ?_) fun j found goes i mem gone => ?_
    · exact others i mem (fun e => by simp [itemAt, List.find?_eq_none] at none; exact none i mem e) gone
    · by_cases e : i.index = k
      · obtain rfl : i = j := Option.some.inj (((itemAt_iff (a.places places)).2 ⟨mem, e⟩).symm.trans found)
        simp only [purgeable, gone, BEq.rfl, Bool.true_and, Bool.and_eq_false_iff, beq_eq_false_iff_ne] at stays
        exact stays
      · exact others i mem e gone
    · rw [items_purge] at mem
      obtain ⟨there, other⟩ := List.mem_filter.1 mem
      refine others i there (fun e => ?_) gone
      obtain rfl : i = j := Option.some.inj (((itemAt_iff (a.places places)).2 ⟨there, e⟩).symm.trans found)
      simp at other
  exact ⟨⟨fun dir => purged.directory (a.directory dir), fun places => purged.places (a.places places),
    fun dir law => purged.pending (a.directory dir) (a.pending dir law), nothing, fun law => purged.copies (a.copies law),
    fun dir places lists law => purged.entries (a.directory dir) (a.places places) (a.copies lists)
      (a.entries dir places lists law)⟩,
    fun law => purged.holders (a.holders law),
    fun dir places law refs => purged.refs (a.directory dir) (a.places places) (a.holders law) (a.refs refs),
    fun dir places queues law => purged.packs (a.directory dir) (a.places places) (a.queues queues) (a.packs law)⟩

/-! ### WITHDRAW_ITEM (R69, R82) -/

theorem copies_withdrawCopies (n : Nat) (h : Head) (s : State) :
    copies h (withdrawCopies n s) = withdrawIn n (copies h s) := by
  have lists := copies_eachHead (withdrawIn n) h s
  unfold withdrawCopies
  dsimp only
  split
  · rw [← lists, copies, show (examineWatch (eachHead (fun h => onCopies h (withdrawIn n)) s)).ccu.lists
      = (eachHead (fun h => onCopies h (withdrawIn n)) s).ccu.lists by unfold examineWatch; split <;> rfl]
    rfl
  · exact lists

/-- The removal of an item leaves the entries of the others (R82). -/
theorem entries_withdrawIn (n : Nat) (c : CopyList) : (withdrawIn n c).entries
    = c.entries.filter fun e => e.number != n := by
  unfold withdrawIn
  split
  · rfl
  next none => exact (List.filter_eq_self.2 fun e mem => by simpa using entryOf_none_iff.1 none e mem).symm

theorem unpurged_withdraw {n : Nat} {i : Item} (found : findItem n s = some i) :
    Unpurged i.index s (withdrawCopies n (onItemNumber n withdrawn s)) := by
  have items : (withdrawCopies n (onItemNumber n withdrawn s)).itb.items = s.itb.items.map (atNumber n withdrawn) := by
    simp [onItemNumber_items]
  have fields (j : Item) : (atNumber n withdrawn j).number = j.number ∧ (atNumber n withdrawn j).index = j.index
      ∧ (atNumber n withdrawn j).refs = j.refs ∧ (atNumber n withdrawn j).acc = j.acc :=
    atNumber_ind (p := fun x => x.number = j.number ∧ x.index = j.index ∧ x.refs = j.refs ∧ x.acc = j.acc)
      (fun _ => ⟨rfl, rfl, rfl, rfl⟩) ⟨rfl, rfl, rfl, rfl⟩
  have number (j : Item) := (fields j).1
  have index (j : Item) := (fields j).2.1
  have other {j : Item} (ne : j.number ≠ n) : atNumber n withdrawn j = j := if_neg (by simpa using ne)
  have lists (h : Head) : copies h (withdrawCopies n (onItemNumber n withdrawn s)) = withdrawIn n (copies h s) :=
    copies_withdrawCopies ..
  obtain ⟨-, -, -, -, -, hsu, -, -, tkp, lbc, -⟩ := withdrawCopies_frame (s := onItemNumber n withdrawn s) n
  refine ⟨directory_map number items, places_map index items, fun _ law j mem => ?_, fun dir _ law j mem ne gone => ?_,
    fun law h => ?_, fun _ _ _ law h e mem => ?_, holderLaw_of_blocks (by rw [tkp]; rfl) (by rw [hsu]; rfl),
    refsLaw_congr (refsAt_map index (fun j => (fields j).2.2.1) items) fun _ _ => by rw [ticket, tkp]; rfl,
    packsLaw_congr (fun k => by rw [isSome_itemAt_map index items]; exact id) (by rw [lbc]; rfl), fun law => ?_⟩
  · rw [items] at mem
    obtain ⟨k, old, rfl⟩ := List.mem_map.1 mem
    exact atNumber_ind (p := fun x => x.pending.isSome → x.state = .active) (fun _ none => nomatch none) (law k old)
  · rw [items] at mem
    obtain ⟨k, old, rfl⟩ := List.mem_map.1 mem
    rw [index] at ne
    have unnamed : k.number ≠ n := fun named => ne (congrArg Item.index (dir.eq_of_number found old named))
    rw [other unnamed] at gone ⊢
    exact law k old gone
  · rw [lists]
    exact copyListLaw_sublist (by rw [entries_withdrawIn]; exact List.filter_sublist) (law h)
  · rw [lists, entries_withdrawIn] at mem
    obtain ⟨old, unnamed⟩ := List.mem_filter.1 mem
    have good := law h e old
    refine EntryGood.congr ?_ good
    obtain ⟨⟨j, at_e, named, -⟩, -⟩ := good
    rw [itemAt_map index items, at_e, Option.map_some, other (by rw [named]; simpa using unnamed)]
  · have same (p : Printer) : queue p (withdrawCopies n (onItemNumber n withdrawn s)) = queue p s := by rw [queue, lbc]; rfl
    rw [QueueLaw, queuedTags] at law ⊢
    simpa only [same] using law

theorem upheld_withdrawItem (n : Nat) : Upheld s (withdrawItem n s).state := by
  unfold withdrawItem named
  split
  · exact (Tended.refl s).upheld
  split
  · exact (Tended.refl s).upheld
  next i found =>
    dsimp only
    split
    · exact (Tended.refl s).upheld
    · exact (unpurged_withdraw found).purged

/-! ### The drain (R168) -/

/-- An accumulator emptied: the record keeps all else. -/
theorem unpurged_clearItem {n : Nat} {i : Item} (found : findItem n s = some i) :
    Unpurged i.index s (clearAt (.item n) s) := by
  have fields (j : Item) : recordCore (atNumber n (fun i => { i with acc := emptyAcc }) j) = recordCore j
      ∧ (atNumber n (fun i => { i with acc := emptyAcc }) j).pending = j.pending
      ∧ (atNumber n (fun i => { i with acc := emptyAcc }) j).refs = j.refs :=
    atNumber_ind (p := fun x => recordCore x = recordCore j ∧ x.pending = j.pending ∧ x.refs = j.refs)
      (fun _ => ⟨rfl, rfl, rfl⟩) ⟨rfl, rfl, rfl⟩
  have core (j : Item) := (fields j).1
  simp only [recordCore, Prod.mk.injEq] at core
  have index (j : Item) := (core j).2.1
  have items : (clearAt (.item n) s).itb.items = s.itb.items.map (atNumber n fun i => { i with acc := emptyAcc }) := rfl
  refine ⟨directory_map (fun j => (core j).1) items, places_map index items, fun _ law j mem => ?_,
    fun dir _ law j mem ne gone => ?_,
    id, fun _ _ _ law h e mem => EntryGood.congr ?_ (law h e mem), id,
    refsLaw_congr (refsAt_map index (fun j => (fields j).2.2) items) fun _ _ => rfl,
    packsLaw_congr (fun k => by rw [isSome_itemAt_map index items]; exact id) rfl, id⟩
  · rw [items] at mem
    obtain ⟨k, old, rfl⟩ := List.mem_map.1 mem
    rw [(fields k).2.1, (core k).2.2.1]
    exact law k old
  · rw [items] at mem
    obtain ⟨k, old, rfl⟩ := List.mem_map.1 mem
    rw [index] at ne
    have unnamed : k.number ≠ n := fun named => ne (congrArg Item.index (dir.eq_of_number found old named))
    rw [atNumber, if_neg (by simpa using unnamed)] at gone ⊢
    exact law k old gone
  · rw [itemAt_map index items, Option.map_map]
    exact congrArg (fun f => Option.map f _) (funext fun j => (fields j).1)

theorem tended_clearAt {k : AccKey} (noItem : itemOfKey k s = none) : Tended s (clearAt k s) := by
  cases k with
  | item n =>
    have unnamed := findItem_eq_none.1 (show findItem n s = none from noItem)
    have items : (clearAt (.item n) s).itb.items = s.itb.items := by
      refine (onItemNumber_items ..).trans ((List.map_congr_left fun j mem => ?_).trans (List.map_id _))
      exact if_neg (by simpa using unnamed j mem)
    exact .of_blocks ⟨items, rfl, rfl, rfl, rfl⟩
  | grand | head | operator | department => exact .of_blocks ⟨rfl, rfl, rfl, rfl, rfl⟩

theorem upheld_drainOne (k : AccKey) : Upheld s (drainOne k s).2 := by
  have counted (u : State) (o : Tot) : Tended u { u with tot := o } := .of_blocks ⟨rfl, rfl, rfl, rfl, rfl⟩
  refine Upheld.trans_tended ?_ (counted (drainPurge (itemOfKey k s) (clearAt k s)) _)
  cases item : itemOfKey k s with
  | none => exact (tended_clearAt item).upheld
  | some i =>
    cases k with
    | item n => exact (unpurged_clearItem item).purged
    | grand | head | operator | department => cases item

theorem upheld_readClosing (n : Nat) : Upheld s (readClosing n s).state := by
  have ended : Tended s (endDrain s) := .of_blocks ⟨rfl, rfl, rfl, rfl, rfl⟩
  unfold readClosing
  split
  · exact (Tended.refl s).upheld
  split
  · exact (Tended.refl s).upheld
  split
  · unfold drainNext
    split
    · exact upheld_drainOne _
    · exact ended.upheld
  · unfold drainRepeat
    split <;> exact (Tended.refl s).upheld

end Sys2Proof.Machine
end

section
/-! SUPPORT. `Upheld` at every row, and the settlement of the step lemmas for the item table with the copy lists and for
the references. -/

namespace Sys2Proof.Machine

variable {s t : State}

theorem tended_settle (old s : State) : Tended s (settle old s) := .of_sameBehind (sameBehind_settle old s)

theorem tended_noted (old s : State) : Tended s (noted old s) := .of_sameBehind (sameBehind_noted old s)

/-- The row of an event. -/
theorem upheld_event {f : State → State} (e : takes f s = .next t) (work : Upheld s (f s)) : Upheld s t := by
  obtain ⟨-, rfl⟩ | ⟨-, rfl⟩ := takes_next e
  · exact (Tended.refl _).upheld
  · exact work.trans_tended ((tended_settle ..).trans (tended_noted ..))

theorem tended_event {f : State → State} (e : takes f s = .next t) (work : Tended s (f s)) : Upheld s t :=
  upheld_event e work.upheld

/-- The row of a command of the host. -/
theorem upheld_command {pick : HostCmd → Option (State → Answer)} (e : takes (owner pick) s = .next t)
    (work : ∀ c f, pick c = some f → Upheld s (f s).state) : Upheld s t := by
  refine upheld_event e ?_
  unfold owner
  split
  · exact (Tended.refl s).upheld
  · split
    next f hf => exact (work _ _ hf).trans_tended (.of_blocks ⟨rfl, rfl, rfl, rfl, rfl⟩)
    · exact (Tended.refl s).upheld

theorem tended_command {pick : HostCmd → Option (State → Answer)} (e : takes (owner pick) s = .next t)
    (work : ∀ c f, pick c = some f → Tended s (f s).state) : Upheld s t :=
  upheld_command e fun c f h => (work c f h).upheld

/-- The reset state has no records and no entries, and meets the laws of heads, references and packs. -/
theorem upheld_powerOn (e : exec .powerOnReset s = .next t) : Upheld s t := by
  cases e
  exact ⟨⟨fun _ => List.Pairwise.nil, fun _ => ⟨List.nodup_nil, nofun⟩, fun _ _ => nofun, fun _ _ _ => nofun,
    fun _ => copyLaw_reset, fun _ _ _ _ => entryLaw_reset⟩, fun _ => holderLaw_reset, fun _ _ _ _ => refsLaw_reset,
    fun _ _ _ _ => packsLaw_reset⟩

theorem tended_pin (low : Bool) : Tended s { s with resetLow := low } := .of_blocks ⟨rfl, rfl, rfl, rfl, rfl⟩

theorem upheld_pinFall (e : exec .resetPinFall s = .next t) : Upheld s t := by
  cases e
  exact (tended_hubReset.trans (((tended_settle s _).trans (tended_pin true)).trans (tended_noted ..))).upheld

theorem upheld_pinRise (e : exec .resetPinRise s = .next t) : Upheld s t := by
  cases e
  exact ((tended_pin false).trans (tended_noted ..)).upheld

theorem upheld_transacts {f : State → State} (e : transacts f s = .next t) (work : Tended s (f s)) : Upheld s t := by
  unfold transacts at e
  split at e
  · cases e; exact (Tended.refl s).upheld
  · cases e; exact work.upheld

/-- The rows of the commands that write none of the blocks that the laws read. -/
def asideCommands : List Instr :=
  [.setSlots, .linkRestart, .readLink, .readHead, .findItem, .nextItem, .readCopies, .readQueue, .listTickets, .readTicket,
    .readHold, .readStatus]

theorem upheld_asideCommand {c : Instr} (hc : c ∈ asideCommands) (e : exec c s = .next t) : Upheld s t := by
  simp only [asideCommands, List.mem_cons, List.not_mem_nil, or_false] at hc
  rcases hc with rfl | rfl | rfl | rfl | rfl | rfl | rfl | rfl | rfl | rfl | rfl | rfl <;>
    exact tended_command e fun c f h => by split at h <;> cases h; exact .of_blocks (by simp)

/-- The rows of the keys. -/
theorem upheld_key (k : KeyKind) (h : Head) (e : exec (keyRow k h) s = .next t) : Upheld s t := by
  cases k
  case signOn => exact tended_event e (tended_takeKey fun n _ _ => tended_signOnKey h n)
  case signOff => exact tended_event e (tended_takeKey fun _ _ _ => tended_signOff h)
  case item => exact tended_event e (tended_takeKey fun n _ _ => tended_askItem h n)
  case count => exact tended_event e (tended_takeKey fun n _ _ => tended_countKey h n)
  case zero | tare => exact tended_event e (tended_takeKey fun _ _ _ => tended_weighingKey h _)
  case clearTare => exact tended_event e (tended_takeKey fun _ _ _ => tended_onChan h _)
  case next => exact tended_event e (tended_takeKey fun _ _ _ => tended_nextKey h)
  case skip => exact tended_event e (tended_takeKey fun _ _ _ => tended_skipKey h)
  case openKey => exact tended_event e (tended_takeKey fun _ _ _ => tended_openKey h)
  case park => exact tended_event e (tended_takeKey fun _ _ _ => tended_withTicket fun _ held => tended_park held)
  case pick => exact tended_event e (tended_takeKey fun n _ signed => tended_pickKey (signed rfl) n)
  case voidLast => exact tended_event e (tended_takeKey fun _ _ _ => tended_withTicket fun _ held => tended_voidLast held)
  case voidTicket => exact tended_event e (tended_takeKey fun _ _ _ => tended_withTicket fun _ held => tended_void held)
  case total => exact tended_event e (tended_takeKey fun _ _ _ => tended_withTicket fun _ held => tended_totalTicket held)
  case label => exact tended_event e (tended_takeKey fun _ _ _ => tended_labelKey h)
  case batch => exact tended_event e (tended_takeKey fun n _ _ => tended_batchKey h n)
  case clear => exact tended_event e (tended_takeKey fun _ _ _ => tended_clearKey h)

theorem tended_frameHeadsTaken : Tended s (eachHead frameHead { s with hand := { s.hand with hsu := s.hand.hsu - 1 } }) := by
  have counted : Tended s { s with hand := { s.hand with hsu := s.hand.hsu - 1 } } := .of_blocks ⟨rfl, rfl, rfl, rfl, rfl⟩
  exact counted.trans (.foldl (fun _ h => tended_frameHead h) _ _)

theorem tended_frameTicketsTaken : Tended s (allTickets.foldl (fun s t => frameTicket t s)
    { s with hand := { s.hand with tkp := s.hand.tkp - 1 } }) := by
  have counted : Tended s { s with hand := { s.hand with tkp := s.hand.tkp - 1 } } := .of_blocks ⟨rfl, rfl, rfl, rfl, rfl⟩
  exact counted.trans (.foldl (fun _ k => tended_frameTicket k) _ _)

theorem tended_copiesAged : Tended s (ageCopies { s with hand := { s.hand with ccu := s.hand.ccu - 1 } }) := by
  have counted : Tended s { s with hand := { s.hand with ccu := s.hand.ccu - 1 } } := .of_blocks ⟨rfl, rfl, rfl, rfl, rfl⟩
  exact counted.trans tended_ageCopies

theorem tended_frameRequest (h : Head) : Tended s (frameRequest h s) := .of_tickets (calm_frameRequest h).holderLaw (by simp)

theorem tended_sendHeadUpdate (h : Head) : Tended s (sendHeadUpdate h s) :=
  .ite ((tended_copyOperation h).trans (tended_send ..)) (.refl s)

/-- Every row keeps the laws. -/
theorem upheld_exec (c : Instr) (e : exec c s = .next t) : Upheld s t := by
  cases c
  case powerOnReset => exact upheld_powerOn e
  case resetPinFall => exact upheld_pinFall e
  case resetPinRise => exact upheld_pinRise e
  case commandTransaction => exact upheld_transacts e (.of_blocks (by simp))
  case responseTransaction => exact upheld_transacts e (.of_blocks (by simp))
  case configureHead => exact tended_command e fun c f h => by split at h <;> cases h; exact tended_configureHead _
  case configurePair => exact tended_command e fun c f h => by split at h <;> cases h; exact tended_configurePair _
  case addItem => exact tended_command e fun c f h => by split at h <;> cases h; exact tended_addItem ..
  case updateItem => exact tended_command e fun c f h => by split at h <;> cases h; exact tended_updateItem _
  case stagePrice => exact tended_command e fun c f h => by split at h <;> cases h; exact tended_stagePrice ..
  case unstagePrice => exact tended_command e fun c f h => by split at h <;> cases h; exact tended_unstagePrice _
  case commitPrices => exact tended_command e fun c f h => by split at h <;> cases h; exact tended_commitPrices
  case reinstateItem => exact tended_command e fun c f h => by split at h <;> cases h; exact tended_reinstateItem _
  case withdrawItem => exact upheld_command e fun c f h => by split at h <;> cases h; exact upheld_withdrawItem _
  case setNumberRange => exact tended_command e fun c f h => by split at h <;> cases h; exact tended_setNumberRange ..
  case voidTicket => exact tended_command e fun c f h => by split at h <;> cases h; exact tended_voidTicketCommand ..
  case collectTicket => exact tended_command e fun c f h => by split at h <;> cases h; exact tended_collectTicket ..
  case setCollection => exact tended_command e fun c f h => by split at h <;> cases h; exact tended_setCollection _
  case printText => exact tended_command e fun c f h => by split at h <;> cases h; exact tended_printText ..
  case cancelJob => exact tended_command e fun c f h => by split at h <;> cases h; exact tended_cancelJob _
  case redirectJobs => exact tended_command e fun c f h => by split at h <;> cases h; exact tended_redirectJobs ..
  case readPrinter => exact tended_command e fun c f h => by split at h <;> cases h; exact .of_blocks (by simp)
  case openDay => exact tended_command e fun c f h => by split at h <;> cases h; exact tended_openDay ..
  case closeDay => exact tended_command e fun c f h => by split at h <;> cases h; exact tended_closeDay
  case readTotals => exact tended_command e fun c f h => by split at h <;> cases h; exact tended_readTotals _
  case readClosing => exact upheld_command e fun c f h => by split at h <;> cases h; exact upheld_readClosing _
  case hubReset => exact tended_command e fun c f h => by split at h <;> cases h; exact tended_hubReset
  case setSlots | linkRestart | readLink | readHead | findItem | nextItem | readCopies | readQueue | listTickets | readTicket
      | readHold | readStatus =>
    exact upheld_asideCommand (by simp [asideCommands]) e
  case frameStart => exact tended_event e tended_frameStart
  case slotMaskTakesEffect => exact tended_event e tended_applyMask
  case linkRestartTakesEffect => exact tended_event e tended_applyRestart
  case joinWaitExpiry => exact tended_event e (.ite (tended_joinWait _) (.refl s))
  case headServiceFrameStart =>
    exact tended_event ((exec_headServiceFrameStart s).symm.trans e) (.ite (.refl s) tended_frameHeadsTaken)
  case captureTimeout => exact tended_event e (.ite (tended_frameRequest _) (.refl s))
  case messageExpiry => exact tended_event e (.ite (tended_onCtx _ _ rfl) (.refl s))
  case copyFrameStart => exact tended_event ((exec_copyFrameStart s).symm.trans e) (.ite (.refl s) tended_copiesAged)
  case ticketFrameStart =>
    exact tended_event ((exec_ticketFrameStart s).symm.trans e) (.ite (.refl s) tended_frameTicketsTaken)
  case ticketIdlePark => exact tended_event e (.ite (tended_idlePark _) (.refl s))
  case frameNotice => exact tended_event e (.of_blocks ⟨rfl, rfl, rfl, rfl, rfl⟩)
  case welcome => exact tended_event e (.of_blocks (by simp))
  case headUpdate => exact tended_event e (tended_sendHeadUpdate _)
  case printerUpdate => exact tended_event e (tended_sendPrinterUpdate _)
  case dispenserUpdate => exact tended_event e tended_sendDispenserUpdate
  case headReport | printerReport | dispenserReport | join | upstreamRejected | upstreamMiss =>
    exact tended_event e (tended_upstreamPart _ _)
  case silenceLoss => exact tended_event e (.ite (tended_upstreamPart _ _) (.refl s))
  case channelSample h => exact tended_event ((exec_channelSample h s).symm.trans e) (tended_takeHanded ..)
  case cellFaultEntry h => exact tended_event ((exec_cellFaultEntry h s).symm.trans e) (tended_takeHanded ..)
  case cellFaultRecovery h => exact tended_event ((exec_cellFaultRecovery h s).symm.trans e) (tended_takeHanded ..)
  case copyAck h =>
    refine tended_event ((exec_copyAck h s).symm.trans e) ?_
    split
    · exact .refl s
    · exact (tended_onInbox h _).trans (tended_takeAck ..)
  case captureLineComplete => exact tended_event e (.ite (tended_examine _) (.refl s))
  case captureLabelComplete h =>
    exact tended_event ((exec_captureLabelComplete h s).symm.trans e) (.ite (.refl s) (tended_examine h))
  case keySignOn h => exact upheld_key .signOn h e
  case keySignOff h => exact upheld_key .signOff h e
  case keyItem h => exact upheld_key .item h e
  case keyCount h => exact upheld_key .count h e
  case keyZero h => exact upheld_key .zero h e
  case keyTare h => exact upheld_key .tare h e
  case keyClearTare h => exact upheld_key .clearTare h e
  case keyNext h => exact upheld_key .next h e
  case keySkip h => exact upheld_key .skip h e
  case keyOpen h => exact upheld_key .openKey h e
  case keyPark h => exact upheld_key .park h e
  case keyPick h => exact upheld_key .pick h e
  case keyVoidLast h => exact upheld_key .voidLast h e
  case keyVoidTicket h => exact upheld_key .voidTicket h e
  case keyTotal h => exact upheld_key .total h e
  case keyLabel h => exact upheld_key .label h e
  case keyBatch h => exact upheld_key .batch h e
  case keyClear h => exact upheld_key .clear h e

/-- A step is the front row of the queue, and an empty queue changes nothing. -/
theorem upheld_step (e : step s = .next t) : ∃ rest, Upheld { s with pending := rest } t := by
  unfold step at e
  split at e
  · cases e; exact ⟨_, (Tended.refl s).upheld⟩
  next c rest _ => exact ⟨rest, upheld_exec c e⟩

/-- Settles O55: the laws do not read the queue of events, and the row at its front keeps them. -/
theorem stepKeepsItemTableAndCopies : Obligations.StepKeepsItemTableAndCopies := by
  intro s t e
  obtain ⟨rest, kept⟩ := upheld_step e
  exact ⟨fun dir places => ⟨kept.directory dir, kept.places places⟩, kept.pending, kept.copies, kept.purge, kept.entries⟩

/-- Settles O58: the row at the front of the queue keeps the counts and the records under packs. -/
theorem stepKeepsReferences : Obligations.StepKeepsReferences := by
  intro s t e dir places
  obtain ⟨rest, kept⟩ := upheld_step e
  exact ⟨kept.refs dir places, kept.packs dir places⟩

end Sys2Proof.Machine
end

section
/-! SUPPORT. The item commands' refusals, and the settlements of NEXT_ITEM and ADD_ITEM. -/

namespace Sys2Proof.Machine

variable {s t : State}

/-! ### NEXT_ITEM (R64) -/

/-- In an ascending list the first element of a kind is the least one. -/
theorem find?_least {α : Type} {key : α → Nat} {p : α → Bool} {xs : List α} (sorted : xs.Pairwise fun a b => key a < key b)
    {x : α} (mem : x ∈ xs) (kind : p x = true) (least : ∀ y ∈ xs, p y = true → key x ≤ key y) : xs.find? p = some x := by
  induction xs with
  | nil => cases mem
  | cons y ys ih =>
    obtain ⟨first, sorted⟩ := List.pairwise_cons.1 sorted
    cases py : p y with
    | false =>
      have later : x ∈ ys := (List.mem_cons.1 mem).resolve_left fun e => by rw [e, py] at kind; cases kind
      rw [List.find?_cons_of_neg (by simp [py])]
      exact ih sorted later fun z there => least z (List.mem_cons_of_mem _ there)
    | true =>
      rw [List.find?_cons_of_pos py]
      rcases List.mem_cons.1 mem with rfl | later
      · rfl
      · exact absurd (least y List.mem_cons_self py) (not_le.2 (first x later))

theorem nextItem_found {k : Nat} {i : Item} (dir : Directory s) (mem : i ∈ s.itb.items) (greater : k < i.number)
    (least : ∀ j ∈ s.itb.items, k < j.number → i.number ≤ j.number) : nextItem k s = some i :=
  find?_least (key := Item.number) dir mem (by simpa using greater) fun j there more => least j there (by simpa using more)

theorem nextItem_missing {k : Nat} (last : ∀ i ∈ s.itb.items, i.number ≤ k) : nextItem k s = none := by
  simpa [nextItem, List.find?_eq_none] using last

/-- The number is within the limit, so NEXT_ITEM answers the record after it. -/
theorem nextItemCommand_eq {k : Nat} (range : k ≤ 999999) : nextItemCommand k s
    = match nextItem k s with
      | none => ⟨.notFound, .empty, s⟩
      | some i => ⟨.done, .item i s.itb.items.length s.itb.generation, s⟩ := by
  rw [nextItemCommand, if_neg (show ¬Config.itemNumberLimit < k from Nat.not_lt.2 range)]
  cases nextItem k s <;> rfl

/-- Settles O13: the directory ascends, so the first record with a greater number is the one with the least. -/
theorem nextItemWalksDirectory : Obligations.NextItemWalksDirectory := by
  intro n k s taking range dir
  refine ⟨fun i mem greater least => takes_owner_unchanged taking rfl ?_, fun last => takes_owner_unchanged taking rfl ?_⟩
  · rw [nextItemCommand_eq range, nextItem_found dir mem greater least]
  · rw [nextItemCommand_eq range, nextItem_missing last]

/-! ### The fields of an item (R55) -/

theorem charsGood_iff (text : List Byte) : charsGood text = true ↔ ∀ c ∈ text, 32 ≤ c.toNat ∧ c.toNat ≤ 126 := by
  simp [charsGood]

theorem saleModeOf_iff (k : Nat) (m : SaleMode) : saleModeOf k = some m
    ↔ (m, k) ∈ [(SaleMode.weighed, 0), (.counted, 1), (.fixed, 2)] := by
  unfold saleModeOf
  split <;> cases m <;> simp_all

theorem itemFieldsOf_iff (f : RawItem) (g : ItemFields) : itemFieldsOf f = some g ↔
    g.number = f.number ∧ 1 ≤ f.number ∧ f.number ≤ 999999
      ∧ g.name = f.name ∧ 1 ≤ f.name.length ∧ f.name.length ≤ 24 ∧ (∀ c ∈ f.name, 32 ≤ c.toNat ∧ c.toNat ≤ 126)
      ∧ (g.mode, f.mode) ∈ [(SaleMode.weighed, 0), (.counted, 1), (.fixed, 2)]
      ∧ g.preset = f.preset ∧ (∀ x, f.preset = some x → 1 ≤ x ∧ x ≤ 10000)
      ∧ g.shelf = f.shelf ∧ (∀ x, f.shelf = some x → x ≤ 365) ∧ g.dept.val = f.dept ∧ g.format.val = f.format := by
  obtain ⟨number, name, mode, preset, shelf, dept, format⟩ := g
  simp only [itemFieldsOf, Option.bind_eq_bind, Option.bind_eq_some_iff, Option.ite_none_right_eq_some, index?_iff,
    Bool.and_eq_true, numberGood_iff, charsGood_iff, ← saleModeOf_iff, decide_eq_true_iff, Option.all_eq_true,
    Option.some.injEq, ItemFields.mk.injEq]
  constructor
  · rintro ⟨m, hm, d, hd, r, hr, ⟨⟨⟨⟨⟨range, short⟩, long⟩, chars⟩, tare⟩, days⟩, rfl, rfl, rfl, rfl, rfl, rfl, rfl⟩
    exact ⟨rfl, range.1, range.2, rfl, short, long, chars, hm, rfl, tare, rfl, days, hd.symm, hr.symm⟩
  · rintro ⟨rfl, low, high, rfl, short, long, chars, hm, rfl, tare, rfl, days, hd, hr⟩
    exact ⟨mode, hm, dept, hd.symm, format, hr.symm, ⟨⟨⟨⟨⟨⟨low, high⟩, short⟩, long⟩, chars⟩, tare⟩, days⟩, rfl, rfl,
      rfl, rfl, rfl, rfl, rfl⟩

theorem itemFieldsOf_some {f : RawItem} {g : ItemFields} (good : itemFieldsOf f = some g) :
    g = ⟨f.number, f.name, g.mode, f.preset, f.shelf, g.dept, g.format⟩ ∧ 1 ≤ f.number ∧ f.number ≤ 999999 := by
  obtain ⟨number, low, high, name, -, -, -, -, preset, -, shelf, -⟩ := (itemFieldsOf_iff f g).1 good
  obtain ⟨_, _, _, _, _, _, _⟩ := g
  simp_all

/-! ### ADD_ITEM (R60, R61) -/

theorem freeIndex_none {is : List Item} (full : ∀ k < 1024, ∃ i ∈ is, i.index = k) : freeIndex is = none := by
  rw [freeIndex, List.find?_eq_none]
  intro k mem
  obtain ⟨i, there, rfl⟩ := full k (List.mem_range.1 mem)
  simpa using ⟨i, there, rfl⟩

theorem freeIndex_lowest {is : List Item} {k : Nat} (range : k < 1024) (free : ∀ i ∈ is, i.index ≠ k)
    (below : ∀ j < k, ∃ i ∈ is, i.index = j) : freeIndex is = some k := by
  rw [freeIndex]
  refine find?_least (key := id) List.pairwise_lt_range (List.mem_range.2 range) (by simpa using free) fun j _ unused => ?_
  refine not_lt.1 fun lower => ?_
  obtain ⟨i, there, rfl⟩ := below j lower
  simp only [Bool.not_eq_true', List.any_eq_false, beq_iff_eq] at unused
  exact unused i there rfl

section
variable {f : RawItem} {g : ItemFields} {price : Nat}

theorem addItem_bad (bad : itemFieldsOf f = none) : addItem f price s = ⟨.badValue, .empty, s⟩ := by
  simp [addItem, bad, refuse]

theorem addItem_dear (good : itemFieldsOf f = some g) (dear : 999999 < price) :
    addItem f price s = ⟨.badValue, .empty, s⟩ := by
  simp [addItem, good, refuse, Config.priceLimit, dear]

/-- With good fields and a good price ADD_ITEM looks for the number, then for a free index. -/
theorem addItem_good (good : itemFieldsOf f = some g) (cheap : price ≤ 999999) : addItem f price s
    = if (findItem f.number s).isSome then ⟨.existsAlready, .empty, s⟩
      else match freeIndex s.itb.items with
        | none => ⟨.full, .empty, s⟩
        | some k => ⟨.done, .added k, onItems (insertItem (newItem g price k)) s⟩ := by
  have number : g.number = f.number := congrArg ItemFields.number (itemFieldsOf_some good).1
  simp only [addItem, good, number, if_neg (show ¬Config.priceLimit < price from Nat.not_lt.2 cheap)]
  cases freeIndex s.itb.items <;> rfl

theorem addItem_exists (good : itemFieldsOf f = some g) (cheap : price ≤ 999999) (known : findItem f.number s ≠ none) :
    addItem f price s = ⟨.existsAlready, .empty, s⟩ := by
  rw [addItem_good good cheap, if_pos (Option.isSome_iff_ne_none.2 known)]

theorem addItem_full (good : itemFieldsOf f = some g) (cheap : price ≤ 999999) (new : findItem f.number s = none)
    (full : freeIndex s.itb.items = none) : addItem f price s = ⟨.full, .empty, s⟩ := by
  rw [addItem_good good cheap, new, full]
  rfl

theorem addItem_added {k : Nat} (good : itemFieldsOf f = some g) (cheap : price ≤ 999999) (new : findItem f.number s = none)
    (free : freeIndex s.itb.items = some k) :
    addItem f price s = ⟨.done, .added k, onItems (insertItem (newItem g price k)) s⟩ := by
  rw [addItem_good good cheap, new, free]
  rfl

end

/-- The inserted record is found by its number, and the others as before. -/
theorem findItem_insertItem {i : Item} (items : t.itb.items = insertItem i s.itb.items) (new : findItem i.number s = none)
    (m : Nat) :
    findItem m t = if m = i.number then some i else findItem m s := by
  rw [findItem, items]
  split
  next e =>
    subst e
    exact find?_insertItem_of_only (by simp) fun j mem => by simpa using findItem_eq_none.1 new j mem
  next other => exact find?_insertItem_of_not (by simpa using Ne.symm other) _

/-- Settles O34: the refusals leave the state alone, and the record added is inserted into the directory. -/
theorem addItemPlacesRecord : Obligations.AddItemPlacesRecord := by
  refine ⟨fun n f price s g taking good => ⟨fun dear => ?_, fun cheap known => ?_, fun cheap new full => ?_,
    fun k range cheap new free below => ?_⟩, itemFieldsOf_iff, fun n f price s bad => ⟨fun taking => ?_, fun taking => ?_⟩⟩
  · exact takes_owner_unchanged taking rfl (addItem_dear good dear)
  · exact takes_owner_unchanged taking rfl (addItem_exists good cheap known)
  · exact takes_owner_unchanged taking rfl (addItem_full good cheap new (freeIndex_none full))
  · have added := addItem_added good cheap new (freeIndex_lowest range free below)
    obtain ⟨t, e, same⟩ := takes_owner_sameBehind (pick := fun
      | .addItem f p => some (addItem f p)
      | _ => none) taking rfl added
    obtain ⟨fields, -⟩ := itemFieldsOf_some good
    obtain ⟨-, -, -, -, -, -, -, -, -, itb, -⟩ := same.blocks
    have items : t.itb.items = insertItem (newItem g price k) s.itb.items := congrArg Itb.items itb
    have number : (newItem g price k).number = f.number := congrArg ItemFields.number fields
    have found := findItem_insertItem items (by rw [number]; exact new)
    refine ⟨t, e, by rw [items]; exact same, ?_, fun m other => ?_, ?_⟩
    · rw [found, number, if_pos rfl, fields]
      rfl
    · rw [found, number, if_neg other]
    · rw [items, (insertItem_perm _ _).length_eq, List.length_cons]
  · exact takes_owner_unchanged taking rfl (addItem_bad bad)
  · exact takes_owner_unchanged taking rfl (by simp [updateItem, bad, refuse])

end Sys2Proof.Machine
end

section
/-! SUPPORT. Copies turned STALE and offers renewed, and the settlements of UPDATE_ITEM with REINSTATE_ITEM and of the
staged and committed prices. -/

namespace Sys2Proof.Machine

variable {s t u v : State}

/-! ### Commands that name a record (R60) -/

section
variable {n : Nat} {ok : Bool} {f : Item → State → Answer}

theorem named_bad (range : n = 0 ∨ 999999 < n) : named n ok f s = ⟨.badValue, .empty, s⟩ := by
  have bad : numberGood n = false := by
    rw [Bool.eq_false_iff, Ne, numberGood_iff]
    omega
  simp [named, bad, refuse]

theorem named_missing (range : 1 ≤ n ∧ n ≤ 999999) (missing : findItem n s = none) :
    named n true f s = ⟨.notFound, .empty, s⟩ := by
  simp [named, (numberGood_iff n).2 range, missing, refuse]

theorem named_found {i : Item} (range : 1 ≤ n ∧ n ≤ 999999) (found : findItem n s = some i) : named n true f s = f i s := by
  simp [named, (numberGood_iff n).2 range, found]

end

/-! ### Copies turned STALE (R81) -/

/-- One write of the copy list of each head writes the copy lists alone. -/
theorem eachHead_onCopies_lists (f : CopyList → CopyList) (s : State) : eachHead (fun h => onCopies h f) s
    = { s with ccu := { s.ccu with lists := (eachHead (fun h => onCopies h f) s).ccu.lists } } := by
  have kept := eachHead_keeps (fun u : State => { u with ccu := { u.ccu with lists := s.ccu.lists } })
    (f := fun h => onCopies h f) (fun _ _ => rfl) s
  exact congrArg (fun u : State => { u with ccu := { u.ccu with lists := (eachHead (fun h => onCopies h f) s).ccu.lists } }) kept

theorem staleCopies_lists (changed : Nat → Bool) (s : State) : staleCopies changed s
    = { s with ccu := { s.ccu with lists := (staleCopies changed s).ccu.lists } } := eachHead_onCopies_lists _ s

/-- The lists that a staling leaves, with all else as it was, are its state. -/
theorem staleCopies_eq {changed : Nat → Bool}
    (lists : ∀ h, copies h v = ⟨(copies h s).entries.map (stalened changed), (copies h s).drops⟩)
    (rest : v = { s with ccu := { s.ccu with lists := v.ccu.lists } }) : staleCopies changed s = v := by
  have same : (staleCopies changed s).ccu.lists = v.ccu.lists :=
    Table.ext_look fun h => (copies_staleCopies changed h s).trans (lists h).symm
  rw [staleCopies_lists, same, ← rest]

/-- A staling of copies and a change of records do not meet. -/
theorem staleCopies_onItemNumber {changed : Nat → Bool} {n : Nat} {f : Item → Item} (lists : staleCopies changed s = u) :
    staleCopies changed (onItemNumber n f s) = onItemNumber n f u := by
  subst lists
  refine staleCopies_eq (fun h => copies_staleCopies changed h s) ?_
  exact congrArg (onItemNumber n f) (staleCopies_lists changed s)

/-! ### Offers renewed (R51) -/

theorem itemInHand_renewOffer (a b : Head) (s : State) : itemInHand b (renewOffer a s) = itemInHand b s := rfl

/-- After the offers of an item are renewed, a head that has it in hand is offered its preset tare. -/
theorem offer_renewOffers {n : Nat} {h : Head} (hand : itemInHand h s = some n) :
    (chan h (renewOffers n s)).offer = (findItem n s).bind (·.preset) := by
  have renewed := eachHead_at (fun h u => (chan h u).offer)
    (f := fun h s => if itemInHand h s == some n then renewOffer h s else s)
    (fun h d => if itemInHand h s = some n then (findItem n s).bind (·.preset) else d)
    (p := fun u => (∀ h, itemInHand h u = itemInHand h s) ∧ u.itb = s.itb) (fun a u same => ?_) ⟨fun _ => rfl, rfl⟩ h
  · rw [renewOffers, renewed, if_pos hand]
  · obtain ⟨hands, table⟩ := same
    simp only [hands, beq_iff_eq]
    split
    next at_a =>
      refine ⟨⟨fun b => (itemInHand_renewOffer a b u).trans (hands b), table⟩, fun b => ?_⟩
      have offered : offerFor a u = (findItem n s).bind (·.preset) := by
        rw [offerFor, hands, at_a]
        exact congrArg (Option.bind · _) (findItem_congr (congrArg Itb.items table) n)
      have written := congrArg Prod.snd (shownAt_renewOffer a b u)
      rw [← offered]
      refine written.trans ?_
      split <;> rfl
    · exact ⟨⟨hands, table⟩, fun b => by split <;> simp_all⟩

theorem sameBehind_renewOffers (n : Nat) (s : State) : SameBehind (renewOffers n s) s :=
  eachHead_keeps behind (fun h u => by
    split
    · exact behind_renewOffer h u
    · rfl) s

/-! ### UPDATE_ITEM and REINSTATE_ITEM (R62, R70) -/

/-- What the row of a command that is taken leaves. -/
theorem takes_owner_settled {pick : HostCmd → Option (State → Answer)} {n : Byte} {c : HostCmd} {f : State → Answer}
    (taking : Taking n c s)
    (picked : pick c = some f) : takes (owner pick) s = .next (noted s (settle s (place ⟨n, c⟩ (f s)))) := by
  rw [takes_high _ taking.1, owner_some taking.2 picked]

theorem updateItem_missing {f : RawItem} {g : ItemFields} (good : itemFieldsOf f = some g)
    (missing : findItem f.number s = none) :
    updateItem f s = ⟨.notFound, .empty, s⟩ := by
  have number : g.number = f.number := congrArg ItemFields.number (itemFieldsOf_some good).1
  simp [updateItem, good, number, missing, refuse]

theorem updateItem_found {f : RawItem} {g : ItemFields} {i : Item} (good : itemFieldsOf f = some g)
    (found : findItem f.number s = some i) (lists : staleCopies (· == i.index) s = u) : updateItem f s
    = ⟨.done, .updated (i.version + 1), if i.preset = f.preset then onItemNumber f.number (updated g) u
      else renewOffers f.number (onItemNumber f.number (updated g) u)⟩ := by
  have fields := (itemFieldsOf_some good).1
  have number : g.number = f.number := congrArg ItemFields.number fields
  have preset : g.preset = f.preset := congrArg ItemFields.preset fields
  have staled := staleCopies_onItemNumber (n := f.number) (f := updated g) lists
  simp only [updateItem, good, number, found, preset, staled]
  rfl

theorem reinstateItem_found {n : Nat} {i : Item} (range : 1 ≤ n ∧ n ≤ 999999) (found : findItem n s = some i) :
    reinstateItem n s = if i.state = .active then ⟨.wrongState, .empty, s⟩ else ⟨.done, .empty, staleCopies (· == i.index)
      (onItemNumber n (fun r => { r with state := .active, version := r.version + 1 }) s)⟩ := by
  rw [reinstateItem, named_found range found]
  cases i.state <;> rfl

/-- The offer at a head that has an item in hand whose preset tare the row has renewed. -/
theorem offer_settled {h : Head} {p : Option Nat} (preset : offerFor h u = p)
    (offered : (chan h u).offer = p) : (chan h (noted s (settle s u))).offer = p := by
  have settled := congrArg Prod.snd ((shownAt_noted h s (settle s u)).trans (shownAt_settle s u h))
  refine settled.trans ?_
  simp only [settledAt]
  split
  · exact offered
  · exact preset

/-- A record changed under its number is found changed. -/
theorem findItem_onItemNumber {n : Nat} {f : Item → Item} (number : ∀ i, (f i).number = i.number) (m : Nat) :
    findItem m (onItemNumber n f s) = (findItem m s).map (atNumber n f) :=
  findItem_map (fun i => atNumber_ind (p := fun x => x.number = i.number) (fun _ => number i) rfl) (onItemNumber_items ..) m

theorem findItem_onItemNumber_same {n : Nat} {f : Item → Item} {i : Item} (number : ∀ i, (f i).number = i.number)
    (found : findItem n s = some i) : findItem n (onItemNumber n f s) = some (f i) := by
  rw [findItem_onItemNumber number, found, Option.map_some, atNumber, if_pos (by simpa using (findItem_found found).2)]

/-- The offer at a head that has an item in hand whose offers the row has renewed. -/
theorem offer_renewed {p : InProcess} {a : Answer} {k : Nat} {h : Head} {i : Item} (renewed : a.state = renewOffers k v)
    (found : findItem k v = some i) (hand : itemInHand h (place p a) = some k) :
    (chan h (noted s (settle s (place p a)))).offer = i.preset := by
  have items : a.state.itb.items = v.itb.items := by rw [renewed]; simp
  have foundHere : findItem k (place p a) = some i := (findItem_congr items k).trans found
  have before : itemInHand h v = some k := by
    rw [← ((sameBehind_renewOffers k v).offerFor h).1, ← renewed]
    exact hand
  refine offer_settled ?_ ?_
  · rw [offerFor, hand, Option.bind_some, foundHere, Option.bind_some]
  · have offered := offer_renewOffers before
    rw [found, ← renewed] at offered
    exact offered

/-- What UPDATE_ITEM leaves of a record found: the record in its place, and the offer of a preset tare that it changed. -/
theorem updateItem_taken {n : Byte} {f : RawItem} {g : ItemFields} {i : Item} (taking : Taking n (.updateItem f) s)
    (good : itemFieldsOf f = some g) (found : findItem f.number s = some i) (lists : staleCopies (· == i.index) s = u) :
    ∃ t, exec .updateItem s = .next t ∧ SameBehind t (answered n (.updateItem f) .done (.updated (i.version + 1))
        (onItemNumber f.number (updated g) u))
      ∧ ∀ h, i.preset ≠ f.preset → itemInHand h t = some f.number → (chan h t).offer = f.preset := by
  have work := updateItem_found good found lists
  have e := takes_owner_settled (pick := fun
    | .updateItem f => some (updateItem f)
    | _ => none) taking rfl
  rw [work] at e
  refine ⟨_, e, ?_⟩
  have ended (w : State) := (sameBehind_noted s (settle s w)).trans (sameBehind_settle s w)
  have foundIn : findItem f.number u = some i := by
    rw [← lists, findItem_congr (s := s) (by simp)]
    exact found
  have updatedIn := findItem_onItemNumber_same (f := updated g) (fun _ => rfl) foundIn
  have preset : g.preset = f.preset := congrArg ItemFields.preset (itemFieldsOf_some good).1
  refine ⟨(ended _).trans ((sameBehind_place ..).trans (SameBehind.answered ?_ ..)), fun h changed hand => ?_⟩
  · dsimp only
    split
    · exact .refl _
    · exact sameBehind_renewOffers ..
  · have inHand := ((ended _).offerFor h).1.symm.trans hand
    exact (offer_renewed (if_neg changed) updatedIn inHand).trans preset

theorem stalened_index (k : Nat) : stalened (· == k) = fun e : CopyEntry =>
    if e.index = k then { e with state := .stale, age := none } else e := by
  funext e
  by_cases same : e.index = k <;> simp [stalened, staleEntry, same]

/-- Settles O35: both turn the copies of the record STALE beside the change of the record itself. -/
theorem updateAndReinstateStaleCopies : Obligations.UpdateAndReinstateStaleCopies := by
  refine ⟨fun n k s f g => ⟨fun taking good missing => takes_owner_unchanged taking rfl (updateItem_missing good missing),
    fun taking range => takes_owner_unchanged taking rfl (named_bad range),
    fun taking low high missing => takes_owner_unchanged taking rfl (named_missing ⟨low, high⟩ missing)⟩,
    fun n s u i k f g found low high lists rest => ?_⟩
  have staled : staleCopies (· == i.index) s = u := staleCopies_eq (fun h => by
    rw [lists, stalened_index]) rest
  refine ⟨fun taking good number => ?_, fun taking active => ?_, fun taking gone => ?_⟩
  · subst number
    have change : updated g = fun r => { r with
        name := f.name, mode := g.mode, preset := f.preset, shelf := f.shelf, dept := g.dept, format := g.format
        version := r.version + 1 } := by
      obtain ⟨fields, -⟩ := itemFieldsOf_some good
      rw [fields]
      rfl
    rw [← change]
    exact updateItem_taken taking good found staled
  · exact takes_owner_unchanged taking rfl ((reinstateItem_found ⟨low, high⟩ found).trans (if_pos active))
  · refine takes_owner_sameBehind (pick := fun
      | .reinstateItem n => some (reinstateItem n)
      | _ => none) taking rfl ?_
    rw [reinstateItem_found ⟨low, high⟩ found, if_neg (by rw [gone]; exact nofun), staleCopies_onItemNumber staled]

/-! ### STAGE_PRICE and UNSTAGE_PRICE (R65, R66) -/

/-- A row that changes a record in what no head is told answers, and composes no display. -/
theorem takes_owner_untold {pick : HostCmd → Option (State → Answer)} {n : Byte} {c : HostCmd} {k : Nat} {g : Item → Item}
    {f : State → Answer} {status : Status} {reply : Reply} (taking : Taking n c s) (picked : pick c = some f)
    (work : f s = ⟨status, reply, onItemNumber k g s⟩)
    (told : ∀ i, (g i).number = i.number ∧ (g i).name = i.name ∧ (g i).mode = i.mode) :
    takes (owner pick) s = .next (answered n c status reply (onItemNumber k g s)) := by
  have item (m : Nat) : (findItem m (onItemNumber k g s)).map (fun i => (i.name, i.mode))
    = (findItem m s).map fun i => (i.name, i.mode) := by
    rw [findItem_onItemNumber fun i => (told i).1, Option.map_map]
    refine congrArg (Option.map · _) (funext fun i => ?_)
    exact atNumber_ind (p := fun x => (x.name, x.mode) = (i.name, i.mode)) (fun _ => by rw [(told i).2.1, (told i).2.2]) rfl
  have settled : settle s (place ⟨n, c⟩ ⟨status, reply, onItemNumber k g s⟩)
    = place ⟨n, c⟩ ⟨status, reply, onItemNumber k g s⟩ := by
    refine settle_eq_self (fun _ => rfl) fun h => ?_
    have same : ((itemInHand h s).bind (findItem · s)).map (fun i => (i.name, i.mode))
        = ((itemInHand h s).bind (findItem · (onItemNumber k g s))).map fun i => (i.name, i.mode) := by
      cases itemInHand h s with
      | none => rfl
      | some m => exact (item m).symm
    unfold sourcesOf
    exact congrArg (fun x => Sources.mk (role h s) (ctx h s) (chan h s).state (chan h s).last
      ((itemInHand h s).bind (copyState h · s)) x (summaryFor h s)) same
  have changed : portView (place ⟨n, c⟩ ⟨status, reply, onItemNumber k g s⟩) ≠ portView s := by
    simp [portView, rdy, place, taking.1, taking.2]
  rw [takes_owner_settled taking picked, work, settled, noted, if_neg changed]
  rfl

theorem stagePrice_eq (k price : Nat) (s : State) : stagePrice k price s
    = if k = 0 ∨ 999999 < k ∨ 999999 < price then ⟨.badValue, .empty, s⟩
      else match findItem k s with
        | none => ⟨.notFound, .empty, s⟩
        | some i => if i.state = .withdrawn then ⟨.wrongState, .empty, s⟩
          else ⟨.done, .empty, onItemNumber k (fun r => { r with pending := some price }) s⟩ := by
  by_cases cheap : price ≤ 999999
  · have ok : decide (price ≤ Config.priceLimit) = true := decide_eq_true cheap
    rw [stagePrice, ok]
    by_cases range : 1 ≤ k ∧ k ≤ 999999
    · rw [if_neg (by omega)]
      cases found : findItem k s with
      | none => exact named_missing range found
      | some i =>
        rw [named_found range found]
        simp only [beq_iff_eq]
        rfl
    · rw [if_pos (by omega), named_bad (by omega)]
  · have dear : decide (price ≤ Config.priceLimit) = false := decide_eq_false cheap
    rw [stagePrice, dear, if_pos (by omega), named, if_pos (by simp)]
    rfl

theorem unstagePrice_eq (k : Nat) (s : State) : unstagePrice k s
    = if k = 0 ∨ 999999 < k then ⟨.badValue, .empty, s⟩
      else match findItem k s with
        | none => ⟨.notFound, .empty, s⟩
        | some i => ⟨.done, .unstaged i.pending.isSome, onItemNumber k (fun r => { r with pending := none }) s⟩ := by
  split
  next range => exact named_bad range
  next range =>
    have range : 1 ≤ k ∧ k ≤ 999999 := by omega
    cases found : findItem k s with
    | none => exact named_missing range found
    | some i => exact named_found range found

theorem stagePrice_taken {n : Byte} {k price : Nat} (taking : Taking n (.stagePrice k price) s) : exec .stagePrice s = .next
    (if k = 0 ∨ 999999 < k ∨ 999999 < price then answered n (.stagePrice k price) .badValue .empty s
      else match findItem k s with
        | none => answered n (.stagePrice k price) .notFound .empty s
        | some i =>
          if i.state = .withdrawn then answered n (.stagePrice k price) .wrongState .empty s
          else answered n (.stagePrice k price) .done .empty (onItemNumber k (fun r => { r with pending := some price }) s)) := by
  have work := stagePrice_eq k price s
  split
  next bad => exact takes_owner_unchanged taking rfl (work.trans (if_pos bad))
  next good =>
    rw [if_neg good] at work
    cases found : findItem k s with
    | none => rw [found] at work; exact takes_owner_unchanged taking rfl work
    | some i =>
      rw [found] at work
      dsimp only at work ⊢
      split
      next gone => exact takes_owner_unchanged taking rfl (work.trans (if_pos gone))
      next sold => exact takes_owner_untold taking rfl (work.trans (if_neg sold)) fun _ => ⟨rfl, rfl, rfl⟩

theorem unstagePrice_taken {n : Byte} {k : Nat} (taking : Taking n (.unstagePrice k) s) : exec .unstagePrice s = .next
    (if k = 0 ∨ 999999 < k then answered n (.unstagePrice k) .badValue .empty s
      else match findItem k s with
        | none => answered n (.unstagePrice k) .notFound .empty s
        | some i => answered n (.unstagePrice k) .done (.unstaged i.pending.isSome)
            (onItemNumber k (fun r => { r with pending := none }) s)) := by
  have work := unstagePrice_eq k s
  split
  next bad => exact takes_owner_unchanged taking rfl (work.trans (if_pos bad))
  next good =>
    rw [if_neg good] at work
    cases found : findItem k s with
    | none => rw [found] at work; exact takes_owner_unchanged taking rfl work
    | some i => rw [found] at work; exact takes_owner_untold taking rfl work fun _ => ⟨rfl, rfl, rfl⟩

/-! ### COMMIT_PRICES (R67, R87) -/

/-- The watch examined: where it is met, IN_STEP set and the watch DISARMED. -/
def watched (met : Bool) (s : State) : State :=
  { s with
    ccu := { s.ccu with armed := s.ccu.armed && !met }
    port := { s.port with latched := { s.port.latched with inStep := s.port.latched.inStep || met } } }

theorem watched_false (s : State) : watched false s = s := by simp [watched]

theorem watched_true (s : State) : watched true s = flagInStep (setWatch false s) := by
  simp only [watched, Bool.or_true, Bool.not_true, Bool.and_false]
  rfl

theorem examineWatch_eq (s : State) : examineWatch s = watched (s.ccu.armed && watchMet s) s := by
  rw [examineWatch]
  cases s.ccu.armed && watchMet s
  · exact (watched_false s).symm
  · exact (watched_true s).symm

/-- The state that COMMIT_PRICES leaves: the table committed, the copy lists `lists`, the watch met or not. -/
def committed (s : State) (lists : Table CopyList 8) (met : Bool) : State :=
  { s with
    itb := commitTable s.itb
    ccu := ⟨lists, !met⟩
    port := { s.port with latched := { s.port.latched with inStep := s.port.latched.inStep || met } } }

theorem commitPrices_eq (s : State) : ∃ lists met,
    commitPrices s = ⟨.done, .committed (s.itb.items.countP changesPrice) (s.itb.items.countP (·.pending.isSome))
      (commitTable s.itb).generation, committed s lists met⟩
    ∧ (∀ h, lists.look h = ⟨(copies h s).entries.map (stalened (changedAt s.itb.items)), (copies h s).drops⟩)
    ∧ (met = true ↔ ∀ h, onLink (headSlot h) s = true → ∀ e ∈ (lists.look h).entries, e.state = .current) := by
  have staled := staleCopies_lists (changedAt s.itb.items) { s with itb := commitTable s.itb }
  have look (h : Head) := copies_staleCopies (changedAt s.itb.items) h { s with itb := commitTable s.itb }
  generalize e : staleCopies (changedAt s.itb.items) { s with itb := commitTable s.itb } = w at staled look
  refine ⟨w.ccu.lists, watchMet (setWatch true w), ?_, look, ?_⟩
  · have work : commitPrices s = ⟨.done, .committed (s.itb.items.countP changesPrice) (s.itb.items.countP (·.pending.isSome))
        w.itb.generation, examineWatch (setWatch true w)⟩ := by
      rw [commitPrices, e]
      rfl
    have generation : w.itb.generation = (commitTable s.itb).generation := by rw [staled]
    rw [work, examineWatch_eq, generation]
    refine congrArg (Answer.mk _ _) ?_
    have armed : ((setWatch true w).ccu.armed && watchMet (setWatch true w)) = watchMet (setWatch true w) := rfl
    rw [armed]
    generalize watchMet (setWatch true w) = met
    rw [staled]
    rfl
  · rw [watchMet_iff]
    have link (h : Head) : onLink (headSlot h) (setWatch true w) = onLink (headSlot h) s := by
      rw [staled]
      rfl
    simp only [link]
    rfl

theorem commitItem_eq (i : Item) : commitItem i = { i with
    price := i.pending.getD i.price, pending := none, version := if changesPrice i then i.version + 1 else i.version } := by
  obtain ⟨number, index, name, mode, price, pending, preset, shelf, dept, format, state, version, refs, acc⟩ := i
  cases pending with
  | none => rfl
  | some p =>
    by_cases same : p = price <;> simp [commitItem, changesPrice, same]

theorem changesPrice_iff (i : Item) : changesPrice i = true ↔ ∃ p, i.pending = some p ∧ p ≠ i.price := by
  unfold changesPrice
  split
  next p staged => simp [staged]
  next none => simp [none]

/-- Settles O36: the stages change one pending price, and the commit the table, the copy lists and the watch. -/
theorem pricesStagedAndCommitted : Obligations.PricesStagedAndCommitted := by
  refine ⟨fun n k price s => ⟨stagePrice_taken, unstagePrice_taken⟩, fun n s changes taking which => ?_⟩
  obtain rfl : changes = changesPrice := funext fun i => Bool.eq_iff_iff.2 ((which i).trans (changesPrice_iff i).symm)
  obtain ⟨lists, met, work, look, watch⟩ := commitPrices_eq s
  obtain ⟨t, e, same⟩ := takes_owner_sameBehind (pick := fun
    | .commitPrices => some commitPrices
    | _ => none) taking rfl work
  obtain ⟨-, -, -, port, -, -, -, -, -, itb, ccu, -⟩ := same.blocks
  have itb : t.itb = commitTable s.itb := itb
  have ccu : t.ccu = ⟨lists, !met⟩ := ccu
  have latched : t.port.latched = { s.port.latched with inStep := s.port.latched.inStep || met } := by rw [port]; rfl
  have copiesNow (h : Head) : copies h t = lists.look h := by rw [copies, ccu]
  refine ⟨t, e, ?_, ?_, ?_, fun h => ?_, ?_, ?_⟩
  · rw [itb, ccu, latched]
    exact same
  · rw [itb, commitTable]
    dsimp only
    split
    · rfl
    · exact (BitVec.add_zero _).symm
  · rw [itb]
    exact List.map_congr_left fun i _ => commitItem_eq i
  · rw [copiesNow, look]
    refine congrArg (CopyList.mk · _) (List.map_congr_left fun x _ => ?_)
    rfl
  · have armed : t.ccu.armed = !met := by rw [ccu]
    rw [armed, Bool.not_eq_true', ← Bool.not_eq_true, watch]
    simp only [copiesNow]
    push Not
    rfl
  · rw [latched, ccu, Bool.not_not]

end Sys2Proof.Machine
end

section
/-! SUPPORT. The withdrawal of an item (R69): the printers that a purge frees, the copies removed, the watch, and the
settlement of WITHDRAW_ITEM. -/

namespace Sys2Proof.Machine

variable {s t u : State}

/-! ### A printer whose front job is removed (R149, R138) -/

/-- What becomes of a printer context with the queue `js` before it: an IDLE one is started. -/
def startedCtx (js : List Job) (c : PrinterCtx) : PrinterCtx :=
  if c.state = .idle ∧ js ≠ [] then { c with state := .loading, load := some (.chunk 0), printed := 0 } else c

theorem startedCtx_nonempty {js ks : List Job} (hj : js ≠ []) (hk : ks ≠ []) (c : PrinterCtx) :
    startedCtx js c = startedCtx ks c := by simp [startedCtx, hj, hk]

theorem printer_startIfIdle (p r : Printer) (s : State) : printer r (startIfIdle p s)
    = if r = p then startedCtx (queue p s) (printer p s) else printer r s := by
  unfold startIfIdle startedCtx
  simp only [Bool.and_eq_true, beq_iff_eq, Bool.not_eq_true', List.isEmpty_eq_false_iff]
  split
  · exact printer_onPrinter ..
  · split
    next e => rw [e]
    · rfl

theorem printer_removeJob (p r : Printer) (tag : Tag) (s : State) : printer r (removeJob p tag s)
    = if r = p ∧ isFront p tag s = true then startedCtx ((queue p s).eraseP (·.tag == tag)) (unfeed tag (printer p s))
      else printer r s := by
  unfold removeJob
  dsimp only
  by_cases front : isFront p tag s = true
  · rw [if_pos front, printer_startIfIdle]
    by_cases e : r = p
    · simp [e, front]
    · simp [e]
  · simp [front]

/-- The removal of jobs that are not in front leaves every printer as it was. -/
theorem printer_removeJobs_behind {p r : Printer} {j : Job} {rest : List Job} (go : List Job) (front : queue p s = j :: rest)
    (behind : ∀ g ∈ go, g.tag ≠ j.tag) : printer r (removeJobs p go s) = printer r s := by
  induction go generalizing s rest with
  | nil => rfl
  | cons g go ih =>
    have other : j.tag ≠ g.tag := (behind g List.mem_cons_self).symm
    have stays : queue p (removeJob p g.tag s) = j :: rest.eraseP (·.tag == g.tag) := by
      rw [queue_removeJob, if_pos rfl, front, List.eraseP_cons_of_neg (by simpa using other)]
    refine (ih stays fun x mem => behind x (List.mem_cons_of_mem _ mem)).trans ?_
    rw [printer_removeJob, if_neg]
    rintro ⟨-, first⟩
    simp only [isFront, front, beq_iff_eq] at first
    exact other first

/-- The removal of jobs from one queue leaves the other printer as it was. -/
theorem printer_removeJobs_other {p r : Printer} (ne : r ≠ p) (go : List Job) (s : State) :
    printer r (removeJobs p go s) = printer r s :=
  foldl_keeps (fun u => printer r u) (fun u j => by rw [printer_removeJob, if_neg fun both => ne both.1]) go s

/-- A context that has let go of its job: an IDLE one has nothing counted. -/
def LetGoCtx (c : PrinterCtx) : Prop := c.load = none ∧ (c.state = .idle → c.printed = 0)

/-- Fed the first chunk of nothing yet, a context started anew lets go into what it was. -/
theorem unfeed_startedCtx {d : PrinterCtx} (free : LetGoCtx d) (tag : Tag) (js : List Job) :
    unfeed tag (startedCtx js d) = d := by
  obtain ⟨load, printed⟩ := free
  unfold startedCtx
  split
  next start =>
    obtain ⟨state, load', printed', credit, owed, rest⟩ := d
    simp_all [unfeed, loadBegun]
  · simp [unfeed, load]

/-- While jobs are removed from its queue, a context that has let go stands started before what is left. -/
theorem printer_removeJobs_started {p : Printer} {d : PrinterCtx} (free : LetGoCtx d) (go : List Job)
    (before : printer p s = startedCtx (queue p s) d) :
    printer p (removeJobs p go s) = startedCtx (queue p (removeJobs p go s)) d := by
  induction go generalizing s with
  | nil => exact before
  | cons g go ih =>
    refine ih (s := removeJob p g.tag s) ?_
    rw [printer_removeJob, queue_removeJob, if_pos rfl]
    split
    next front => rw [before, unfeed_startedCtx free]
    next behind =>
      rw [before]
      cases jobs : queue p s with
      | nil => rfl
      | cons j rest =>
        have other : ¬j.tag = g.tag := fun same => behind ⟨rfl, by simpa [isFront, jobs] using same⟩
        rw [List.eraseP_cons_of_neg (by simpa using other)]
        exact startedCtx_nonempty (by simp) (by simp) d

/-! ### The printers of a purge (R147) -/

/-- The removal at a purge from one queue. -/
def removePacks (p : Printer) (k : Nat) (s : State) : State := removeJobs p ((queue p s).filter (unfoldedOf k)) s

theorem removePurged_packs (k : Nat) (s : State) : removePurged k s = removePacks 1 k (removePacks 0 k s) := rfl

/-- What a purge makes of a printer comes of the removal from its own queue. -/
theorem printer_removePurged (k : Nat) (p : Printer) (s : State) :
    ∃ v, printer p (removePurged k s) = printer p (removePacks p k v)
    ∧ printer p v = printer p s ∧ queue p v = queue p s ∧ queue p (removePurged k s) = queue p (removePacks p k v) := by
  rw [removePurged_packs]
  rcases printer_cases p with rfl | rfl
  · exact ⟨s, printer_removeJobs_other (by decide) .., rfl, rfl, (queue_removeJobs ..).trans (if_neg (by decide))⟩
  · exact ⟨removePacks 0 k s, rfl, printer_removeJobs_other (by decide) ..,
      (queue_removeJobs ..).trans (if_neg (by decide)), rfl⟩

/-- A purge that does not take the front job leaves the printer as it was. -/
theorem printer_removePurged_behind (law : QueueLaw s) {k : Nat} {p : Printer}
    (behind : ∀ j rest, queue p s = j :: rest → unfoldedOf k j = false) : printer p (removePurged k s) = printer p s := by
  obtain ⟨v, after, printerSame, queueSame, -⟩ := printer_removePurged k p s
  rw [after, ← printerSame, removePacks, queueSame]
  cases jobs : queue p s with
  | nil => rfl
  | cons j rest =>
    refine printer_removeJobs_behind _ (queueSame.trans jobs) fun g mem same => ?_
    obtain ⟨there, kind⟩ := List.mem_filter.1 mem
    have front : g = j := List.inj_on_of_nodup_map (law.tags p) (jobs ▸ there) (by rw [jobs]; exact List.mem_cons_self) same
    rw [front, behind j rest jobs] at kind
    cases kind

/-- A purge that takes the front job leaves the printer that let go of it, started before what is left of its queue. -/
theorem printer_removePurged_front (feed : FeedLaw s) {k : Nat} {p : Printer} {j : Job} {rest : List Job}
    (jobs : queue p s = j :: rest) (goes : unfoldedOf k j = true) :
    printer p (removePurged k s) = startedCtx (queue p (removePurged k s)) (unfeed j.tag (printer p s)) := by
  obtain ⟨v, after, printerSame, queueSame, queueAfter⟩ := printer_removePurged k p s
  have busy : (printer p s).state ≠ .idle := fun idle => by rw [feed p idle] at jobs; cases jobs
  have free : LetGoCtx (unfeed j.tag (printer p s)) := by
    unfold unfeed LetGoCtx
    split
    next none => exact ⟨none, fun idle => absurd idle busy⟩
    · exact ⟨rfl, fun _ => rfl⟩
  have first : printer p (removeJob p j.tag v) = startedCtx (queue p (removeJob p j.tag v))
    (unfeed j.tag (printer p s)) := by
    rw [printer_removeJob, if_pos ⟨rfl, by simp [isFront, queueSame, jobs]⟩, queue_removeJob, if_pos rfl, printerSame]
  have packs : removePacks p k v = removeJobs p (rest.filter (unfoldedOf k)) (removeJob p j.tag v) := by
    rw [removePacks, queueSame, jobs, List.filter_cons_of_pos goes]
    rfl
  rw [after, queueAfter, packs]
  exact printer_removeJobs_started free _ first

/-- A state with the queues and the printers of `b`. -/
def withLabels (b : Lbc) (s : State) : State := { s with lbc := { s.lbc with queues := b.queues, printers := b.printers } }

theorem withLabels_removeJobs (b : Lbc) (p : Printer) (go : List Job) (s : State) :
    withLabels b (removeJobs p go s) = withLabels b s :=
  foldl_keeps (withLabels b) (fun u j => by
    unfold removeJob startIfIdle
    dsimp only
    split
    · split <;> rfl
    · rfl) go s

/-- A purge writes the queues and the printers alone. -/
theorem removePurged_labels (k : Nat) (s : State) : removePurged k s = withLabels (removePurged k s).lbc s :=
  (withLabels_removeJobs (removePurged k s).lbc 1 _ (removePacks 0 k s)).trans (withLabels_removeJobs _ 0 _ s)

theorem unfeed_eq (tag : Tag) (c : PrinterCtx) : unfeed tag c = if c.load = none then c else
    { c with
      load := none, printed := 0
      owedDrop := if c.state ≠ .offline ∧ c.load ≠ some (.chunk 0) then some tag else c.owedDrop
      state := if c.state = .loading ∨ c.state = .printing then .idle else c.state } := by
  unfold unfeed
  split
  next none => rw [if_pos none]
  next point load =>
    have begun : loadBegun c.load = true ↔ c.load ≠ some (.chunk 0) := by
      rw [load]
      cases point <;> simp [loadBegun]
    have loaded : ¬c.load = none := by simp [load]
    rw [if_neg loaded]
    simp only [Bool.and_eq_true, begun, bne_iff_ne]
    cases c.state <;> rfl

/-! ### The copies of a withdrawn item (R82, R87) -/

theorem isSome_entryOf {n : Nat} {c : CopyList} : (entryOf n c).isSome = true ↔ ∃ e ∈ c.entries, e.number = n := by
  simp [entryOf, List.find?_isSome]

/-- What a withdrawal leaves of the copy lists and of the watch. -/
theorem withdrawCopies_eq (n : Nat) (s : State) : ∃ lists met,
    withdrawCopies n s = watched met { s with ccu := { s.ccu with lists := lists } }
    ∧ (∀ h, lists.look h = withdrawIn n (copies h s))
    ∧ (met = true ↔ s.ccu.armed = true ∧ (∃ h, ∃ e ∈ (copies h s).entries, e.number = n)
      ∧ ∀ h, onLink (headSlot h) s = true → ∀ e ∈ (lists.look h).entries, e.state = .current) := by
  have written := eachHead_onCopies_lists (withdrawIn n) s
  have look (h : Head) := copies_eachHead (withdrawIn n) h s
  generalize e : eachHead (fun h => onCopies h (withdrawIn n)) s = w at written look
  have link (h : Head) : onLink (headSlot h) w = onLink (headSlot h) s := by rw [written]; rfl
  have armed : w.ccu.armed = s.ccu.armed := by rw [written]
  have had : (allHeads.any fun h => (entryOf n (copies h s)).isSome) = true
      ↔ ∃ h, ∃ e ∈ (copies h s).entries, e.number = n := by
    simp [List.any_eq_true, mem_allHeads, isSome_entryOf]
  refine ⟨w.ccu.lists, (allHeads.any fun h => (entryOf n (copies h s)).isSome) && (w.ccu.armed && watchMet w), ?_, look, ?_⟩
  · rw [← written, withdrawCopies, e]
    cases allHeads.any fun h => (entryOf n (copies h s)).isSome with
    | false => exact (watched_false w).symm
    | true => exact examineWatch_eq w
  · rw [Bool.and_eq_true, Bool.and_eq_true, had, armed, watchMet_iff]
    simp only [link]
    exact ⟨fun ⟨stood, on, current⟩ => ⟨on, stood, current⟩, fun ⟨on, stood, current⟩ => ⟨stood, on, current⟩⟩

/-! ### WITHDRAW_ITEM (R69) -/

/-- What WITHDRAW_ITEM leaves, whether it purges or not: the table and the labels given, the copy lists without the item,
the watch met or not. -/
def offSale (s : State) (table : Itb) (labels : Lbc) (lists : Table CopyList 8) (met : Bool) : State :=
  { s with
    itb := table, lbc := labels
    ccu := ⟨lists, s.ccu.armed && !met⟩
    port := { s.port with latched := { s.port.latched with inStep := s.port.latched.inStep || met } } }

section
variable {k : Nat} {i : Item} {lists : Table CopyList 8} {met : Bool}

/-- The table after the record is marked WITHDRAWN, before the purge test. -/
def markedTable (k : Nat) (s : State) : Itb := { s.itb with items := s.itb.items.map (atNumber k withdrawn) }

theorem itemAt_marked (places : Places s) (found : findItem k s = some i) (labels : Lbc) :
    itemAt i.index (offSale s (markedTable k s) labels lists met) = some (withdrawn i) := by
  have index (j : Item) : (atNumber k withdrawn j).index = j.index :=
    atNumber_ind (p := fun x => x.index = j.index) (fun _ => rfl) rfl
  rw [itemAt_map (s := s) index rfl, itemAt_of_findItem places found, Option.map_some, atNumber,
    if_pos (by simpa using (findItem_found found).2)]

theorem withdrawItem_gone (range : 1 ≤ k ∧ k ≤ 999999) (found : findItem k s = some i) (gone : i.state = .withdrawn) :
    withdrawItem k s = ⟨.wrongState, .empty, s⟩ := by
  rw [withdrawItem, named_found range found, gone]
  rfl

theorem withdrawItem_active (range : 1 ≤ k ∧ k ≤ 999999) (found : findItem k s = some i) (active : i.state = .active)
    (marked : withdrawCopies k (onItemNumber k withdrawn s) = t) : withdrawItem k s
      = ⟨.done, .withdrawn (findItem k (purgeCheck i.index t)).isNone (keptReply k (purgeCheck i.index t)),
        purgeCheck i.index t⟩ := by
  rw [withdrawItem, named_found range found, active, marked]
  rfl

/-- A record with references or a non-empty accumulator stays, WITHDRAWN. -/
theorem withdrawItem_kept (range : 1 ≤ k ∧ k ≤ 999999) (places : Places s) (found : findItem k s = some i)
    (active : i.state = .active)
    (marked : withdrawCopies k (onItemNumber k withdrawn s) = offSale s (markedTable k s) s.lbc lists met)
    (used : i.refs ≠ 0 ∨ i.acc ≠ emptyAcc) : withdrawItem k s
      = ⟨.done, .withdrawn false (some (i.refs, i.acc == emptyAcc)), offSale s (markedTable k s) s.lbc lists met⟩ := by
  have stays : purgeable (withdrawn i) = false := by
    rw [Bool.eq_false_iff, Ne, purgeable_iff]
    exact fun ⟨_, refs, acc⟩ => used.elim (fun ne => ne refs) fun ne => ne acc
  have foundNow : findItem k (offSale s (markedTable k s) s.lbc lists met) = some (withdrawn i) :=
    (findItem_congr rfl k).trans (findItem_onItemNumber_same (s := s) (f := withdrawn) (fun _ => rfl) found)
  rw [withdrawItem_active range found active marked, purgeCheck_stays (itemAt_marked places found _) stays, keptReply,
    foundNow]
  rfl

/-- The table without the record. -/
def purgedTable (k : Nat) (s : State) : Itb := { s.itb with items := s.itb.items.filter (·.number != k) }

theorem purgedTable_eq (k : Nat) (s : State) : (markedTable k s).items.filter (·.number != k) = (purgedTable k s).items := by
  have number (j : Item) : (atNumber k withdrawn j).number = j.number :=
    atNumber_ind (p := fun x => x.number = j.number) (fun _ => rfl) rfl
  refine (List.filter_map ..).trans ?_
  simp only [Function.comp_def, number]
  refine (List.map_congr_left fun j mem => ?_).trans (List.map_id _)
  have other : j.number ≠ k := by simpa using (List.mem_filter.1 mem).2
  exact if_neg (by simpa using other)

/-- The state in which the packs of a purged record are removed. -/
def unlisted (k : Nat) (s : State) (lists : Table CopyList 8) (met : Bool) : State :=
  offSale s (purgedTable k s) s.lbc lists met

/-- A record without references and with an empty accumulator is purged. -/
theorem withdrawItem_purged (range : 1 ≤ k ∧ k ≤ 999999) (places : Places s) (found : findItem k s = some i)
    (active : i.state = .active)
    (marked : withdrawCopies k (onItemNumber k withdrawn s) = offSale s (markedTable k s) s.lbc lists met)
    (refs : i.refs = 0) (acc : i.acc = emptyAcc) : withdrawItem k s
      = ⟨.done, .withdrawn true none, offSale s (purgedTable k s)
        { s.lbc with
          queues := (removePurged i.index (unlisted k s lists met)).lbc.queues
          printers := (removePurged i.index (unlisted k s lists met)).lbc.printers } lists met⟩ := by
  have goes : purgeable (withdrawn i) = true := purgeable_iff.2 ⟨rfl, refs, acc⟩
  have number : (withdrawn i).number = k := (findItem_found found).2
  have left : purge (withdrawn i) (offSale s (markedTable k s) s.lbc lists met)
    = removePurged i.index (unlisted k s lists met) := by
    rw [purge, number]
    exact congrArg (fun is => removePurged i.index (offSale s { s.itb with items := is } s.lbc lists met))
      (purgedTable_eq k s)
  have labels := removePurged_labels i.index (unlisted k s lists met)
  have missing : findItem k (removePurged i.index (unlisted k s lists met)) = none := by
    refine findItem_eq_none.2 fun j mem => ?_
    have listed : j ∈ (purgedTable k s).items := by rwa [labels] at mem
    simpa using (List.mem_filter.1 listed).2
  rw [withdrawItem_active range found active marked, purgeCheck_goes (itemAt_marked places found _) goes, left,
    keptReply, missing]
  exact congrArg (Answer.mk _ _) labels

/-- The row of WITHDRAW_ITEM once its work is known. -/
theorem withdraw_taken {n : Byte} {table : Itb} {labels : Lbc} {reply : Reply} (taking : Taking n (.withdrawItem k) s)
    (work : withdrawItem k s = ⟨.done, reply, offSale s table labels lists met⟩) : ∃ t, exec .withdrawItem s = .next t
      ∧ t.itb = table ∧ t.lbc = labels ∧ t.ccu = ⟨lists, s.ccu.armed && !met⟩
      ∧ t.port = { s.port with
          inProcess := none, buffer := some ⟨.done, n, 0x17, reply⟩
          latched := { s.port.latched with inStep := s.port.latched.inStep || met } }
      ∧ SameBehind t { s with itb := t.itb, ccu := t.ccu, lbc := t.lbc, port := t.port } := by
  obtain ⟨t, e, same⟩ := takes_owner_sameBehind (pick := fun
    | .withdrawItem n => some (withdrawItem n)
    | _ => none) taking rfl work
  obtain ⟨-, -, -, port, -, -, -, -, -, itb, ccu, -, -, lbc, -⟩ := same.blocks
  refine ⟨t, e, itb, lbc, ccu, port, ?_⟩
  rw [itb, ccu, lbc, port]
  exact same

end

/-- The lists that a withdrawal leaves, written out. -/
theorem withdrawIn_eq (k : Nat) (c : CopyList) : withdrawIn k c = match c.entries.find? (·.number == k) with
    | some e => ⟨c.entries.filter (·.number != k), (List.finRange 16).filter fun d => d == e.slot || c.drops.contains d⟩
    | none => c := rfl

/-- Settles O37: the refusals leave the state alone; on an ACTIVE record the purge test decides which of the two tables is
left, and with the purge the queues and the printers follow. -/
theorem withdrawRemovesFromSale : Obligations.WithdrawRemovesFromSale := by
  refine ⟨fun n k s taking => ⟨fun range => takes_owner_unchanged taking rfl (named_bad range),
    fun low high missing => takes_owner_unchanged taking rfl (named_missing ⟨low, high⟩ missing)⟩, ?_⟩
  intro n k s i lists met taken started dropped taking low high dir places copyLaw queueLaw found listsEq metIff takenIff
    startedEq droppedEq
  refine ⟨fun gone => takes_owner_unchanged taking rfl (withdrawItem_gone ⟨low, high⟩ found gone), fun active => ?_⟩
  obtain rfl : taken = unfoldedOf i.index := funext fun j => Bool.eq_iff_iff.2 ((takenIff j).trans unfoldedOf_iff.symm)
  obtain rfl : started = startedCtx := funext fun js => funext fun c => startedEq js c
  obtain rfl : dropped = unfeed := funext fun x => funext fun c => (droppedEq x c).trans (unfeed_eq x c).symm
  obtain ⟨off, hit, copiesOff, look, watch⟩ := withdrawCopies_eq k (onItemNumber k withdrawn s)
  have offLists (h : Head) : off.look h = lists h := (look h).trans ((withdrawIn_eq ..).trans (listsEq h).symm)
  obtain rfl : hit = met := Bool.eq_iff_iff.2 (watch.trans (by simp only [offLists]; exact metIff.symm))
  have marked : withdrawCopies k (onItemNumber k withdrawn s) = offSale s (markedTable k s) s.lbc off hit := copiesOff
  have listsNow (t : State) (ccu : t.ccu = ⟨off, s.ccu.armed && !hit⟩) (h : Head) : copies h t = lists h := by
    rw [copies, ccu]
    exact offLists h
  by_cases used : i.refs ≠ 0 ∨ i.acc ≠ emptyAcc
  · obtain ⟨t, e, itb, lbc, ccu, port, same⟩ :=
      withdraw_taken taking (withdrawItem_kept ⟨low, high⟩ places found active marked used)
    refine ⟨t, e, listsNow t ccu, by rw [ccu], by rw [port], fun _ => ⟨itb, lbc, by rw [port]⟩, fun refs acc => ?_, same⟩
    exact absurd used fun either => either.elim (fun ne => ne refs) fun ne => ne acc
  · obtain ⟨refs, acc⟩ : i.refs = 0 ∧ i.acc = emptyAcc := by simpa using used
    obtain ⟨t, e, itb, lbc, ccu, port, same⟩ :=
      withdraw_taken taking (withdrawItem_purged ⟨low, high⟩ places found active marked refs acc)
    have queueOf (p : Printer) : queue p t = queue p (removePurged i.index (unlisted k s off hit)) := by rw [queue, lbc]; rfl
    have printerOf (p : Printer) : printer p t = printer p (removePurged i.index (unlisted k s off hit)) :=
      by rw [printer, lbc]; rfl
    have queues : QueueLaw (unlisted k s off hit) := queueLaw
    refine ⟨t, e, listsNow t ccu, by rw [ccu], by rw [port], fun either => absurd either used, fun _ _ => ⟨itb, fun p => ?_,
      fun p behind => ?_, fun feed p j rest jobs goes => ?_, by rw [lbc], by rw [port]⟩, same⟩
    · exact (queueOf p).trans (queue_removePurged queues ..)
    · exact (printerOf p).trans (printer_removePurged_behind queues behind)
    · rw [printerOf, queueOf]
      exact printer_removePurged_front (s := unlisted k s off hit) feed jobs goes

end Sys2Proof.Machine
end

section
/-! SUPPORT. The downstream parts (R75, R78, R94, R139, R175, R178, R190): what each sending changes, which push a copy
list provides, and the settlement of what the parts send. -/

namespace Sys2Proof.Machine

variable {h : Head} {i : Slot} {p : Printer} {s : State}

/-! ### Events that compose nothing -/

/-- The copy lists are a source of a display by their entries alone. -/
theorem settle_eq_self_of_entries {old s : State} (wge : s.wge = old.wge) (hsu : s.hsu = old.hsu) (itb : s.itb = old.itb)
    (tkp : s.tkp = old.tkp) (entries : ∀ a, (copies a s).entries = (copies a old).entries) : settle old s = s := by
  apply settle_eq_self <;> intro a <;>
    simp [itemInHand, sourcesOf, ctx, chan, role, settings, copyState, entryOf, findItem, summaryFor, service, ticket,
      wge, hsu, itb, tkp, entries]

/-- An event that leaves the sources of the displays and what the port shows does its work and nothing else. -/
theorem takes_uncomposed {f : State → State} (low : s.resetLow = false) (pin : (f s).resetLow = s.resetLow)
    (port : (f s).port = s.port) (wge : (f s).wge = s.wge) (hsu : (f s).hsu = s.hsu) (itb : (f s).itb = s.itb)
    (tkp : (f s).tkp = s.tkp) (entries : ∀ a, (copies a (f s)).entries = (copies a s).entries) :
    takes f s = .next (f s) := by
  rw [takes_high f low, settle_eq_self_of_entries wge hsu itb tkp entries, noted_same (portView_congr pin port tkp)]

/-! ### FRAME_NOTICE (R175) -/

theorem exec_frameNotice (low : s.resetLow = false) : exec .frameNotice s = .next (sendNotice s) :=
  takes_uncomposed low rfl rfl rfl rfl rfl rfl fun _ => rfl

/-! ### WELCOME (R178, R190) -/

@[simp] theorem slotHead_headSlot (h : Head) : slotHead (headSlot h) = some h := by simp [slotHead, headSlot]

theorem slotHead_eq_some : slotHead i = some h ↔ i = headSlot h := by
  constructor
  · intro found
    simp only [slotHead, Option.dite_none_right_eq_some, Option.some.injEq] at found
    obtain ⟨_, rfl⟩ := found
    rfl
  · rintro rfl
    exact slotHead_headSlot h

@[simp] theorem refreshOwed_headSlot (h : Head) (s : State) :
    refreshOwed (headSlot h) s = (onLink (headSlot h) s && (headLink h s).refresh) := by simp [refreshOwed]

theorem not_refreshOwed (notOwed : ∀ h, i = headSlot h → onLink i s = true → (headLink h s).refresh = false) :
    refreshOwed i s = false := by
  cases head : slotHead i with
  | none => simp [refreshOwed, head]
  | some h =>
    obtain rfl := slotHead_eq_some.1 head
    simpa using notOwed h rfl

theorem not_joining_of_onLink (served : onLink i s = true) : presence i s ≠ .joining := by
  intro joining
  simp [onLink, joining] at served

theorem sendWelcome_joining (joining : presence i s = .joining) :
    sendWelcome i s = send (downSlot i) (.welcome i (welcomeTexts i s)) s := by
  simp [sendWelcome, joining]

/-- A refresh that is owed is sent, and owed no longer. -/
theorem sendWelcome_owed (served : onLink (headSlot h) s = true) (owed : (headLink h s).refresh = true) :
    sendWelcome (headSlot h) s = send (downSlot (headSlot h)) (.welcome (headSlot h) (welcomeTexts (headSlot h) s))
      (onHeadLink h (fun l => { l with refresh := false }) s) := by
  simp [sendWelcome, not_joining_of_onLink served, served, owed, clearRefresh]

theorem sendWelcome_none (seated : presence i s ≠ .joining) (notOwed : refreshOwed i s = false) : sendWelcome i s = s := by
  simp [sendWelcome, seated, notOwed]

theorem exec_welcome (i : Slot) (low : s.resetLow = false) : exec (.welcome i) s = .next (sendWelcome i s) :=
  takes_uncomposed low (by simp) (by simp) (by simp) (by simp) (by simp) (by simp) fun a => by simp [copies]

/-! ### The push that a copy list provides (R78) -/

theorem due_iff (e : CopyEntry) :
    due e = true ↔ e.state = .stale ∨ e.state = .sending ∧ (e.age = none ∨ e.age = some 10) := by
  cases state : e.state <;> simp [due, state, Config.pushFrames]

section
variable {c : CopyList} {e : CopyEntry} {newer older : List CopyEntry} {requested : Option Nat}

/-- The most recent entry of a kind, none more recent being of it. -/
theorem find?_most_recent {kind : CopyEntry → Bool} (parted : c.entries = newer ++ e :: older) (is : kind e = true)
    (not : ∀ x ∈ newer, kind x = false) : c.entries.find? kind = some e := by
  rw [List.find?_eq_some_iff_append]
  exact ⟨is, newer, older, parted, fun x mem => by simp [not x mem]⟩

/-- An entry that is not due is not chosen. -/
theorem pushChoice_due (choice : pushChoice requested c = some e) : due e = true := by
  simp only [pushChoice, Option.orElse_eq_orElse, Option.orElse_eq_or, Option.or_eq_some_iff] at choice
  obtain first | ⟨-, stale | ⟨-, sending⟩⟩ := choice
  · cases requested with
    | none => cases first
    | some n => exact (Option.filter_eq_some_iff.1 first).2
  · exact (due_iff e).2 (.inl (by simpa using List.find?_some stale))
  · have both := List.find?_some sending
    exact (Bool.and_eq_true_iff.1 both).2

theorem pushChoice_none (noDue : ∀ x ∈ c.entries, due x = false) : pushChoice requested c = none := by
  cases choice : pushChoice requested c with
  | none => rfl
  | some e => simpa [noDue e (pushChoice_mem choice)] using pushChoice_due choice

/-- First rank: the due entry of the pending request's item. -/
theorem pushChoice_requested (law : CopyListLaw c) (mem : e ∈ c.entries) (isDue : due e = true) :
    pushChoice (some e.number) c = some e := by
  obtain ⟨-, -, numbers⟩ := law
  have found : entryOf e.number c = some e := (find?_key_iff numbers).2 ⟨mem, rfl⟩
  simp [pushChoice, found, isDue]

/-- Where the request provides no push the ranks below it choose. -/
theorem pushChoice_unrequested (other : ∀ n, requested = some n → ∀ x ∈ c.entries, due x = true → n ≠ x.number) :
    pushChoice requested c = (c.entries.find? (fun e => e.state == .stale)
      <|> c.entries.find? fun e => e.state == .sending && due e) := by
  cases requested with
  | none => simp [pushChoice]
  | some n =>
    have first : (entryOf n c).filter due = none := by
      refine Option.filter_eq_none_iff.2 fun x found isDue => ?_
      obtain ⟨mem, number⟩ := entryOf_found found
      exact other n rfl x mem isDue number.symm
    simp [pushChoice, first]

/-- Second rank: the most recent STALE entry. -/
theorem pushChoice_stale (other : ∀ n, requested = some n → ∀ x ∈ c.entries, due x = true → n ≠ x.number)
    (parted : c.entries = newer ++ e :: older) (stale : e.state = .stale) (newest : ∀ x ∈ newer, x.state ≠ .stale) :
    pushChoice requested c = some e := by
  have found := find?_most_recent (kind := fun e => e.state == .stale) parted (by simp [stale]) (by simpa using newest)
  simp [pushChoice_unrequested other, found]

/-- Third rank: the most recent SENDING entry that is due. -/
theorem pushChoice_sending (other : ∀ n, requested = some n → ∀ x ∈ c.entries, due x = true → n ≠ x.number)
    (parted : c.entries = newer ++ e :: older) (isDue : due e = true) (fresh : ∀ x ∈ c.entries, x.state ≠ .stale)
    (newest : ∀ x ∈ newer, due x = false) : pushChoice requested c = some e := by
  have mem : e ∈ c.entries := by simp [parted]
  have sending : e.state = .sending := by
    obtain stale | ⟨sending, -⟩ := (due_iff e).1 isDue
    · exact absurd stale (fresh e mem)
    · exact sending
  have noStale : c.entries.find? (fun e => e.state == .stale) = none := by simpa using fresh
  have found := find?_most_recent (kind := fun e => e.state == .sending && due e) parted (by simp [sending, isDue])
    (fun x new => by simp [newest x new])
  simp [pushChoice_unrequested other, noStale, found]

end

/-! ### HEAD_UPDATE (R78, R79, R178) -/

theorem copyOperation_drop {d : CacheSlot} {ds : List CacheSlot} (drops : (copies h s).drops = d :: ds) :
    copyOperation h s = (some (.drop d), onCopies h (fun c => { c with drops := ds }) s) := by
  simp [copyOperation, drops]

theorem copyOperation_none (drops : (copies h s).drops = [])
    (noPush : pushChoice (requestItem h s) (copies h s) = none) : copyOperation h s = (none, s) := by
  simp [copyOperation, drops, noPush]

theorem copyOperation_push {e : CopyEntry} {i : Item} (drops : (copies h s).drops = [])
    (choice : pushChoice (requestItem h s) (copies h s) = some e) (record : itemAt e.index s = some i) :
    copyOperation h s = (some (.push e.slot e.number i.version i.name i.mode i.price i.preset.isSome),
      onCopies h (fun c => { c with entries := c.entries.map fun x =>
        if x.slot = e.slot then { x with version := i.version, state := .sending, age := some 0 } else x }) s) := by
  simp [copyOperation, drops, choice, record, pushed]

theorem sendHeadUpdate_unserved (unserved : onLink (headSlot h) s = false ∨ (headLink h s).refresh = true) :
    sendHeadUpdate h s = s := by
  obtain off | owed := unserved
  · simp [sendHeadUpdate, off]
  · simp [sendHeadUpdate, owed]

theorem sendHeadUpdate_served (served : onLink (headSlot h) s = true) (owed : (headLink h s).refresh = false)
    {op : Option CopyOp} {t : State} (operation : copyOperation h s = (op, t)) :
    sendHeadUpdate h s = send (downSlot (headSlot h)) (.headUpdate (display h s) (headLink h s).serial op) t := by
  simp [sendHeadUpdate, served, owed, operation]

theorem exec_headUpdate (low : s.resetLow = false)
    (entries : ∀ a, (copies a (sendHeadUpdate h s)).entries = (copies a s).entries) :
    exec (.headUpdate h) s = .next (sendHeadUpdate h s) :=
  takes_uncomposed low (by simp) (by simp) (by simp) (by simp) (by simp) (by simp) entries

theorem exec_headUpdate_drop {d : CacheSlot} {ds : List CacheSlot} (low : s.resetLow = false)
    (served : onLink (headSlot h) s = true) (owed : (headLink h s).refresh = false)
    (drops : (copies h s).drops = d :: ds) :
    exec (.headUpdate h) s = .next (send (downSlot (headSlot h))
      (.headUpdate (display h s) (headLink h s).serial (some (.drop d)))
      (onCopies h (fun c => { c with drops := ds }) s)) := by
  have sent := sendHeadUpdate_served served owed (copyOperation_drop drops)
  rw [exec_headUpdate low, sent]
  intro a
  rw [sent, copies_send, copies_onCopies]
  split
  next same => rw [same]
  next => rfl

theorem exec_headUpdate_none (low : s.resetLow = false) (served : onLink (headSlot h) s = true)
    (owed : (headLink h s).refresh = false) (drops : (copies h s).drops = [])
    (noPush : pushChoice (requestItem h s) (copies h s) = none) :
    exec (.headUpdate h) s = .next (send (downSlot (headSlot h))
      (.headUpdate (display h s) (headLink h s).serial none) s) := by
  have sent := sendHeadUpdate_served served owed (copyOperation_none drops noPush)
  rw [exec_headUpdate low, sent]
  intro a
  rw [sent, copies_send]

/-- The push turns its entry SENDING, which the display follows after the part has been sent (log 38). -/
theorem exec_headUpdate_push {e : CopyEntry} {i : Item} (low : s.resetLow = false)
    (served : onLink (headSlot h) s = true) (owed : (headLink h s).refresh = false)
    (drops : (copies h s).drops = []) (choice : pushChoice (requestItem h s) (copies h s) = some e)
    (record : itemAt e.index s = some i) :
    ∃ t, exec (.headUpdate h) s = .next t ∧ SameBehind t (send (downSlot (headSlot h))
      (.headUpdate (display h s) (headLink h s).serial
        (some (.push e.slot e.number i.version i.name i.mode i.price i.preset.isSome)))
      (onCopies h (fun c => { c with entries := c.entries.map fun x =>
        if x.slot = e.slot then { x with version := i.version, state := .sending, age := some 0 } else x }) s)) := by
  rw [← sendHeadUpdate_served served owed (copyOperation_push drops choice record)]
  exact takes_high_behind (sendHeadUpdate h) low

/-! ### PRINTER_UPDATE (R139) -/

/-- The operation that a printer's context and queue provide, and the context its sending leaves. -/
def feedOf (c : PrinterCtx) (jobs : List Job) : Option PrintOp × PrinterCtx :=
  match c.state, c.owedDrop, jobs, c.load with
  | .offline, _, _, _ => (none, c)
  | _, some x, _, _ => (some (.drop x), { c with owedDrop := none })
  | .loading, none, j :: _, some (.chunk k) =>
    (match c.credit, (chunkParts j.content)[k]? with
    | room + 1, some part => (some (.chunk j.tag k (k + 1 == (chunkParts j.content).length) part),
      { c with
        credit := room
        load := some (if k + 1 < (chunkParts j.content).length then .chunk (k + 1) else .done)
        state := if k + 1 < (chunkParts j.content).length then .loading else .printing })
    | _, _ => (none, c))
  | .printing, none, j :: _, _ => (some (.order j.tag (c.printed + 1)), c)
  | _, _, _, _ => (none, c)

theorem onPrinter_self (p : Printer) (s : State) : onPrinter p (fun _ => printer p s) s = s := by
  have same : s.lbc.printers.change p (fun _ => printer p s) = s.lbc.printers := by
    refine Table.ext_look fun q => ?_
    rw [Table.look_change]
    split
    next eq => rw [eq]; rfl
    next => rfl
  rw [onPrinter, same]

/-- A change of a context is the writing of its outcome. -/
theorem onPrinter_outcome (p : Printer) (f : PrinterCtx → PrinterCtx) (s : State) :
    onPrinter p f s = onPrinter p (fun _ => f (printer p s)) s := rfl

theorem printerOp_eq (p : Printer) (s : State) : printerOp p s
    = ((feedOf (printer p s) (queue p s)).1, onPrinter p (fun _ => (feedOf (printer p s) (queue p s)).2) s) := by
  have self := onPrinter_self p s
  cases state : (printer p s).state with
  | offline => simp [printerOp, feedOf, state, self]
  | idle | stopped =>
    cases drop : (printer p s).owedDrop <;> simp [printerOp, feedOf, state, drop, self, onPrinter_outcome p _ s]
  | printing =>
    cases drop : (printer p s).owedDrop with
    | some tag => simp [printerOp, feedOf, state, drop, onPrinter_outcome p _ s]
    | none => cases jobs : queue p s <;> simp [printerOp, feedOf, state, drop, jobs, self]
  | loading =>
    cases drop : (printer p s).owedDrop with
    | some tag => simp [printerOp, feedOf, state, drop, onPrinter_outcome p _ s]
    | none =>
      cases jobs : queue p s with
      | nil => simp [printerOp, feedOf, state, drop, jobs, self]
      | cons j rest =>
        cases load : (printer p s).load with
        | none => simp [printerOp, feedOf, state, drop, jobs, load, self]
        | some point =>
          cases point with
          | done => simp [printerOp, feedOf, state, drop, jobs, load, self]
          | chunk k =>
            cases credit : (printer p s).credit with
            | zero => simp [printerOp, feedOf, state, drop, jobs, load, credit, self]
            | succ room =>
              cases part : (chunkParts j.content)[k]? <;>
                simp [printerOp, feedOf, state, drop, jobs, load, credit, part, self, nextLoad, onPrinter_outcome p _ s]

theorem exec_printerUpdate (low : s.resetLow = false) : exec (.printerUpdate p) s = .next (sendPrinterUpdate p s) :=
  takes_uncomposed low (by simp) (by simp) (by simp) (by simp) (by simp) (by simp) fun a => by simp [copies]

theorem sendPrinterUpdate_off (off : onLink (printerSlot p) s = false) : sendPrinterUpdate p s = s := by
  simp [sendPrinterUpdate, off]

theorem sendPrinterUpdate_served (served : onLink (printerSlot p) s = true) {op : Option PrintOp} {c : PrinterCtx}
    (feed : (op, c) = feedOf (printer p s) (queue p s)) :
    sendPrinterUpdate p s = send (downSlot (printerSlot p)) (.printerUpdate op) (onPrinter p (fun _ => c) s) := by
  simp [sendPrinterUpdate, served, printerOp_eq, ← feed]

/-! ### DISPENSER_UPDATE (R94) -/

theorem sendDispenserUpdate_off (off : onLink dispenserSlot s = false) : sendDispenserUpdate s = s := by
  simp [sendDispenserUpdate, off]

theorem sendDispenserUpdate_served (served : onLink dispenserSlot s = true) : sendDispenserUpdate s = send 10
    (.dispenserUpdate s.snu.issued s.snu.lastCalled s.snu.waiting.length s.snu.full)
    { s with snu := { s.snu with issued := [], full := false } } := by
  rw [sendDispenserUpdate, if_pos served]
  rfl

theorem exec_dispenserUpdate (low : s.resetLow = false) : exec .dispenserUpdate s = .next (sendDispenserUpdate s) :=
  takes_uncomposed low (by simp) (by simp) (by simp) (by simp) (by simp) (by simp) fun a => by simp [copies]

/-! ### What each part sends -/

/-- Settles O47, part by part; the choice of a push follows the three ranks of R78. -/
theorem downstreamPartsSend : Obligations.DownstreamPartsSend := by
  intro s isDue low isDueIff
  have dueIff (e : CopyEntry) : due e = true ↔ isDue e := (due_iff e).trans (isDueIff e).symm
  refine ⟨?frame, fun i texts textsEq => ?welcome, fun h => ⟨fun unserved => ?unserved, fun served owed => ?head⟩,
    fun p => ⟨fun off => ?printerOff, fun served op c fed => ?printer⟩, fun off => ?dispenserOff, fun served => ?dispenser⟩
  case frame =>
    rintro wire rfl
    exact exec_frameNotice low
  case welcome =>
    have textsOf : welcomeTexts i s = texts := by
      rw [textsEq, welcomeTexts, slotHead]
      split <;> rfl
    rw [exec_welcome i low]
    refine ⟨fun joining => ?_, fun h eq served owed => ?_, fun seated notOwed => ?_⟩
    · rw [sendWelcome_joining joining, textsOf]
    · subst eq
      rw [sendWelcome_owed served owed, textsOf]
    · rw [sendWelcome_none seated (not_refreshOwed notOwed)]
  case unserved =>
    exact takes_unchanged low (sendHeadUpdate_unserved unserved)
  case head =>
    refine ⟨fun d ds drops => exec_headUpdate_drop low served owed drops, fun drops noDue => ?_,
      fun e i newer older drops law parted isDueE rank record => ?_⟩
    · refine exec_headUpdate_none low served owed drops (pushChoice_none fun x mem => ?_)
      rw [Bool.eq_false_iff, Ne, dueIff]
      exact noDue x mem
    · refine exec_headUpdate_push low served owed drops ?_ record
      obtain ⟨q, pending, number⟩ | ⟨other, rank⟩ := rank
      · have requested : requestItem h s = some e.number := by simp [requestItem, pending, number]
        rw [requested]
        exact pushChoice_requested law (by simp [parted]) ((dueIff e).2 isDueE)
      · have unrequested : ∀ n, requestItem h s = some n → ∀ x ∈ (copies h s).entries, due x = true → n ≠ x.number := by
          intro n named x mem isDueX
          obtain ⟨q, pending, rfl⟩ := Option.map_eq_some_iff.1 named
          exact other q pending x mem ((dueIff x).1 isDueX)
        obtain ⟨stale, newest⟩ | ⟨fresh, newest⟩ := rank
        · exact pushChoice_stale unrequested parted stale newest
        · refine pushChoice_sending unrequested parted ((dueIff e).2 isDueE) fresh fun x new => ?_
          rw [Bool.eq_false_iff, Ne, dueIff]
          exact newest x new
  case printerOff =>
    exact takes_unchanged low (sendPrinterUpdate_off off)
  case printer =>
    rw [exec_printerUpdate low, sendPrinterUpdate_served served fed]
  case dispenserOff =>
    exact takes_unchanged low (sendDispenserUpdate_off off)
  case dispenser =>
    rw [exec_dispenserUpdate low, sendDispenserUpdate_served served]

end Sys2Proof.Machine
end

section
/-! SUPPORT. Service numbers: the keys NEXT and SKIP (R37, R97, R98) behind the gate, and the presses of the dispenser
(R91 to R93), with their settlements. -/

namespace Sys2Proof.Machine

variable {h : Head} {s : State}

/-! ### NEXT and SKIP -/

theorem nextKey_signed (signed : (ctx h s).operator.isSome) : nextKey h s
    = if (ctx h s).held.isSome ∨ (ctx h s).nowServing.isSome then setMessage h .busy s
      else if s.tot.day ≠ .opened then setMessage h .dayClosed s
      else match s.snu.waiting with
        | [] => setMessage h .queueEmpty s
        | e :: behindIt =>
          onCtx h (fun c => { c with nowServing := some e.number })
            (onSnu (fun x => { x with
              waiting := behindIt, lastCalled := some e.number, skipped := x.skipped.put h e.skipped }) s) := by
  simp only [nextKey, Bool.or_eq_true, beq_iff_eq, service_serving_signed signed, Bool.not_eq_true', ← Bool.not_eq_true,
    dayOpen_iff]
  rfl

theorem skipKey_signed (signed : (ctx h s).operator.isSome) : skipKey h s
    = if (ctx h s).held.isSome then setMessage h .busy s
      else match (ctx h s).nowServing with
        | none => setMessage h .notFound s
        | some m =>
          onCtx h (fun c => { c with nowServing := none })
            (onSnu (fun x => { x with
              waiting := if s.snu.skipped.look h then x.waiting else x.waiting ++ [⟨m, true⟩]
              skipped := x.skipped.put h false }) s) := by
  simp only [skipKey, beq_iff_eq, service_serving_signed signed]
  rfl

/-- Settles O26: each key by its own rule, which reads the numbers and the day that the key found. -/
theorem nextAndSkipMoveNumbers : Obligations.NextAndSkipMoveNumbers := by
  rintro h n rest s u rfl service signed
  have signedTaken : (ctx h (keyTaken h rest s)).operator.isSome := by simpa using signed
  refine ⟨fun keyed => ?_, fun keyed => ?_⟩
  · have served := key_served_service (act := fun _ => nextKey h) (show exec (.keyNext h) s = _ from rfl) keyed
      service signed rfl
    rw [nextKey_signed signedTaken] at served
    simp only [ctx_keyTaken_same, keyTaken_frame] at served
    exact served
  · have served := key_served_service (act := fun _ => skipKey h) (show exec (.keySkip h) s = _ from rfl) keyed
      service signed rfl
    rw [skipKey_signed signedTaken] at served
    simp only [ctx_keyTaken_same, keyTaken_frame] at served
    exact served

/-! ### Presses (R93) -/

/-- The number of new presses, taken modulo 256. -/
theorem presses_since (c old : Byte) : (c - old).toNat = (256 + c.toNat - old.toNat) % 256 := by
  have := old.isLt
  rw [BitVec.toNat_sub]
  congr 1
  omega

theorem press_eq (s : State) : press s
    = if s.tot.day ≠ .opened ∨ s.snu.capacity ≤ s.snu.waiting.length ∨ s.snu.next ∈ numbersInPlay s then refusePress s
      else onSnu (fun x => { x with
        waiting := x.waiting ++ [⟨x.next, false⟩], issued := x.issued ++ [x.next], next := nextNumber x }) s := by
  simp only [press, Bool.or_eq_true, Bool.not_eq_true', ← Bool.not_eq_true, dayOpen_iff, decide_eq_true_iff,
    issueRefused_iff, or_assoc, ne_eq]

/-- A function of the count that takes one press at a time takes the presses in turn. -/
theorem presses_unique {f : Nat → State → State} (zero : ∀ x, f 0 x = x) (succ : ∀ k x, f (k + 1) x = f k (press x))
    (k : Nat) : f k = presses k := by
  induction k with
  | zero => exact funext zero
  | succ k ih =>
    funext x
    rw [succ, ih]
    rfl

theorem takePresses_eq (delta : Nat) (s : State) :
    takePresses delta s = if 4 < delta then refusePress (presses 4 s) else presses delta s := by
  unfold takePresses Config.pressesPerReport
  dsimp only
  split
  next beyond => rw [Nat.min_eq_right beyond.le]
  next within => rw [Nat.min_eq_left (Nat.not_lt.1 within)]

theorem takeCounter_first {c : Byte} (first : s.snu.counter = none) :
    takeCounter c s = onSnu (fun x => { x with counter := some c }) s := by
  rw [takeCounter, first]

theorem takeCounter_later {c old : Byte} (stored : s.snu.counter = some old) :
    takeCounter c s = takePresses (c - old).toNat (onSnu (fun x => { x with counter := some c }) s) := by
  rw [takeCounter, stored]

/-! ### DISPENSER_REPORT (R179, R181, R91 to R93) -/

section
variable {part : List Byte} {counter : Byte}

/-- A slot that is masked, or whose dispenser has not joined, takes no report. -/
theorem upstreamPart_dispenser_unseated (good : judge dispenserSlot part = .good (.dispenser counter))
    (off : presence dispenserSlot s = .absent ∨ presence dispenserSlot s = .disabled) :
    upstreamPart dispenserSlot (some part) s = s := by
  obtain off | off := off <;> simp [upstreamPart, off, judgePart, good, takeGood, takeReport]

/-- A good report makes a seated dispenser ONLINE and hands its counter on, out of JOINING as out of any other state. -/
theorem upstreamPart_dispenser_seated (good : judge dispenserSlot part = .good (.dispenser counter))
    (joined : presence dispenserSlot s ≠ .absent) (enabled : presence dispenserSlot s ≠ .disabled) :
    upstreamPart dispenserSlot (some part) s = takeCounter counter (setPresence dispenserSlot .online s) := by
  have handed (first : Bool) (x : State) : handOn dispenserSlot first (.dispenser counter) x = takeCounter counter x := rfl
  simp only [upstreamPart, beq_iff_eq, if_neg enabled, judgePart, good, takeGood, takeReport, handed]
  cases stands : presence dispenserSlot s with
  | absent => exact absurd stands joined
  | disabled => exact absurd stands enabled
  | joining | online | silent => rfl

/-- A press counter reaches no source of a display: of the end of its event the view of the port is left. -/
theorem exec_dispenserReport_seated (low : s.resetLow = false) (good : judge dispenserSlot part = .good (.dispenser counter))
    (joined : presence dispenserSlot s ≠ .absent) (enabled : presence dispenserSlot s ≠ .disabled) :
    exec (.dispenserReport part) s = .next (noted s (takeCounter counter (setPresence dispenserSlot .online s))) := by
  have quiet : settle s (takeCounter counter (setPresence dispenserSlot .online s))
      = takeCounter counter (setPresence dispenserSlot .online s) :=
    settle_eq_self_of_blocks (by simp) (by simp) (by simp) (by simp) (by simp)
  change takes (upstreamPart dispenserSlot (some part)) s = _
  rw [takes_high _ low, upstreamPart_dispenser_seated good joined enabled, quiet]

end

/-- The past views after an event that has none of its own. -/
theorem noted_shown {old v : State} (kept : v.shown = old.shown) :
    noted old v = { v with shown := if portView v = portView old then old.shown else portView old :: old.shown } := by
  unfold noted
  split
  · rw [← kept]
  · rw [kept]

/-- Settles O52: the report sets the counter, and the presses since the old one are taken one by one. -/
theorem dispenserReportTakesPresses : Obligations.DispenserReportTakesPresses := by
  intro part counter s u pressed refused low good refusedEq pressedZero pressedSucc uEq
  have refuses : refused = refusePress := funext refusedEq
  have pressesEq (k : Nat) : pressed k = presses k := by
    refine presses_unique pressedZero (fun k x => ?_) k
    rw [pressedSucc, refuses, press_eq]
    rfl
  have counted : u = onSnu (fun x => { x with counter := some counter }) (setPresence dispenserSlot .online s) := uEq
  refine ⟨fun off => takes_unchanged low (upstreamPart_dispenser_unseated good off), fun joined enabled =>
    ⟨fun first => ?_, fun old delta stored deltaEq x xEq => ?_⟩⟩
  · have view : portView u = portView s := by rw [counted]; rfl
    rw [exec_dispenserReport_seated low good joined enabled,
      takeCounter_first (s := setPresence dispenserSlot .online s) first, ← counted, noted_same view]
  · have taken : takeCounter counter (setPresence dispenserSlot .online s) = x := by
      rw [takeCounter_later (s := setPresence dispenserSlot .online s) stored, ← counted, presses_since, ← deltaEq,
        takePresses_eq, xEq, refuses, pressesEq, pressesEq]
    have kept : x.shown = s.shown := by simp [← taken]
    rw [exec_dispenserReport_seated low good joined enabled, taken, noted_shown kept]

end Sys2Proof.Machine
end

section
/-! SUPPORT. The commands that store a setting (R90, R124, R180, R191, R194) and those that open and close the day (R160 to
R162), with their settlements. -/

namespace Sys2Proof.Machine

variable {s u : State}

/-! ### Commands that write what no display shows -/

/-- Two states that agree in what displays, offers and the port are composed from. -/
def SourcesKept (s u : State) : Prop :=
  u.resetLow = s.resetLow ∧ u.port = s.port ∧ u.wge = s.wge ∧ u.hsu = s.hsu ∧ u.itb = s.itb ∧ u.ccu = s.ccu
    ∧ u.tkp.tickets = s.tkp.tickets

theorem SourcesKept.portView (kept : SourcesKept s u) : portView u = portView s := by
  obtain ⟨pin, port, -, -, -, -, tickets⟩ := kept
  simp [Machine.portView, rdy, attn, ticketsToCollect, poolFullFlag, countTickets, pin, port, tickets]

/-- An answer placed on such a state composes nothing. -/
theorem SourcesKept.settle_place (kept : SourcesKept s u) (p : InProcess) (status : Status) (reply : Reply) :
    settle s (place p ⟨status, reply, u⟩) = place p ⟨status, reply, u⟩ := by
  obtain ⟨-, -, wge, hsu, itb, ccu, tickets⟩ := kept
  apply settle_eq_self <;> intro h <;>
    simp [itemInHand, sourcesOf, ctx, chan, role, settings, copyState, entryOf, copies, findItem, summaryFor, service,
      ticket, place, wge, hsu, itb, ccu, tickets]

/-- A row that takes its command and writes no source of a display answers beside what it wrote. -/
theorem takes_owner_beside {pick : HostCmd → Option (State → Answer)} {n : Byte} {c : HostCmd} {f : State → Answer}
    {status : Status} {reply : Reply} (taking : Taking n c s) (picked : pick c = some f)
    (work : f s = ⟨status, reply, u⟩) (kept : SourcesKept s u) :
    takes (owner pick) s = .next (answered n c status reply u) := by
  have changed : portView (place ⟨n, c⟩ ⟨status, reply, u⟩) ≠ portView s := by
    simp [portView, rdy, place, taking.2, taking.1, kept.1]
  rw [takes_owner_settled taking picked, work, kept.settle_place, noted, if_neg changed, ← kept.portView]
  rfl

/-! ### SET_NUMBER_RANGE (R90) -/

theorem setNumberRange_eq (low high : Nat) (s : State) : setNumberRange low high s
    = if low < 1 ∨ 999 < high ∨ high ≤ low then ⟨.badValue, .empty, s⟩
      else if s.tot.day ≠ .closed then ⟨.wrongState, .empty, s⟩
      else ⟨.done, .capacity (min 64 (high - low + 1)), { s with snu := { s.snu with
        low := low, high := high, capacity := min 64 (high - low + 1), next := low } }⟩ := by
  simp only [setNumberRange, bne_iff_ne]
  rfl

theorem exec_setNumberRange {n : Byte} {low high : Nat} (taking : Taking n (.setNumberRange low high) s) :
    exec .setNumberRange s = .next
      (if low < 1 ∨ 999 < high ∨ high ≤ low then answered n (.setNumberRange low high) .badValue .empty s
      else if s.tot.day ≠ .closed then answered n (.setNumberRange low high) .wrongState .empty s
      else answered n (.setNumberRange low high) .done (.capacity (min 64 (high - low + 1)))
        { s with snu := { s.snu with
          low := low, high := high, capacity := min 64 (high - low + 1), next := low } }) := by
  have work := setNumberRange_eq low high s
  split at work
  next bad =>
    rw [if_pos bad]
    exact takes_owner_unchanged taking rfl work
  next good =>
    rw [if_neg good]
    split at work
    next unclosed =>
      rw [if_pos unclosed]
      exact takes_owner_unchanged taking rfl work
    next closed =>
      rw [if_neg closed]
      exact takes_owner_beside taking rfl work ⟨rfl, rfl, rfl, rfl, rfl, rfl, rfl⟩

/-! ### The other settings (R124, R180, R191, R194) -/

theorem maskOf_eq {k : Nat} {mask : Table Bool 11} (small : k < 2048) (bits : ∀ i : Slot, mask.look i = k.testBit i.val) :
    maskOf k = some mask := by
  have same : (Table.gen fun i : Slot => k.testBit i.val) = mask := Table.ext_look fun i => by simp [bits]
  rw [maskOf, if_pos small, same]

theorem setSlots_good {k : Nat} {mask : Table Bool 11} (small : k < 2048)
    (bits : ∀ i : Slot, mask.look i = k.testBit i.val) (s : State) :
    setSlots k s = ⟨.done, .empty, { s with lnk := { s.lnk with pendingMask := some mask } }⟩ := by
  rw [setSlots, maskOf_eq small bits]
  rfl

theorem setSlots_bad {k : Nat} (large : 2048 ≤ k) (s : State) : setSlots k s = ⟨.badValue, .empty, s⟩ := by
  rw [setSlots, maskOf, if_neg (Nat.not_lt.2 large)]
  rfl

theorem switchOf_toNat (on : Bool) : switchOf (if on then 1 else 0) = some on := by cases on <;> rfl

theorem switchOf_none {k : Nat} (large : 1 < k) : switchOf k = none := by
  match k, large with
  | _ + 2, _ => rfl

theorem setCollection_good (on : Bool) (s : State) : setCollection (if on then 1 else 0) s
    = ⟨.done, .empty, { s with tkp := { s.tkp with collection := on } }⟩ := by
  rw [setCollection, switchOf_toNat]
  rfl

theorem setCollection_bad {k : Nat} (large : 1 < k) (s : State) : setCollection k s = ⟨.badValue, .empty, s⟩ := by
  rw [setCollection, switchOf_none large]
  rfl

theorem mem_allSlots (i : Slot) : i ∈ allSlots := by revert i; decide

/-- One write at each slot writes every slot once. -/
theorem slotLink_eachSlot (f : SlotLink → SlotLink) (i : Slot) (s : State) :
    slotLink i (eachSlot (fun a => onSlot a f) s) = f (slotLink i s) := by
  have run : ∀ (xs : List Slot) (u : State), xs.Nodup →
      slotLink i (xs.foldl (fun s a => onSlot a f s) u) = if i ∈ xs then f (slotLink i u) else slotLink i u := by
    intro xs
    induction xs with
    | nil => simp
    | cons a xs ih =>
      intro u nodup
      obtain ⟨new, nodup⟩ := List.nodup_cons.1 nodup
      rw [List.foldl_cons, ih _ nodup, slotLink_onSlot]
      by_cases e : i = a
      · subst e
        simp [new]
      · simp [e]
  exact (run allSlots s (by decide)).trans (if_pos (mem_allSlots i))

/-- READ_LINK's clear option writes the eleven error counters and nothing else. -/
theorem clearErrors_eq {slots : Table SlotLink 11} (cleared : ∀ i, slots.look i = { slotLink i s with errors := 0 }) :
    clearErrors s = { s with lnk := { s.lnk with slots := slots } } := by
  have frame := eachSlot_keeps (fun u : State => { u with lnk := { u.lnk with slots := slots } })
    (f := fun i => onSlot i fun l => { l with errors := 0 }) (fun _ _ => rfl) s
  have written : (clearErrors s).lnk.slots = slots :=
    Table.ext_look fun i => (slotLink_eachSlot _ i s).trans (cleared i).symm
  rw [← frame, ← written]
  rfl

theorem readLink_clear {slots : Table SlotLink 11} (cleared : ∀ i, slots.look i = { slotLink i s with errors := 0 }) :
    readLink 1 s = ⟨.done, .link ⟨s.lnk.mask, s.lnk.pendingMask, s.lnk.restart, s.lnk.frame, s.lnk.slots, s.lnk.heads⟩,
      { s with lnk := { s.lnk with slots := slots } }⟩ := by
  rw [← clearErrors_eq cleared]
  rfl

/-- Settles O39: no setting is a source of a display, so each command answers beside what it stores. -/
theorem settingsCommandsStore : Obligations.SettingsCommandsStore := by
  refine ⟨fun n low high s taking => exec_setNumberRange taking, fun n k s => ⟨fun mask taking small bits => ?_,
    fun taking large => takes_owner_unchanged taking rfl (setSlots_bad large s), fun taking => ?_,
    fun slots taking cleared => ?_, fun on taking => ?_,
    fun taking large => takes_owner_unchanged taking rfl (setCollection_bad large s)⟩⟩
  · exact takes_owner_beside taking rfl (setSlots_good small bits s) ⟨rfl, rfl, rfl, rfl, rfl, rfl, rfl⟩
  · exact takes_owner_beside taking rfl (f := linkRestart) rfl ⟨rfl, rfl, rfl, rfl, rfl, rfl, rfl⟩
  · exact takes_owner_beside taking rfl (readLink_clear cleared) ⟨rfl, rfl, rfl, rfl, rfl, rfl, rfl⟩
  · exact takes_owner_beside taking rfl (setCollection_good on s) ⟨rfl, rfl, rfl, rfl, rfl, rfl, rfl⟩

/-! ### OPEN_DAY (R102, R160) -/

section
variable {y m d : Nat}

theorem openDay_bad (bad : y < 2000 ∨ 2099 < y ∨ m < 1 ∨ 12 < m ∨ d < 1 ∨ monthDays y m < d) (s : State) :
    openDay y m d s = ⟨.badValue, .empty, s⟩ := by
  rw [openDay, dateOf, if_neg (by omega)]
  rfl

theorem openDay_date (date : dateOf y m d = some ⟨y, m, d⟩) (s : State) : openDay y m d s
    = if s.tot.day ≠ .closed then ⟨.wrongState, .day s.tot.day, s⟩
      else ⟨.done, .empty, { s with
        tot := { s.tot with day := .opened }
        lbc := { s.lbc with date := some ⟨y, m, d⟩ }
        snu := { s.snu with waiting := [], next := s.snu.low, lastCalled := none } }⟩ := by
  simp only [openDay, date, bne_iff_ne]
  rfl

end

/-! ### CLOSE_DAY (R102, R161, R162) -/

theorem unfoldedPacks_eq (s : State) : unfoldedPacks s
    = ((queue 0 s ++ queue 1 s).filter fun j => kindOf j.content == .prepack && !j.folded).length := by
  rw [unfoldedPacks, ← List.countP_append, List.countP_eq_length_filter]
  rfl

/-- One write of each head's context, as one write of their table. -/
theorem eachHead_onCtx (f : Head → HeadCtx → HeadCtx) (s : State) : eachHead (fun h => onCtx h (f h)) s
    = { s with hsu := { s.hsu with heads := Table.gen fun h => f h (ctx h s) } } := by
  have frame := eachHead_keeps (fun u : State => { u with hsu := { u.hsu with heads := s.hsu.heads } })
    (f := fun h => onCtx h (f h)) (fun _ _ => rfl) s
  have written (h : Head) : ctx h (eachHead (fun h => onCtx h (f h)) s) = f h (ctx h s) :=
    eachHead_at ctx f (p := fun _ => True) (fun a u _ => ⟨trivial, fun b => ctx_onCtx u a b _⟩) trivial h
  generalize eachHead (fun h => onCtx h (f h)) s = w at frame written ⊢
  have heads : w.hsu.heads = Table.gen fun h => f h (ctx h s) :=
    Table.ext_look fun h => by rw [Table.look_gen]; exact written h
  rw [← heads]
  exact eq_of_heads frame

/-- CLOSE_DAY starts the drain, clears the numbers and writes every head's context. -/
theorem dayClosing_eq (s : State) : dayClosing s = { s with
    tot := { s.tot with day := .closing, cursor := some .start, drained := 0, lastEntry := none }
    snu := { s.snu with waiting := [], lastCalled := none, skipped := Table.const 8 false }
    hsu := { s.hsu with heads := Table.gen fun h => cancelled .dayClosed { ctx h s with nowServing := none } } } := by
  have cancels : (fun h => cancelRequest h .dayClosed) = fun h => onCtx h (cancelled .dayClosed) :=
    funext fun h => funext (cancelRequest_eq h .dayClosed)
  rw [dayClosing, closeNumbers, cancels, eachHead_onCtx, eachHead_onCtx]
  simp only [ctx, Table.look_gen]
  rfl

theorem closeDay_unopened (unopened : s.tot.day ≠ .opened) :
    closeDay s = ⟨.wrongState, .closeRefused s.tot.day 0 0 0 0, s⟩ := by
  simp [closeDay, unopened]

theorem closeDay_opened (opened : s.tot.day = .opened) : closeDay s
    = if countTickets .held s + countTickets .parked s + countTickets .closing s + unfoldedPacks s ≠ 0 then
        ⟨.wrongState, .closeRefused .opened (countTickets .held s) (countTickets .parked s) (countTickets .closing s)
          (unfoldedPacks s), s⟩
      else ⟨.done, .empty, dayClosing s⟩ := by
  have anyLeft {a b c d : Nat} : (a != 0 || b != 0 || c != 0 || d != 0) = true ↔ a + b + c + d ≠ 0 := by
    simp only [Bool.or_eq_true, bne_iff_ne]
    omega
  simp only [closeDay, opened, anyLeft, bne_self_eq_false, Bool.false_eq_true, if_false]
  rfl

/-- Settles O44: each command by its refusals in order, then the state that it leaves. -/
theorem dayOpensAndCloses : Obligations.DayOpensAndCloses := by
  intro n s
  refine ⟨fun y m d taking => ⟨fun bad => takes_owner_unchanged taking rfl (openDay_bad bad s),
    fun y1 y2 m1 m2 d1 d2 => ?_⟩, fun taking => ⟨fun unopened => takes_owner_unchanged taking rfl
    (closeDay_unopened unopened), ?_⟩⟩
  · have work := openDay_date (if_pos ⟨y1, y2, m1, m2, d1, d2⟩) s
    refine ⟨fun unclosed => ?_, fun closed => ?_⟩
    · rw [if_pos unclosed] at work
      exact takes_owner_unchanged taking rfl work
    · rw [if_neg (not_not.2 closed)] at work
      exact takes_owner_beside taking rfl work ⟨rfl, rfl, rfl, rfl, rfl, rfl, rfl⟩
  · rintro held parked closing packs rfl rfl rfl packsEq opened
    rw [← unfoldedPacks_eq] at packsEq
    subst packsEq
    have work := closeDay_opened opened
    refine ⟨fun left => ?_, fun none => ?_⟩
    · rw [if_pos left] at work
      exact takes_owner_unchanged taking rfl work
    · rw [if_neg (not_not.2 none), dayClosing_eq] at work
      exact takes_owner_sameBehind taking rfl work

end Sys2Proof.Machine
end

section
/-! SUPPORT. Tags of the job queues (R131): which are in use, and the first that is not. -/

namespace Sys2Proof.Machine

variable {s t : State}

/-! ### Tags in use -/

/-- A tag is in use where a job carries it, a printer reports it held, or a DROP of it is owed (R131). -/
theorem tagInUse_iff {x : Tag} : tagInUse x s = true ↔
    x ∈ queuedTags s ∨ ∃ p, (printer p s).heldTag = some x ∨ (printer p s).owedDrop = some x := by
  have carried : x ∈ queuedTags s ↔ (∃ j ∈ queue 0 s, j.tag = x) ∨ ∃ j ∈ queue 1 s, j.tag = x := by
    rw [queuedTags, List.map_append, List.mem_append, List.mem_map, List.mem_map]
  rw [carried, Fin.exists_fin_two]
  simp only [tagInUse, Bool.or_eq_true, List.any_eq_true, beq_iff_eq]
  exact iff_of_eq (by ac_rfl)

/-- The tags in use, place by place. -/
def usedTags (s : State) : List Tag :=
  queuedTags s ++ (List.finRange 2).flatMap fun p => (printer p s).heldTag.toList ++ (printer p s).owedDrop.toList

theorem mem_usedTags {x : Tag} : x ∈ usedTags s ↔ tagInUse x s = true := by
  rw [tagInUse_iff]
  simp [usedTags]

/-- The queues carry at most 32 tags and the printers at most 4. -/
theorem length_usedTags (law : QueueLaw s) : (usedTags s).length ≤ 36 := by
  have first : (queue 0 s).length ≤ 16 := (law.1 0).1
  have second : (queue 1 s).length ≤ 16 := (law.1 1).1
  have option (o : Option Tag) : o.toList.length ≤ 1 := Option.length_toList_le
  have held0 := option (printer 0 s).heldTag
  have held1 := option (printer 1 s).heldTag
  have owed0 := option (printer 0 s).owedDrop
  have owed1 := option (printer 1 s).owedDrop
  have printers : List.finRange 2 = [0, 1] := by decide
  simp only [usedTags, queuedTags, printers, List.length_append, List.length_map, List.flatMap_cons, List.flatMap_nil,
    List.length_nil]
  omega

/-! ### The tag allocated -/

/-- The tag `k` places after the candidate (R131). -/
def tagAfter (s : State) (k : Nat) : Tag := s.lbc.candidate + BitVec.ofNat 8 k

theorem tagAfter_inj {j k : Nat} (hj : j < 256) (hk : k < 256) (same : tagAfter s j = tagAfter s k) : j = k := by
  have numbers : BitVec.ofNat 8 j = BitVec.ofNat 8 k := by simpa [tagAfter] using same
  have values := congrArg BitVec.toNat numbers
  rw [BitVec.toNat_ofNat, BitVec.toNat_ofNat] at values
  omega

theorem tagAfter_mod (s : State) (k : Nat) : tagAfter s (k % 256) = tagAfter s k :=
  congrArg (s.lbc.candidate + ·) (BitVec.eq_of_toNat_eq (by simp))

/-- With 36 tags in use at most, one of the 256 is not. -/
theorem exists_unused_tag (law : QueueLaw s) : ∃ k < 256, tagInUse (tagAfter s k) s = false := by
  by_contra none
  push Not at none
  have used : (List.range 256).map (tagAfter s) ⊆ usedTags s := by
    intro x mem
    obtain ⟨k, low, rfl⟩ := List.mem_map.1 mem
    exact mem_usedTags.2 (by simpa using none k (List.mem_range.1 low))
  have distinct : ((List.range 256).map (tagAfter s)).Nodup := List.nodup_range.map_on
    fun j hj k hk => tagAfter_inj (List.mem_range.1 hj) (List.mem_range.1 hk)
  have many := (List.subperm_of_subset distinct used).length_le
  rw [List.length_map, List.length_range] at many
  have few := length_usedTags law
  omega

/-- The allocator gives the first tag not in use. -/
theorem freshTag_eq {x : Nat} (used : ∀ y < x, tagInUse (tagAfter s y) s = true) (unused : tagInUse (tagAfter s x) s = false) :
    freshTag s = tagAfter s x := by
  have low : x < 256 := by
    by_contra high
    have wrapped := used (x % 256) (by omega)
    rw [tagAfter_mod, unused] at wrapped
    cases wrapped
  have found : ((List.range 256).find? fun k => !tagInUse (tagAfter s k) s) = some x := by
    rw [List.find?_range_eq_some]
    exact ⟨by simpa using unused, List.mem_range.2 low, fun y below => by simpa using used y below⟩
  unfold freshTag
  simp only [tagAfter] at found
  rw [found]
  rfl

/-- Under the law of the queues there is a first tag not in use. -/
theorem exists_first_unused (law : QueueLaw s) :
    ∃ x, (∀ y < x, tagInUse (tagAfter s y) s = true) ∧ tagInUse (tagAfter s x) s = false := by
  obtain ⟨k, -, unused⟩ := exists_unused_tag law
  have some : ∃ k, tagInUse (tagAfter s k) s = false := ⟨k, unused⟩
  exact ⟨Nat.find some, fun y below => by simpa using Nat.find_min some below, Nat.find_spec some⟩

/-- The tag given to a new job is carried by no other (R131). -/
theorem freshTag_notMem (law : QueueLaw s) : freshTag s ∉ queuedTags s := by
  obtain ⟨x, used, unused⟩ := exists_first_unused law
  intro mem
  rw [freshTag_eq used unused] at mem
  rw [tagInUse_iff.2 (.inl mem)] at unused
  cases unused

end Sys2Proof.Machine
end

section
/-! SUPPORT. The laws of the queues, of the feeding printers and of the ticket records across one event: `Filed` composes,
so an event keeps them when its parts do. -/

namespace Sys2Proof.Machine

variable {s t u : State} {p : Printer}

/-! ### The queues (R130) -/

/-- Copies remaining as R130 bounds them. -/
def CopiesLeft (j : Job) : Prop := 1 ≤ j.remaining ∧ j.remaining ≤ 16

theorem QueueLaw.copies (law : QueueLaw s) (p : Printer) : ∀ j ∈ queue p s, CopiesLeft j := (law.1 p).2

theorem QueueLaw.places (law : QueueLaw s) (p : Printer) : (queue p s).length ≤ 16 := (law.1 p).1

theorem printers_of_ne {p q : Printer} (ne : p ≠ q) : p = 0 ∧ q = 1 ∨ p = 1 ∧ q = 0 := by
  revert p q
  decide

/-- The tags of the two queues, named in either order. -/
theorem nodup_queuedTags {p q : Printer} (ne : p ≠ q) :
    (queuedTags s).Nodup ↔ ((queue p s).map (·.tag) ++ (queue q s).map (·.tag)).Nodup := by
  rw [queuedTags, List.map_append]
  obtain ⟨rfl, rfl⟩ | ⟨rfl, rfl⟩ := printers_of_ne ne
  · exact .rfl
  · exact List.nodup_append_comm

theorem queueLaw_congr (queues : t.lbc.queues = s.lbc.queues) (law : QueueLaw s) : QueueLaw t := by
  have same (p : Printer) : queue p t = queue p s := by rw [queue, queues]; rfl
  simpa only [QueueLaw, queuedTags, same] using law

/-- Jobs that only left their queues, or were rewritten with their tags. -/
theorem queueLaw_of_fewer (tags : ∀ r, ((queue r t).map (·.tag)).Sublist ((queue r s).map (·.tag)))
    (copies : ∀ r, ∀ j ∈ queue r t, CopiesLeft j) (law : QueueLaw s) : QueueLaw t := by
  refine ⟨fun r => ⟨?_, copies r⟩, ?_⟩
  · have fewer := (tags r).length_le
    rw [List.length_map, List.length_map] at fewer
    exact fewer.trans (law.places r)
  · have distinct := law.2
    simp only [queuedTags, List.map_append] at distinct ⊢
    exact distinct.sublist ((tags 0).append (tags 1))

/-- A job with a tag of its own put behind a queue that has room for it. -/
theorem queueLaw_of_pushed {j : Job} (room : queueRoom p s = true) (copies : CopiesLeft j) (fresh : j.tag ∉ queuedTags s)
    (queues : ∀ r, queue r t = if r = p then queue p s ++ [j] else queue r s) (law : QueueLaw s) : QueueLaw t := by
  obtain ⟨q, other⟩ : ∃ q : Printer, p ≠ q := by
    rcases printer_cases p with rfl | rfl
    · exact ⟨1, by decide⟩
    · exact ⟨0, by decide⟩
  refine ⟨fun r => ?_, ?_⟩
  · rw [queues]
    split
    · refine ⟨?_, fun i mem => ?_⟩
      · simpa [queueRoom] using room
      · rcases List.mem_append.1 mem with old | new
        · exact law.copies p i old
        · rw [List.mem_singleton.1 new]
          exact copies
    · exact law.1 r
  · have distinct := (nodup_queuedTags other).1 law.2
    have unused : j.tag ∉ (queue p s).map (·.tag) ++ (queue q s).map (·.tag) := by
      rw [queuedTags, List.map_append] at fresh
      obtain ⟨rfl, rfl⟩ | ⟨rfl, rfl⟩ := printers_of_ne other
      · exact fresh
      · rwa [List.mem_append, or_comm, ← List.mem_append]
    rw [nodup_queuedTags other, queues p, if_pos rfl, queues q, if_neg other.symm, List.map_append, List.map_singleton,
      List.append_assoc, List.singleton_append]
    exact (List.perm_middle.nodup_iff).2 (List.nodup_cons.2 ⟨unused, distinct⟩)

/-! ### What an event keeps of the laws -/

/-- An IDLE printer `p` has no job (R138, R150). -/
def FeedsAt (p : Printer) (s : State) : Prop := (printer p s).state = .idle → queue p s = []

theorem feedLaw_iff : FeedLaw s ↔ ∀ p, FeedsAt p s := .rfl

/-- A ticket record that is FREE is empty (R104, log 43). -/
def EmptyIfFree (k : Ticket) : Prop := k.state = .free → k = freeTicket k.serial

theorem freeLaw_iff : FreeLaw s ↔ ∀ x, EmptyIfFree (ticket x s) := .rfl

/-- What every part of an event keeps of the laws of queues and tickets. -/
structure Stored (s t : State) : Prop where
  queues : QueueLaw s → QueueLaw t
  totals : TotalLaw s → TotalLaw t
  free : FreeLaw s → FreeLaw t

/-- What every event keeps of them, with no job at an IDLE printer. -/
structure Filed (s t : State) : Prop extends Stored s t where
  feed : ∀ r, FeedsAt r s → FeedsAt r t

/-- The same but for printer `p`, whose start is still to come. -/
structure FiledBut (p : Printer) (s t : State) : Prop extends Stored s t where
  feed : ∀ r, r ≠ p → FeedsAt r s → FeedsAt r t

theorem Stored.trans (a : Stored s t) (b : Stored t u) : Stored s u :=
  ⟨fun law => b.queues (a.queues law), fun law => b.totals (a.totals law), fun law => b.free (a.free law)⟩

theorem Filed.trans (a : Filed s t) (b : Filed t u) : Filed s u :=
  ⟨a.toStored.trans b.toStored, fun r law => b.feed r (a.feed r law)⟩

theorem FiledBut.trans (a : FiledBut p s t) (b : FiledBut p t u) : FiledBut p s u :=
  ⟨a.toStored.trans b.toStored, fun r ne law => b.feed r ne (a.feed r ne law)⟩

theorem Filed.but (a : Filed s t) : FiledBut p s t := ⟨a.toStored, fun r _ => a.feed r⟩

/-- An event that writes no ticket, no queue and no printer. -/
theorem Filed.of_blocks
    (h : t.tkp.tickets = s.tkp.tickets ∧ t.lbc.queues = s.lbc.queues ∧ t.lbc.printers = s.lbc.printers) : Filed s t := by
  obtain ⟨tickets, queues, printers⟩ := h
  have record (x : TicketSlot) : ticket x t = ticket x s := by rw [ticket, tickets]; rfl
  exact ⟨⟨queueLaw_congr queues, fun law x => record x ▸ law x, fun law x => by rw [record]; exact law x⟩,
    fun r law => by rw [FeedsAt, printer, queue, printers, queues]; exact law⟩

theorem Filed.refl (s : State) : Filed s s := .of_blocks ⟨rfl, rfl, rfl⟩

theorem Filed.ite {c : Prop} [Decidable c] (a : Filed s t) (b : Filed s u) : Filed s (if c then t else u) := by
  split
  · exact a
  · exact b

theorem Filed.foldl {α : Type} {f : State → α → State} (hf : ∀ s a, Filed s (f s a)) :
    ∀ (xs : List α) (s : State), Filed s (xs.foldl f s)
  | [], s => .refl s
  | x :: xs, s => (hf s x).trans (Filed.foldl hf xs (f s x))

theorem Filed.of_sameBehind (same : SameBehind t s) : Filed s t := by
  obtain ⟨-, -, -, -, -, -, -, -, -, -, -, -, tkp, lbc, -⟩ := same.blocks
  exact .of_blocks ⟨by rw [tkp], by rw [lbc], by rw [lbc]⟩

/-! ### Updates -/

/-- One ticket record written. -/
theorem filed_onTicket {x : TicketSlot} {f : Ticket → Ticket} (total : TicketLaw (ticket x s) → TicketLaw (f (ticket x s)))
    (free : EmptyIfFree (ticket x s) → EmptyIfFree (f (ticket x s))) : Filed s (onTicket x f s) := by
  refine ⟨⟨queueLaw_congr rfl, fun law y => ?_, fun law => freeLaw_iff.2 fun y => ?_⟩, fun _ => id⟩
  all_goals
    rw [ticket_onTicket]
    split
  · exact total (law x)
  · exact law y
  · exact free (freeLaw_iff.1 law x)
  · exact freeLaw_iff.1 law y

/-- A ticket record written with its lines, so that it is not FREE. -/
theorem filed_onTicket_used {x : TicketSlot} {f : Ticket → Ticket}
    (lines : (f (ticket x s)).lines = (ticket x s).lines ∧ (f (ticket x s)).total = (ticket x s).total)
    (used : (f (ticket x s)).state ≠ .free) : Filed s (onTicket x f s) :=
  filed_onTicket (fun law => by rwa [TicketLaw, lines.1, lines.2]) fun _ free => absurd free used

theorem ticketLaw_freeTicket (serial : Byte) : TicketLaw (freeTicket serial) :=
  ⟨Nat.zero_le _, rfl, rfl, Nat.zero_le _⟩

/-- A ticket record that becomes FREE. -/
theorem filed_freeRecord (x : TicketSlot) : Filed s (freeRecord x s) :=
  filed_onTicket (fun _ => ticketLaw_freeTicket _) fun _ _ => rfl

/-- The idle count of a ticket restarted, which the count of a FREE record is already. -/
theorem filed_restartIdle (x : TicketSlot) : Filed s (restartIdle x s) :=
  filed_onTicket id fun empty free => by rw [empty free]; rfl

/-- A printer context written: it is left IDLE only where it was, or where it has no job. -/
theorem filed_onPrinter {f : PrinterCtx → PrinterCtx}
    (idle : (f (printer p s)).state = .idle → (printer p s).state = .idle) : Filed s (onPrinter p f s) := by
  refine ⟨⟨queueLaw_congr rfl, id, id⟩, fun r law => ?_⟩
  rw [FeedsAt, printer_onPrinter, queue_onPrinter]
  split
  next e => subst e; exact fun now => law (idle now)
  · exact law

theorem filedBut_onPrinter (f : PrinterCtx → PrinterCtx) : FiledBut p s (onPrinter p f s) :=
  ⟨⟨queueLaw_congr rfl, id, id⟩, fun r ne law => by rw [FeedsAt, printer_onPrinter_ne _ _ ne]; exact law⟩

/-- A queue whose jobs leave it, or are rewritten with their tags. -/
theorem filed_onQueue {f : List Job → List Job} (tags : ((f (queue p s)).map (·.tag)).Sublist ((queue p s).map (·.tag)))
    (copies : (∀ j ∈ queue p s, CopiesLeft j) → ∀ j ∈ f (queue p s), CopiesLeft j) : Filed s (onQueue p f s) := by
  refine ⟨⟨fun law => queueLaw_of_fewer (fun r => ?_) (fun r => ?_) law, id, id⟩, fun r law idle => ?_⟩
  · rw [queue_onQueue]
    split
    next e => exact e ▸ tags
    · exact .refl _
  · rw [queue_onQueue]
    split
    · exact copies (law.copies p)
    · exact law.copies r
  · have nothing := law idle
    rw [queue_onQueue]
    split
    next e =>
      rw [← e, nothing] at tags
      rw [← List.map_eq_nil_iff (f := Job.tag), ← e, nothing]
      exact List.sublist_nil.1 tags
    · exact nothing

/-- A queue that jobs leave. -/
theorem filed_fewer {f : List Job → List Job} (fewer : (f (queue p s)).Sublist (queue p s)) : Filed s (onQueue p f s) :=
  filed_onQueue (fewer.map _) fun copies j mem => copies j (fewer.subset mem)

/-- The front job rewritten with its tag. -/
theorem filed_front {g : Job → Job} (tag : ∀ j, (g j).tag = j.tag)
    (copies : ∀ j rest, queue p s = j :: rest → CopiesLeft j → CopiesLeft (g j)) : Filed s (onQueue p (fun q => match q with
      | [] => []
      | j :: q => g j :: q) s) := by
  cases jobs : queue p s with
  | nil => exact filed_fewer (by rw [jobs])
  | cons j rest =>
    refine filed_onQueue (by rw [jobs, List.map_cons, List.map_cons, tag]) fun all i mem => ?_
    rw [jobs] at all mem
    rcases List.mem_cons.1 mem with rfl | old
    · exact copies j rest jobs (all j List.mem_cons_self)
    · exact all i (List.mem_cons_of_mem _ old)

/-- The start of a printer makes good what was still to come. -/
theorem FiledBut.start (a : FiledBut p s t) : Filed s (startIfIdle p t) := by
  have kept : Stored t (startIfIdle p t) := by
    unfold startIfIdle
    split
    · exact ⟨queueLaw_congr rfl, id, id⟩
    · exact ⟨id, id, id⟩
  refine ⟨a.toStored.trans kept, fun r law idle => ?_⟩
  rw [printer_startIfIdle] at idle
  rw [queue_startIfIdle]
  split at idle
  next e =>
    subst e
    by_contra jobs
    unfold startedCtx at idle
    split at idle
    · cases idle
    next stands => exact stands ⟨idle, jobs⟩
  next ne => exact a.feed r ne law idle

end Sys2Proof.Machine
end

section
/-! SUPPORT. Label queues, tickets and captures: `Filed`, operation by operation. -/

namespace Sys2Proof.Machine

variable {s t u : State} {p : Printer}

/-! ### Jobs queued and removed (R146, R149, R147) -/

/-- A job queued where there is room for it (R130, R131, R138). -/
theorem filed_queueJob {source : Option Head} {n : Nat} {content : Content} (room : queueRoom p s = true)
    (copies : 1 ≤ n ∧ n ≤ 16) : Filed s (queueJob p source n content s) := by
  refine FiledBut.start ⟨⟨fun law => ?_, id, id⟩, fun r ne law idle => ?_⟩
  · exact queueLaw_of_pushed room (j := newJob source n content s) copies (freshTag_notMem law)
      (fun r => queue_onQueue _ p r _) law
  · rw [queue_onQueue, if_neg ne]
    exact law idle

theorem filed_removeJob (p : Printer) (tag : Tag) : Filed s (removeJob p tag s) := by
  have removed : Filed s (onQueue p (·.eraseP (·.tag == tag)) s) := filed_fewer List.eraseP_sublist
  exact .ite (removed.but.trans (filedBut_onPrinter _)).start removed

theorem filed_removePurged (k : Nat) : Filed s (removePurged k s) := by
  rw [removePurged_eq]
  have removed (p : Printer) (go : List Job) (s : State) : Filed s (removeJobs p go s) :=
    .foldl (fun _ _ => filed_removeJob ..) go s
  exact (removed ..).trans (removed ..)

theorem filed_onItems (f : List Item → List Item) : Filed s (onItems f s) := .of_blocks ⟨rfl, rfl, rfl⟩

theorem filed_purgeCheck (k : Nat) : Filed s (purgeCheck k s) :=
  purgeCheck_ind (fun _ => .refl s) (fun _ _ _ => .refl s) fun _ _ _ => (filed_onItems _).trans (filed_removePurged _)

theorem filed_releaseRef (k : Nat) : Filed s (releaseRef k s) := (filed_onItems _).trans (filed_purgeCheck k)

/-! ### Reports of printers (R140 to R145) -/

theorem filed_endSummary (id : TicketId) : Filed s (endSummary id s) := by
  unfold endSummary
  dsimp only
  split
  · exact .ite (filed_onTicket_used ⟨rfl, rfl⟩ nofun) (filed_freeRecord _)
  · exact .refl s

theorem filed_jobLeft (c : Content) : Filed s (jobLeft c s) := by
  unfold jobLeft
  split
  · exact filed_endSummary _
  · exact .refl s

theorem filed_completeJob (p : Printer) (j : Job) : Filed s (completeJob p j s) :=
  (((filed_fewer (List.tail_sublist _)).trans (filed_jobLeft j.content)).but.trans (filedBut_onPrinter _)).start

theorem filed_foldInto (f : Acc → Acc × Bool) (k : FoldKeys) : Filed s (foldInto f k s) := .of_blocks (by simp)

theorem filed_foldPack (p : Printer) (j : Job) : Filed s (foldPack p j s) := by
  unfold foldPack
  split
  · have marked := filed_front (s := s) (p := p) (g := fun j => { j with folded := true }) (fun _ => rfl) fun _ _ _ => id
    exact .ite (.refl s) (marked.trans (filed_foldInto ..))
  · exact .refl s

/-- The front job after its sale is folded carries the copies it carried. -/
theorem queue_foldPack (p : Printer) {j : Job} {rest : List Job} (jobs : queue p s = j :: rest) :
    ∃ i, queue p (foldPack p j s) = i :: rest ∧ i.remaining = j.remaining := by
  unfold foldPack
  split
  · split
    · exact ⟨j, jobs, rfl⟩
    · refine ⟨{ j with folded := true }, ?_, rfl⟩
      rw [queue, show ∀ (f : Acc → Acc × Bool) k u, (foldInto f k u).lbc = u.lbc from fun f k u => by simp]
      exact (queue_onQueue_same ..).trans (by rw [jobs])
  · exact ⟨j, jobs, rfl⟩

/-- Copies counted (R141): the job leaves, or has copies left. -/
theorem filed_countCopies (p : Printer) (n : Nat) : Filed s (countCopies p n s) := by
  have counted (j : Job) : Filed s (onPrinter p (fun c => { c with printed := n }) (foldPack p j s)) :=
    (filed_foldPack p j).trans (filed_onPrinter id)
  unfold countCopies
  dsimp only
  split
  · exact .refl s
  next j rest jobs =>
    refine .ite ?_ (.refl s)
    split
    · exact (counted j).trans (filed_completeJob p j)
    next some =>
      refine (counted j).trans (filed_front (g := fun i => { i with remaining := _ }) (fun _ => rfl)
        fun i _ front copies => ?_)
      obtain ⟨i', folded, remaining⟩ := queue_foldPack p jobs
      rw [queue_onPrinter, folded] at front
      cases front
      rw [CopiesLeft, remaining] at copies
      exact ⟨Nat.one_le_iff_ne_zero.2 some, (Nat.sub_le ..).trans copies.2⟩

theorem filed_stopOrRecover (p : Printer) (cond : Condition) : Filed s (stopOrRecover p cond s) := by
  have recovered : Filed s (recoverPrinter p s) := by
    unfold recoverPrinter
    split
    · exact (filedBut_onPrinter _).start
    · exact .ite (filed_onPrinter nofun) (filed_onPrinter nofun)
  have stopped : Filed s (stopPrinter p s) :=
    (filed_onPrinter (f := fun c => { c with state := .stopped }) nofun).trans (.of_blocks ⟨rfl, rfl, rfl⟩)
  unfold stopOrRecover
  dsimp only
  split
  · exact .ite recovered (.refl s)
  · exact .ite (.refl s) stopped

theorem filed_takePrinterReport (p : Printer) (r : PrinterReport) : Filed s (takePrinterReport p r s) :=
  .ite (.refl s) ((((filed_onPrinter id).trans (filed_countCopies p _)).trans (filed_stopOrRecover p _)).trans
    (.ite (filed_onPrinter nofun) (.refl _)))

/-- A printer that comes ONLINE is IDLE until its start (R145). -/
theorem filed_printerOnline (p : Printer) (r : PrinterReport) : Filed s (printerOnline p r s) :=
  ((filedBut_onPrinter _).trans (filed_takePrinterReport p r).but).start

theorem filed_printerOffline (p : Printer) : Filed s (printerOffline p s) := filed_onPrinter nofun

/-! ### Lines and tickets (R107 to R119) -/

/-- A line appended to a ticket that is not FREE, in the next position and within the limit (R108). -/
theorem filed_appendLine {x : TicketSlot} {l : Line} (used : (ticket x s).state ≠ .free)
    (room : (ticket x s).lines.length < Config.linePlaces) (position : l.position = (ticket x s).lines.length + 1)
    (limit : (ticket x s).total + l.amount ≤ Config.ticketLimit) : Filed s (appendLine x l s) := by
  refine Filed.trans (filed_onTicket (fun ⟨_, positions, total, _⟩ => ⟨?_, ?_, ?_, limit⟩) fun _ free => absurd free used)
    (filed_onItems _)
  · rw [List.length_append, List.length_singleton]
    exact room
  · rw [List.map_append, positions, List.length_append, List.length_singleton, List.range'_1_concat, List.map_singleton,
      position, Nat.add_comm 1]
  · simp [lineSum, total]

/-- The newest line taken off (R109): the positions stay unbroken, and the total loses its amount. -/
theorem ticketLaw_lineDropped {k : Ticket} {l : Line} (newest : k.lines.getLast? = some l) (law : TicketLaw k) :
    TicketLaw (lineDropped l k) := by
  obtain ⟨places, positions, total, limit⟩ := law
  have lines : k.lines.dropLast ++ [l] = k.lines := List.dropLast_append_getLast? l newest
  have sum : lineSum k.lines = lineSum k.lines.dropLast + l.amount := by
    rw [← lines]
    simp [lineSum]
  refine ⟨(List.dropLast_sublist _).length_le.trans places, ?_, ?_, (Nat.sub_le ..).trans limit⟩
  · rw [← lines, List.map_append, List.length_append, List.length_singleton, List.range'_1_concat] at positions
    exact List.append_inj_left' positions rfl
  · change k.total - l.amount = _
    rw [total, sum, Nat.add_sub_cancel]
    rfl

theorem filed_voidNewest (x : TicketSlot) : Filed s (voidNewest x s) := by
  cases newest : (ticket x s).lines.getLast? with
  | none =>
    rw [voidNewest, newest]
    exact .refl s
  | some l =>
    have folded : Filed s (foldLineVoid l s) := .of_blocks (by simp)
    rw [voidNewest_some newest]
    rw [← ticket_foldLineVoid l x] at newest
    refine (folded.trans (filed_onTicket (ticketLaw_lineDropped newest) fun empty free => ?_)).trans (filed_releaseRef _)
    rw [empty free] at newest
    cases newest

theorem filed_walkLines {fold : Line → State → State} (hf : ∀ l s, Filed s (fold l s)) (ls : List Line) :
    Filed s (walkLines fold ls s) :=
  .foldl (fun s l => (hf l s).trans (filed_releaseRef _)) ls s

theorem filed_walkVoid (ls : List Line) : Filed s (walkLines foldLineVoid ls s) :=
  filed_walkLines (fun _ _ => .of_blocks (by simp)) ls

theorem filed_parkRecord (x : TicketSlot) : Filed s (parkRecord x s) := filed_onTicket_used ⟨rfl, rfl⟩ nofun

/-- The holder of a ticket taken from its record. -/
theorem filed_noHolder (x : TicketSlot) : Filed s (onTicket x (fun k => { k with holder := none }) s) :=
  filed_onTicket id fun empty free => by rw [empty free]; rfl

theorem filed_voidRecord (x : TicketSlot) : Filed s (voidRecord x s) :=
  ((filed_noHolder x).trans (filed_walkVoid _)).trans (filed_freeRecord x)

/-- The walk of a ticket's lines leaves the queues: each record that a line names was folded into, so none is purged. -/
theorem queueRoom_walkSale (ls : List Line) (p : Printer) : queueRoom p (walkLines foldLineSale ls s) = queueRoom p s := by
  rw [queueRoom, queue, (walked_sale ls s).queues]
  rfl

/-- The close of a ticket (R119): its summary job is queued where there was room for it. -/
theorem filed_closeRecord {x : TicketSlot} {h : Head} (room : queueRoom p s = true) : Filed s (closeRecord x h p s) := by
  have closing : Filed s (closingRecord x s) := filed_onTicket_used ⟨rfl, rfl⟩ nofun
  have walked := filed_walkLines (s := closingRecord x s) (fold := foldLineSale) (fun _ _ => .of_blocks (by simp))
    (ticket x s).lines
  have queued : Filed (walkLines foldLineSale (ticket x s).lines (closingRecord x s))
      (queueJob p (some h) 1 (.summary (summaryOf x s)) (walkLines foldLineSale (ticket x s).lines (closingRecord x s))) :=
    filed_queueJob (by rw [queueRoom_walkSale]; exact room) ⟨le_rfl, by decide⟩
  rw [closeRecord_eq]
  refine ((closing.trans walked).trans queued).trans (filed_onTicket id fun _ free => ?_)
  have state : (ticket x (closeRecord x h p s)).state = .closing := by rw [ticket_closeRecord, if_pos rfl]
  rw [closeRecord_eq, ticket_onTicket_same] at state
  exact absurd (state.symm.trans free) nofun

theorem filed_idlePark (x : TicketSlot) : Filed s (idlePark x s) := by
  unfold idlePark
  dsimp only
  split
  · exact (filed_parkRecord x).trans (.of_blocks (by simp))
  · exact .refl s

/-- A ticket whose idle count is raised is HELD (R113). -/
theorem filed_frameTicket (x : TicketSlot) : Filed s (frameTicket x s) := by
  unfold frameTicket
  dsimp only
  split
  · exact .refl s
  next counts =>
    refine .ite (filed_idlePark x) (filed_onTicket id fun _ free => ?_)
    exact absurd (show idleLimitOf x s = 0 by rw [idleLimitOf, show (ticket x s).state = .free from free]) counts

/-! ### Captures (R44 to R48) -/

theorem filed_setMessage (h : Head) (code : Code) : Filed s (setMessage h code s) := .of_blocks ⟨rfl, rfl, rfl⟩

theorem filed_onCtx (h : Head) (f : HeadCtx → HeadCtx) : Filed s (onCtx h f s) := .of_blocks ⟨rfl, rfl, rfl⟩

theorem filed_queueAtHead {h : Head} {content : Content} (room : queueRoom (settings h s).printer s = true) :
    Filed s (queueAtHead h content s) :=
  have queued := filed_queueJob (source := some h) (content := content) room ⟨le_rfl, by decide⟩
  .ite (queued.trans (filed_setMessage ..)) queued

theorem lbc_lockFor (k : Capture) : (lockFor k s).lbc = s.lbc := by simp

theorem settings_lockFor (k : Capture) (h : Head) : settings h (lockFor k s) = settings h s := by
  unfold lockFor
  split <;> rfl

theorem queueRoom_lockFor (k : Capture) (p : Printer) : queueRoom p (lockFor k s) = queueRoom p s := by
  rw [queueRoom, queue, lbc_lockFor]
  rfl

/-- A line captured on a ticket that has room for it, its label queued where it asks for one (R45, R47). -/
theorem filed_completeLine {k : Capture} {id : TicketId} (held : lineRoom id s = true)
    (limit : (ticket id.slot s).total + k.amount ≤ Config.ticketLimit)
    (room : (settings k.head s).lineLabels = true → queueRoom (settings k.head s).printer s = true) :
    Filed s (completeLine k id s) := by
  simp only [lineRoom, Bool.and_eq_true, beq_iff_eq, decide_eq_true_eq] at held
  obtain ⟨⟨state, -⟩, places⟩ := held
  have locked : Filed s (lockFor k s) := .of_blocks (by simp)
  have appended (position : Nat) (next : position = (ticket id.slot (lockFor k s)).lines.length + 1) :
      Filed s (onCtx k.head (fun c => { c with lastLine := some ⟨id, position⟩ })
        (appendLine id.slot (lineOf k position (lockFor k s)) (lockFor k s))) := by
    refine (locked.trans (filed_appendLine ?_ ?_ next ?_)).trans (filed_onCtx ..)
    all_goals rw [ticket_lockFor]
    · rw [state]
      nofun
    · exact places
    · exact limit
  unfold completeLine
  dsimp only
  refine ((appended _ rfl).trans ?_).trans (filed_onCtx k.head _)
  split
  next labels =>
    change (settings k.head (lockFor k s)).lineLabels = true at labels
    refine filed_queueAtHead ?_
    change queueRoom (settings k.head (lockFor k s)).printer (lockFor k s) = true
    rw [settings_lockFor] at labels ⊢
    rw [queueRoom_lockFor]
    exact room labels
  · exact .refl _

theorem filed_completeLabel {k : Capture} (purpose : Purpose) (room : queueRoom (settings k.head s).printer s = true) :
    Filed s (completeLabel k purpose s) := by
  have locked : Filed s (lockFor k s) := .of_blocks (by simp)
  have queued (content : Content) : Filed s (queueAtHead k.head content (lockFor k s)) :=
    locked.trans (filed_queueAtHead (by rwa [settings_lockFor, queueRoom_lockFor]))
  have counted (u : State) : Filed u (countBatch k.head u) := .of_blocks (by simp)
  unfold completeLabel
  dsimp only
  split
  · exact ((queued _).trans (counted _)).trans (filed_onCtx ..)
  · exact (queued _).trans (filed_onCtx ..)
  · exact (queued _).trans (filed_onCtx ..)

theorem filed_finish (k : Capture) (q : Request) : Filed s (finish k q s) := by
  have refused (code : Code) : Filed s (refuseRequest k.head code s) := .of_blocks (by simp)
  unfold finish
  dsimp only
  split
  next id _ _ =>
    split
    · exact .refl s
    next held =>
      split
      · exact refused _
      next limit =>
        split
        · exact refused _
        next room =>
          refine filed_completeLine (by simpa using held) (Nat.le_of_not_lt limit) fun labels => ?_
          simpa [needsLabel, labels] using room
  · exact .refl s
  next label _ =>
    split
    · exact refused _
    next room =>
      refine filed_completeLabel _ ?_
      cases purpose : q.purpose with
      | line => exact absurd purpose (by intro line; cases ticket : q.ticket <;> simp_all)
      | label | prepack => simpa [needsLabel, purpose] using room

theorem filed_examine (h : Head) : Filed s (examine h s) := by
  unfold examine complete
  dsimp only
  split
  · exact .refl s
  split
  · exact .refl s
  refine .ite ?_ (.refl s)
  split
  · exact .refl s
  split
  · exact .of_blocks (by simp)
  · exact filed_finish ..

theorem filed_makeRequest (h : Head) (i : Item) (q : Request) : Filed s (makeRequest h i q s) :=
  have selected : Filed s (selectItem h i (onCtx h (fun c => { c with request := some q }) s)) := .of_blocks (by simp)
  selected.trans (filed_examine h)

theorem filed_askItem (h : Head) (n : Nat) : Filed s (askItem h n s) := by
  unfold askItem
  split
  · exact filed_setMessage ..
  · exact Filed.trans (.of_blocks (by simp)) (filed_makeRequest ..)

theorem filed_recompose (h : Head) : Filed s (recompose h s) := .of_blocks ⟨rfl, rfl, rfl⟩

theorem filed_handResult (h : Head) (r : ChanResult) (fault newOver : Bool) : Filed s (handResult h r fault newOver s) := by
  have taken : Filed s (resultTaken h r fault newOver s) := by
    have cell : Filed s (if fault then cancelRequest h .cell s else s) := .ite (.of_blocks (by simp)) (.refl s)
    exact (cell.trans (.ite (.of_blocks (by simp)) (.refl _))).trans (.ite (filed_onCtx h _) (.refl _))
  have judged (waiting : Bool) (u : State) : Filed u (resultJudged h r waiting u) := by
    refine .ite (filed_examine h) ?_
    split
    · exact filed_makeRequest ..
    · exact .refl u
  rw [handResult_eq]
  exact (taken.trans (judged ..)).trans (filed_recompose h)

theorem filed_takeSample (h : Head) (raw : Int) : Filed s (takeSample h raw s) := by
  unfold takeSample
  split
  · exact .refl s
  · have low (b : Bool) (u : State) : Filed u (if b then flagZeroLimit h u else u) := .ite (.of_blocks (by simp)) (.refl u)
    have fault (b : Bool) (u : State) : Filed u (if b then flagCellFault h u else u) := .ite (.of_blocks (by simp)) (.refl u)
    have written (c : Channel) : Filed s (onChan h (fun _ => c) s) := .of_blocks ⟨rfl, rfl, rfl⟩
    exact (((written _).trans (low ..)).trans (fault ..)).trans (filed_handResult ..)

theorem filed_takeHanded (h : Head) (f : Int → Bool) : Filed s (takeHanded h f s) := by
  unfold takeHanded
  split
  · exact .refl s
  · exact .ite (Filed.trans (.of_blocks (by simp)) (filed_takeSample ..)) (.refl s)

theorem filed_restart (h : Head) : Filed s (restart h s) :=
  have restarted : Filed s (onChan h restartChannel s) := .of_blocks ⟨rfl, rfl, rfl⟩
  .ite (restarted.trans (filed_handResult ..)) restarted

theorem filed_goIdle (h : Head) : Filed s (goIdle h s) :=
  have idled : Filed s (onChan h (toIdle (settings h s)) s) := .of_blocks ⟨rfl, rfl, rfl⟩
  idled.trans (filed_handResult ..)

theorem filed_examineWatch : Filed s (examineWatch s) := .of_blocks (by simp)

theorem filed_takeAck (h : Head) (a : Ack) : Filed s (takeAck h a s) := by
  unfold takeAck
  dsimp only
  split
  · exact .refl s
  · have acked : Filed s (onCopies h (ackIn a) s) := .of_blocks ⟨rfl, rfl, rfl⟩
    exact (acked.trans (.ite (filed_examine h) (.refl _))).trans filed_examineWatch

end Sys2Proof.Machine
end

section
/-! SUPPORT. Keys, the counter link and the commands of the host: `Filed`, operation by operation, and the settlement of
the step lemma for queues and tickets. -/

namespace Sys2Proof.Machine

variable {s t u : State} {p : Printer}

/-! ### Sign-on and sign-off (R35, R36) -/

theorem filed_signOff (h : Head) : Filed s (signOff h s) := by
  cases signed : (ctx h s).operator with
  | none => rw [signOff_none signed]; exact .refl s
  | some op =>
    have back : Filed s (ticketBack (ctx h s).held s) := by
      unfold ticketBack
      split
      · exact filed_parkRecord _
      · exact .refl s
    have rest (u : State) : Filed u (onCtx h (fun _ => offCtx) (setSignOn op none (numberBack h (ctx h s).nowServing u))) := by
      cases (ctx h s).nowServing <;> exact .of_blocks ⟨rfl, rfl, rfl⟩
    rw [signOff_parts signed]
    exact back.trans (rest _)

theorem filed_loseContext (h : Head) : Filed s (loseContext h s) := (filed_signOff h).trans (filed_onCtx h _)

theorem filed_signOnKey (h : Head) (n : Nat) : Filed s (signOnKey h n s) := by
  have signed (op : Operator) (u : State) : Filed u (signOn h op u) := .of_blocks ⟨rfl, rfl, rfl⟩
  have moved (h' : Head) (parked : Bool) (u : State) : Filed u (movedMessage h' parked u) :=
    .ite (filed_setMessage ..) (.refl u)
  unfold signOnKey
  split
  · exact filed_setMessage ..
  · split
    · exact (filed_signOff h).trans (signed ..)
    · exact .ite (.refl s) ((((filed_signOff _).trans (filed_signOff h)).trans (moved ..)).trans (signed ..))

/-! ### Keys (R33 to R49) -/

/-- A ticket opened has no lines (R107). -/
theorem filed_openWith (h : Head) (op : Operator) (n : Nat) : Filed s (openWith h op n s) := by
  cases free : freeSlot s with
  | none => rw [openWith_none free]; exact filed_setMessage ..
  | some x =>
    have record : Filed s (openRecord x h op n s) := filed_onTicket (fun _ => ticketLaw_freeTicket 0) fun _ => nofun
    rw [openWith_some free]
    exact record.trans (.of_blocks ⟨rfl, rfl, rfl⟩)

theorem filed_openKey (h : Head) : Filed s (openKey h s) := by
  have advanced : Filed s (advanceNumber s) := .of_blocks ⟨rfl, rfl, rfl⟩
  unfold openKey
  split
  · exact .refl s
  · refine .ite (filed_setMessage ..) (.ite (filed_setMessage ..) ?_)
    split
    · exact filed_openWith ..
    · exact .ite (filed_setMessage ..) (advanced.trans (filed_openWith ..))

theorem filed_pickKey (h : Head) (n : Nat) : Filed s (pickKey h n s) := by
  have picked (x : TicketSlot) : Filed s (pickRecord x h s) := filed_onTicket_used ⟨rfl, rfl⟩ nofun
  refine .ite (filed_setMessage ..) ?_
  split
  · exact filed_setMessage ..
  · exact .ite ((picked _).trans (filed_onCtx ..)) (filed_setMessage ..)

theorem filed_leaveTicket (h : Head) (id : TicketId) : Filed s (leaveTicket h id s) := filed_onCtx ..

theorem filed_voidLast (h : Head) (id : TicketId) : Filed s (voidLast h id s) := by
  unfold voidLast
  split
  · exact filed_setMessage ..
  · exact .ite ((filed_voidNewest _).trans (filed_onCtx ..)) (filed_setMessage ..)

theorem filed_totalTicket (h : Head) (id : TicketId) : Filed s (totalTicket h id s) := by
  unfold totalTicket
  dsimp only
  split
  · exact filed_setMessage ..
  split
  · exact filed_setMessage ..
  next room =>
    have closed : Filed s (leaveTicket h id (closeRecord id.slot h (settings h s).printer s)) :=
      (filed_closeRecord (by simpa using room)).trans (filed_leaveTicket ..)
    exact .ite (closed.trans (filed_setMessage ..)) closed

theorem filed_labelKey (h : Head) : Filed s (labelKey h s) := by
  refine .ite (.ite (filed_setMessage ..) ?_) (.of_blocks (by simp))
  split
  · exact filed_askItem ..
  · exact filed_setMessage ..

theorem filed_withTicket {h : Head} {f : TicketId → State → State} (hf : ∀ id, Filed s (f id s)) :
    Filed s (withTicket h f s) := by
  unfold withTicket
  split
  · exact filed_setMessage ..
  · exact hf _

theorem filed_takeKey {k : KeyKind} {h : Head} {act : Nat → State → State} (ha : ∀ n u, Filed u (act n u)) :
    Filed s (takeKey k h act s) := by
  have passed (n : Nat) (u : State) : Filed u (gate k h (act n) u) := by
    have before : Filed u (keyAtTicket h (clearMessage h u)) := by
      refine (filed_onCtx h (fun c => { c with message := none })).trans ?_
      unfold keyAtTicket
      split
      · exact filed_restartIdle _
      · exact .refl _
    exact .ite (.refl u) (.ite (before.trans (filed_setMessage ..)) (.ite (before.trans (ha ..)) before))
  have taken (rest : List KeyEvent) : Filed s (onInbox h (fun b => { b with keys := rest }) s) := .of_blocks ⟨rfl, rfl, rfl⟩
  unfold takeKey
  split
  · exact .refl s
  · exact .ite ((taken _).trans (passed ..)) (.refl s)

/-! ### The counter link (R174 to R191) -/

theorem filed_ownersLose (i : Slot) : Filed s (ownersLose i s) := by
  have marked (h : Head) : Filed s (flagHeadLost h (onHeadLink h (fun _ => resetHeadLink) s)) := .of_blocks ⟨rfl, rfl, rfl⟩
  have cleared (h : Head) (u : State) : Filed u (clearCopies h u) := .of_blocks ⟨rfl, rfl, rfl⟩
  have printerLost (p : Printer) : Filed s (flagPrinterLost p s) := .of_blocks ⟨rfl, rfl, rfl⟩
  unfold ownersLose
  split
  · exact (((marked _).trans (filed_loseContext _)).trans (filed_goIdle _)).trans ((cleared ..).trans filed_examineWatch)
  · exact (printerLost _).trans (filed_printerOffline _)
  · exact .of_blocks ⟨rfl, rfl, rfl⟩

theorem filed_onSlot (i : Slot) (f : SlotLink → SlotLink) : Filed s (onSlot i f s) := .of_blocks ⟨rfl, rfl, rfl⟩

theorem filed_loseSlot (a : Presence) (i : Slot) : Filed s (loseSlot a i s) := (filed_onSlot i _).trans (filed_ownersLose i)

theorem filed_ownersJoin (i : Slot) : Filed s (ownersJoin i s) := by
  have marked (h : Head) : Filed s (onHeadLink h (fun _ => resetHeadLink) s) := .of_blocks ⟨rfl, rfl, rfl⟩
  have cleared (h : Head) (u : State) : Filed u (clearCopies h u) := .of_blocks ⟨rfl, rfl, rfl⟩
  unfold ownersJoin
  split
  · exact ((marked _).trans (filed_restart _)).trans (cleared ..)
  · exact .refl s
  · exact .of_blocks ⟨rfl, rfl, rfl⟩

theorem filed_takeJoin (i : Slot) : Filed s (takeJoin i s) :=
  have lost : Filed s (if onLink i s then loseSlot .absent i s else s) := .ite (filed_loseSlot ..) (.refl s)
  lost.trans ((filed_onSlot i _).trans (filed_ownersJoin i))

theorem filed_takeMiss (i : Slot) : Filed s (takeMiss i s) := by
  have missed (u : State) : Filed u (channelMiss i u) := .of_blocks (by simp)
  exact .ite (.refl s) (.ite ((missed _).trans (filed_loseSlot ..)) ((filed_onSlot i _).trans (missed _)))

theorem filed_handOn (i : Slot) (first : Bool) (m : Upstream) : Filed s (handOn i first m s) := by
  unfold handOn
  split
  · exact .of_blocks (by split <;> simp)
  · exact .ite (filed_printerOnline ..) (filed_takePrinterReport ..)
  · exact .of_blocks (by simp)
  · exact .refl s

theorem filed_takeReport (i : Slot) (m : Upstream) : Filed s (takeReport i m s) := by
  have online (first : Bool) : Filed s (handOn i first m (setPresence i .online s)) :=
    (filed_onSlot i _).trans (filed_handOn ..)
  unfold takeReport
  split
  · exact .refl s
  · exact .refl s
  all_goals exact online _

theorem filed_rejectPart (i : Slot) : Filed s (rejectPart i s) :=
  have counted : Filed s (countError i s) := .of_blocks (by simp)
  counted.trans (filed_takeMiss i)

theorem filed_upstreamPart (i : Slot) (part : Option (List Byte)) : Filed s (upstreamPart i part s) := by
  refine .ite (.refl s) ?_
  split
  · exact filed_takeMiss i
  · exact filed_rejectPart i
  · exact filed_rejectPart i
  next m _ =>
    cases m with
    | join k => exact .ite (filed_takeJoin i) (filed_rejectPart i)
    | head | printer | dispenser => exact filed_takeReport ..

theorem filed_link (l : Lnk) : Filed s { s with lnk := l } := .of_blocks ⟨rfl, rfl, rfl⟩

theorem filed_applyMask : Filed s (applyMask s) := by
  have slot (m : Table Bool 11) (i : Slot) (u : State) : Filed u (maskSlot m i u) := by
    unfold maskSlot
    split
    · exact .ite (filed_loseSlot ..) (filed_onSlot ..)
    · exact .ite (filed_onSlot ..) (.refl u)
    · exact .refl u
    · exact .refl u
  unfold applyMask
  split
  · exact .refl s
  next m _ =>
    have masked : Filed s (eachSlotDown (maskSlot m) s) := .foldl (fun _ _ => slot ..) _ s
    exact masked.trans (filed_link _)

theorem filed_applyRestart : Filed s (applyRestart s) := by
  have slot (i : Slot) (u : State) : Filed u (restartSlot i u) := by
    unfold restartSlot
    split
    · exact filed_loseSlot ..
    · exact filed_loseSlot ..
    · exact filed_onSlot ..
    · exact .refl u
    · exact .refl u
  have restarted : Filed s (eachSlotDown restartSlot s) := .foldl (fun _ _ => slot ..) _ s
  exact .ite (restarted.trans (filed_link _)) (.refl s)

theorem filed_frameStart : Filed s (frameStart s) := by
  have waits (u : State) : Filed u (eachSlot joinWait u) := .foldl (fun _ _ => filed_onSlot ..) _ u
  have counted (u : State) : Filed u (countFrame u) := .of_blocks ⟨rfl, rfl, rfl⟩
  exact (filed_applyMask.trans filed_applyRestart).trans ((waits _).trans (counted _))

/-- What a printer is told leaves it IDLE only where it was (R139). -/
theorem filed_printerOp (p : Printer) : Filed s (printerOp p s).2 := by
  unfold printerOp
  dsimp only
  split
  · exact .refl s
  · exact filed_onPrinter id
  · split
    · split
      · exact .refl s
      · split
        · exact filed_onPrinter fun idle => by split at idle <;> cases idle
        · exact .refl s
    · exact .refl s
  · exact .refl s
  · exact .refl s

theorem filed_send (i : Fin 12) (m : Downstream) : Filed s (send i m s) := .of_blocks ⟨rfl, rfl, rfl⟩

theorem filed_sendPrinterUpdate (p : Printer) : Filed s (sendPrinterUpdate p s) :=
  .ite ((filed_printerOp p).trans (filed_send ..)) (.refl s)

theorem filed_hubReset : Filed s (hubResetEffects s) := by
  have signedOff : Filed s (allHeads.reverse.foldl (fun s h => loseContext h s) s) :=
    .foldl (fun _ _ => filed_loseContext _) _ s
  have emptied (u : State) : Filed u (resetChannels { u with hsu := { u.hsu with signOn := Table.const 32 none } }) :=
    .of_blocks ⟨rfl, rfl, rfl⟩
  have dispenser (u : State) : Filed u (dispenserGone u) := .of_blocks ⟨rfl, rfl, rfl⟩
  have devices (u : State) : Filed u (printerOffline 0 (printerOffline 1 (dispenserGone u))) :=
    ((dispenser u).trans (filed_printerOffline 1)).trans (filed_printerOffline 0)
  have rest (u : State) : Filed u { u with
      ccu := powerOnCcu, tot := { u.tot with hold := none }, lnk := resetLink u.lnk, port := resetPort u.port
      hand := emptyHand, down := noDownstream } := .of_blocks ⟨rfl, rfl, rfl⟩
  exact ((signedOff.trans (emptied _)).trans (devices _)).trans (rest _)

/-! ### Settings and items (R3, R4, R60 to R70) -/

theorem filed_configureHead (f : RawHead) : Filed s (configureHead f s).state := by
  have stored (h : Head) (new : HeadSettings) : Filed s (storeSettings h new s) := .of_blocks ⟨rfl, rfl, rfl⟩
  have role (h : Head) (u : State) : Filed u (changeRole h u) := (filed_signOff h).trans (filed_onCtx ..)
  have written (h : Head) (g : Channel → Channel) (u : State) : Filed u (onChan h g u) := .of_blocks ⟨rfl, rfl, rfl⟩
  have effects (h : Head) (old new : HeadSettings) (u : State) : Filed u (channelEffects h old new u) :=
    .ite (filed_goIdle h) ((Filed.trans (.ite (written ..) (.refl _)) (.ite (written ..) (.refl _))).trans
      (Filed.trans (.ite (filed_restart h) (.refl _)) (.ite (written ..) (.refl _))))
  rw [configureHead_eq]
  split
  · exact .refl s
  · split
    · exact .refl s
    · exact ((stored ..).trans (.ite (role ..) (.refl _))).trans
        ((effects ..).trans (.ite (.of_blocks ⟨rfl, rfl, rfl⟩) (.refl _)))

theorem filed_configurePair (f : RawPair) : Filed s (configurePair f s).state := by
  unfold configurePair
  split
  · exact .refl s
  next p new _ =>
    have stored : Filed s (storePair p new s) := .of_blocks ⟨rfl, rfl, rfl⟩
    exact .ite stored ((stored.trans (filed_restart _)).trans (filed_restart _))

theorem filed_withdrawItem (n : Nat) : Filed s (withdrawItem n s).state := by
  unfold withdrawItem named
  split
  · exact .refl s
  split
  · exact .refl s
  · dsimp only
    split
    · exact .refl s
    · exact Filed.trans (.of_blocks (by simp)) (filed_purgeCheck _)

/-! ### Tickets and jobs from the host (R121 to R124, R148 to R150) -/

theorem filed_onNamed {slot serial : Nat} {f : TicketSlot → State → Answer} (hf : ∀ x, Filed s (f x s).state) :
    Filed s (onNamed slot serial f s).state := by
  unfold onNamed
  split
  · exact .refl s
  split
  · exact .refl s
  split
  · exact .refl s
  · exact hf _

theorem filed_voidTicketCommand (slot serial : Nat) : Filed s (voidTicketCommand slot serial s).state := by
  refine filed_onNamed fun x => ?_
  have released : Filed s (releaseHolder x s) := by
    unfold releaseHolder
    split
    · exact filed_leaveTicket ..
    · exact .refl s
  dsimp only
  split
  · exact released.trans (filed_voidRecord x)
  · exact .refl s

theorem filed_collectTicket (slot serial : Nat) : Filed s (collectTicket slot serial s).state := by
  refine filed_onNamed fun x => ?_
  split
  · exact filed_freeRecord x
  · exact .refl s

theorem filed_printText (n k : Nat) (text : List (List Byte)) : Filed s (printText n k text s).state := by
  unfold printText
  split
  · exact .refl s
  split
  · exact .refl s
  next range =>
    split
    · exact .refl s
    next room =>
      push Not at range
      exact filed_queueJob (by simpa using room) ⟨range.1, range.2.1⟩

theorem filed_setCollection (n : Nat) : Filed s (setCollection n s).state := by
  unfold setCollection
  split
  · exact .refl s
  · exact .of_blocks ⟨rfl, rfl, rfl⟩

theorem filed_cancelJob (n : Nat) : Filed s (cancelJob n s).state := by
  unfold cancelJob
  split
  · exact .refl s
  split
  · exact .refl s
  · exact (filed_removeJob ..).trans (filed_jobLeft _)

theorem filed_followSummary (q : Printer) (j : Job) : Filed s (followSummary q s j) := by
  unfold followSummary
  split
  · split
    next closing =>
      have state : (ticket _ s).state = .closing := (by simpa using closing : _ ∧ _).1
      exact filed_onTicket_used ⟨rfl, rfl⟩ (by rw [state]; nofun)
    · exact .refl s
  · exact .refl s

/-- A redirect parts a queue in two (R150). -/
theorem movable_append (p : Printer) (s : State) : (movable p s).1 ++ (movable p s).2 = queue p s := by
  unfold movable
  split
  · rfl
  · rfl
  · exact List.append_nil _
  · exact List.take_append_drop ..
  · exact List.take_append_drop ..

/-- An IDLE printer's jobs stay, and a feeding printer's front job does (R150). -/
theorem movable_stays (none : (movable p s).1 = []) (jobs : queue p s ≠ []) :
    (printer p s).state = .offline ∨ (printer p s).state = .stopped := by
  unfold movable at none
  split at none
  next state => exact .inl state
  next state => exact .inr state
  · exact absurd none jobs
  all_goals
    rcases List.take_eq_nil_iff.1 none with zero | empty
    · cases zero
    · exact absurd empty jobs

/-- The queues after `n` jobs of printer `p` were put behind those of printer `q`. -/
def movedQueues (p q : Printer) (n : Nat) (s : State) : State :=
  onQueue q (· ++ (movable p s).2.take n) (onQueue p (fun _ => (movable p s).1 ++ (movable p s).2.drop n) s)

theorem queue_movedQueues {p q : Printer} (ne : p ≠ q) (n : Nat) (s : State) :
    queue p (movedQueues p q n s) = (movable p s).1 ++ (movable p s).2.drop n
      ∧ queue q (movedQueues p q n s) = queue q s ++ (movable p s).2.take n := by
  simp [movedQueues, ne, ne.symm]

/-- Jobs moved keep their tags and their copies, and as many are moved as find room (R150). -/
theorem queueLaw_movedQueues {q : Printer} (ne : p ≠ q) {n : Nat} (room : (queue q s).length + n ≤ 16) (law : QueueLaw s) :
    QueueLaw (movedQueues p q n s) := by
  obtain ⟨atP, atQ⟩ := queue_movedQueues ne n s
  have all := movable_append p s
  have moved : ((movable p s).1 ++ (movable p s).2.drop n ++ (movable p s).2.take n).Perm (queue p s) := by
    rw [← all, List.append_assoc]
    exact (List.perm_append_comm.trans (.of_eq (List.take_append_drop n _))).append_left _
  have both (r : Printer) : r = p ∨ r = q := by
    rcases printers_of_ne ne with ⟨rfl, rfl⟩ | ⟨rfl, rfl⟩ <;> rcases printer_cases r with rfl | rfl <;> simp
  refine ⟨fun r => ?_, (nodup_queuedTags ne).2 ?_⟩
  · rcases both r with rfl | rfl
    · rw [atP]
      refine ⟨?_, fun j mem => law.copies r j (moved.subset (List.mem_append_left _ mem))⟩
      have fewer := moved.length_eq
      rw [List.length_append] at fewer
      exact (Nat.le_of_add_right_le fewer.le).trans (law.places r)
    · rw [atQ, List.length_append, List.length_take]
      refine ⟨(Nat.add_le_add_left (Nat.min_le_left ..) _).trans room, fun j mem => ?_⟩
      rcases List.mem_append.1 mem with old | new
      · exact law.copies r j old
      · exact law.copies p j (moved.subset (List.mem_append_right _ new))
  · have distinct := (nodup_queuedTags ne).1 law.2
    rw [atP, atQ, ← List.map_append]
    rw [← List.map_append] at distinct
    refine (List.Perm.nodup_iff (.map _ ?_)).2 distinct
    refine (List.perm_append_comm.append_left _).trans ?_
    rw [← List.append_assoc]
    exact moved.append_right _

/-- What a redirect makes of the context it takes jobs from: it lets go of its front job where that goes (R150). -/
def redirectedCtx (stay go : List Job) : PrinterCtx → PrinterCtx :=
  match stay, go with
  | [], j :: _ => unfeed j.tag
  | _, _ => fun c => c

theorem redirectedCtx_cases (stay go : List Job) :
    (∃ tag, stay = [] ∧ redirectedCtx stay go = unfeed tag) ∨ redirectedCtx stay go = fun c => c := by
  cases stay with
  | cons => exact .inr rfl
  | nil =>
    cases go with
    | nil => exact .inr rfl
    | cons j => exact .inl ⟨j.tag, rfl, rfl⟩

/-- A context that is down stays as it is when its front job is removed. -/
theorem state_unfeed_down {c : PrinterCtx} (tag : Tag) (down : c.state = .offline ∨ c.state = .stopped) :
    (unfeed tag c).state = c.state := by
  rw [unfeed_eq]
  rcases down with state | state <;> split <;> simp [state]

theorem moveJobs_eq (p q : Printer) (s : State) :
    ∃ n, n = min (movable p s).2.length (16 - (queue q s).length)
      ∧ moveJobs p q s = (n, (movable p s).2.length - n, startIfIdle q (((movable p s).2.take n).foldl (followSummary q)
        (onPrinter p (redirectedCtx (movable p s).1 ((movable p s).2.take n)) (movedQueues p q n s)))) := by
  refine ⟨_, rfl, ?_⟩
  have same (u : State) : onPrinter p (fun c => c) u = u := by simp [onPrinter]
  unfold moveJobs redirectedCtx
  dsimp only [movedQueues, Config.queuePlaces]
  split <;> simp_all

/-- The printer that jobs leave: where it is IDLE afterwards, it was IDLE, and so had none (R150). -/
theorem feedsAt_redirected {q : Printer} (ne : p ≠ q) (n : Nat) (law : FeedsAt p s) :
    FeedsAt p (onPrinter p (redirectedCtx (movable p s).1 ((movable p s).2.take n)) (movedQueues p q n s)) := by
  have all := movable_append p s
  intro idle
  rw [printer_onPrinter_same] at idle
  rw [queue_onPrinter, (queue_movedQueues ne n s).1]
  change (redirectedCtx (movable p s).1 ((movable p s).2.take n) (printer p s)).state = .idle at idle
  by_cases jobs : queue p s = []
  · rw [jobs, List.append_eq_nil_iff] at all
    rw [all.1, all.2, List.drop_nil, List.append_nil]
  · refine absurd ?_ jobs
    rcases redirectedCtx_cases (movable p s).1 ((movable p s).2.take n) with ⟨tag, none, lets⟩ | keeps
    · have down := movable_stays none jobs
      rw [lets, state_unfeed_down tag down] at idle
      rcases down with state | state <;> rw [state] at idle <;> cases idle
    · rw [keeps] at idle
      exact law idle

theorem filed_moveJobs {q : Printer} (ne : p ≠ q) : Filed s (moveJobs p q s).2.2 := by
  obtain ⟨n, count, moved⟩ := moveJobs_eq p q s
  have both (r : Printer) (other : r ≠ q) : r = p := by
    rcases printers_of_ne ne with ⟨rfl, rfl⟩ | ⟨rfl, rfl⟩ <;> rcases printer_cases r with rfl | rfl <;> simp_all
  have parted : FiledBut q s (onPrinter p (redirectedCtx (movable p s).1 ((movable p s).2.take n)) (movedQueues p q n s)) := by
    refine ⟨⟨fun law => queueLaw_congr rfl (queueLaw_movedQueues ne ?_ law), id, id⟩, fun r other law => ?_⟩
    · have places := law.places q
      omega
    · obtain rfl := both r other
      exact feedsAt_redirected ne n law
  have followed (go : List Job) (u : State) : Filed u (go.foldl (followSummary q) u) :=
    .foldl (fun _ _ => filed_followSummary ..) go u
  rw [moved]
  exact (parted.trans (followed ..).but).start

theorem filed_redirectJobs (n m : Nat) : Filed s (redirectJobs n m s).state := by
  unfold redirectJobs
  split
  · split
    · exact .refl s
    next ne => exact filed_moveJobs ne
  · exact .refl s

/-! ### The day (R161, R162, R168) -/

theorem filed_openDay (y m d : Nat) : Filed s (openDay y m d s).state := by
  unfold openDay
  split
  · exact .refl s
  split
  · exact .refl s
  · exact .of_blocks ⟨rfl, rfl, rfl⟩

theorem filed_closeDay : Filed s (closeDay s).state := by
  have cancelled (u : State) : Filed u (eachHead (fun h => cancelRequest h .dayClosed) u) :=
    .foldl (fun _ _ => .of_blocks (by simp)) _ u
  have started : Filed s (closeNumbers (startDrain s)) := .of_blocks (by simp)
  unfold closeDay
  dsimp only [done]
  split
  · exact .refl s
  split
  · exact .refl s
  · dsimp only
    exact started.trans (cancelled _)

theorem filed_drainOne (k : AccKey) : Filed s (drainOne k s).2 := by
  have cleared : Filed s (clearAt k s) := by cases k <;> exact .of_blocks ⟨rfl, rfl, rfl⟩
  have purged (i : Option Item) (u : State) : Filed u (drainPurge i u) := by
    cases i with
    | none => exact .refl u
    | some i => exact filed_purgeCheck _
  have counted (u : State) (o : Tot) : Filed u { u with tot := o } := .of_blocks ⟨rfl, rfl, rfl⟩
  exact (cleared.trans (purged ..)).trans (counted _ _)

theorem filed_readClosing (n : Nat) : Filed s (readClosing n s).state := by
  have ended : Filed s (endDrain s) := .of_blocks ⟨rfl, rfl, rfl⟩
  unfold readClosing
  split
  · exact .refl s
  split
  · exact .refl s
  split
  · unfold drainNext
    split
    · exact filed_drainOne _
    · exact ended
  · unfold drainRepeat
    split <;> exact .refl s

/-! ### Every row -/

/-- The row of an event. -/
theorem filed_event {f : State → State} (e : takes f s = .next t) (work : Filed s (f s)) : Filed s t := by
  obtain ⟨-, rfl⟩ | ⟨-, rfl⟩ := takes_next e
  · exact .refl _
  · exact (work.trans (.of_sameBehind (sameBehind_settle ..))).trans (.of_sameBehind (sameBehind_noted ..))

/-- The row of a command of the host. -/
theorem filed_command {pick : HostCmd → Option (State → Answer)} (e : takes (owner pick) s = .next t)
    (work : ∀ c f, pick c = some f → Filed s (f s).state) : Filed s t := by
  refine filed_event e ?_
  unfold owner
  split
  · exact .refl s
  · split
    next f hf => exact (work _ _ hf).trans (.of_blocks ⟨rfl, rfl, rfl⟩)
    · exact .refl s

theorem filed_transacts {f : State → State} (e : transacts f s = .next t) (work : Filed s (f s)) : Filed s t := by
  unfold transacts at e
  split at e
  · cases e; exact .refl s
  · cases e; exact work

/-- The reset state meets the laws, whatever the level of its pin. -/
theorem filed_powerOn (e : exec .powerOnReset s = .next t) : Filed s t := by
  cases e
  exact ⟨⟨fun _ => queueLaw_reset, fun _ => totalLaw_reset, fun _ => freeLaw_reset⟩, fun p _ => feedLaw_reset p⟩

theorem filed_pinFall (e : exec .resetPinFall s = .next t) : Filed s t := by
  have low (u : State) : Filed u { u with resetLow := true } := .of_blocks ⟨rfl, rfl, rfl⟩
  cases e
  exact ((filed_hubReset.trans (.of_sameBehind (sameBehind_settle ..))).trans (low _)).trans
    (.of_sameBehind (sameBehind_noted ..))

theorem filed_pinRise (e : exec .resetPinRise s = .next t) : Filed s t := by
  have high : Filed s { s with resetLow := false } := .of_blocks ⟨rfl, rfl, rfl⟩
  cases e
  exact high.trans (.of_sameBehind (sameBehind_noted ..))

/-- The rows of the keys. -/
theorem filed_key (k : KeyKind) (h : Head) (e : exec (keyRow k h) s = .next t) : Filed s t := by
  cases k
  case signOn => exact filed_event e (filed_takeKey fun n _ => filed_signOnKey h n)
  case signOff => exact filed_event e (filed_takeKey fun _ _ => filed_signOff h)
  case item => exact filed_event e (filed_takeKey fun n _ => filed_askItem h n)
  case openKey => exact filed_event e (filed_takeKey fun _ _ => filed_openKey h)
  case park =>
    exact filed_event e (filed_takeKey fun _ _ => filed_withTicket fun _ =>
      (filed_parkRecord _).trans (filed_leaveTicket ..))
  case pick => exact filed_event e (filed_takeKey fun n _ => filed_pickKey h n)
  case voidLast => exact filed_event e (filed_takeKey fun _ _ => filed_withTicket fun _ => filed_voidLast ..)
  case voidTicket =>
    exact filed_event e (filed_takeKey fun _ _ => filed_withTicket fun _ =>
      (filed_voidRecord _).trans (filed_leaveTicket ..))
  case total => exact filed_event e (filed_takeKey fun _ _ => filed_withTicket fun _ => filed_totalTicket ..)
  case label => exact filed_event e (filed_takeKey fun _ _ => filed_labelKey h)
  case count | zero | tare | clearTare | next | skip | batch | clear =>
    exact filed_event e (filed_takeKey fun _ _ => .of_blocks (by simp))

/-- The rows of the commands that write no ticket, no queue and no printer. -/
def unfiledCommands : List Instr :=
  [.setSlots, .linkRestart, .readLink, .readHead, .addItem, .updateItem, .findItem, .nextItem, .stagePrice, .unstagePrice,
    .commitPrices, .reinstateItem, .readCopies, .setNumberRange, .readQueue, .listTickets, .readTicket, .readPrinter,
    .readTotals, .readHold, .readStatus]

theorem filed_unfiledCommand {c : Instr} (hc : c ∈ unfiledCommands) (e : exec c s = .next t) : Filed s t := by
  simp only [unfiledCommands, List.mem_cons, List.not_mem_nil, or_false] at hc
  rcases hc with rfl | rfl | rfl | rfl | rfl | rfl | rfl | rfl | rfl | rfl | rfl | rfl | rfl | rfl | rfl | rfl | rfl | rfl |
    rfl | rfl | rfl <;>
    exact filed_command e fun c f h => by split at h <;> cases h; exact .of_blocks (by simp)

/-- Every row keeps the laws of queues and tickets. -/
theorem filed_exec (c : Instr) (e : exec c s = .next t) : Filed s t := by
  cases c
  case powerOnReset => exact filed_powerOn e
  case resetPinFall => exact filed_pinFall e
  case resetPinRise => exact filed_pinRise e
  case commandTransaction => exact filed_transacts e (.of_blocks (by simp))
  case responseTransaction => exact filed_transacts e (.of_blocks (by simp))
  case configureHead => exact filed_command e fun c f h => by split at h <;> cases h; exact filed_configureHead _
  case configurePair => exact filed_command e fun c f h => by split at h <;> cases h; exact filed_configurePair _
  case withdrawItem => exact filed_command e fun c f h => by split at h <;> cases h; exact filed_withdrawItem _
  case voidTicket => exact filed_command e fun c f h => by split at h <;> cases h; exact filed_voidTicketCommand ..
  case collectTicket => exact filed_command e fun c f h => by split at h <;> cases h; exact filed_collectTicket ..
  case setCollection => exact filed_command e fun c f h => by split at h <;> cases h; exact filed_setCollection _
  case printText => exact filed_command e fun c f h => by split at h <;> cases h; exact filed_printText ..
  case cancelJob => exact filed_command e fun c f h => by split at h <;> cases h; exact filed_cancelJob _
  case redirectJobs => exact filed_command e fun c f h => by split at h <;> cases h; exact filed_redirectJobs ..
  case openDay => exact filed_command e fun c f h => by split at h <;> cases h; exact filed_openDay ..
  case closeDay => exact filed_command e fun c f h => by split at h <;> cases h; exact filed_closeDay
  case readClosing => exact filed_command e fun c f h => by split at h <;> cases h; exact filed_readClosing _
  case hubReset => exact filed_command e fun c f h => by split at h <;> cases h; exact filed_hubReset
  case setSlots | linkRestart | readLink | readHead | addItem | updateItem | findItem | nextItem | stagePrice | unstagePrice
      | commitPrices | reinstateItem | readCopies | setNumberRange | readQueue | listTickets | readTicket | readPrinter
      | readTotals | readHold | readStatus =>
    exact filed_unfiledCommand (by simp [unfiledCommands]) e
  case frameStart => exact filed_event e filed_frameStart
  case slotMaskTakesEffect => exact filed_event e filed_applyMask
  case linkRestartTakesEffect => exact filed_event e filed_applyRestart
  case joinWaitExpiry => exact filed_event e (.ite (filed_onSlot ..) (.refl s))
  case headServiceFrameStart =>
    have counted : Filed s { s with hand := { s.hand with hsu := s.hand.hsu - 1 } } := .of_blocks ⟨rfl, rfl, rfl⟩
    exact filed_event ((exec_headServiceFrameStart s).symm.trans e)
      (.ite (.refl s) (counted.trans (.foldl (fun _ _ => .of_blocks (by simp)) _ _)))
  case copyFrameStart =>
    have counted : Filed s { s with hand := { s.hand with ccu := s.hand.ccu - 1 } } := .of_blocks ⟨rfl, rfl, rfl⟩
    exact filed_event ((exec_copyFrameStart s).symm.trans e) (.ite (.refl s) (counted.trans (.of_blocks (by simp))))
  case ticketFrameStart =>
    have counted : Filed s { s with hand := { s.hand with tkp := s.hand.tkp - 1 } } := .of_blocks ⟨rfl, rfl, rfl⟩
    exact filed_event ((exec_ticketFrameStart s).symm.trans e)
      (.ite (.refl s) (counted.trans (.foldl (fun _ x => filed_frameTicket x) _ _)))
  case captureTimeout | messageExpiry => exact filed_event e (.ite (.of_blocks (by simp)) (.refl s))
  case ticketIdlePark => exact filed_event e (.ite (filed_idlePark _) (.refl s))
  case frameNotice | welcome | headUpdate | dispenserUpdate => exact filed_event e (.of_blocks (by simp))
  case printerUpdate => exact filed_event e (filed_sendPrinterUpdate _)
  case headReport | printerReport | dispenserReport | join | upstreamRejected | upstreamMiss =>
    exact filed_event e (filed_upstreamPart _ _)
  case silenceLoss => exact filed_event e (.ite (filed_upstreamPart _ _) (.refl s))
  case channelSample h => exact filed_event ((exec_channelSample h s).symm.trans e) (filed_takeHanded ..)
  case cellFaultEntry h => exact filed_event ((exec_cellFaultEntry h s).symm.trans e) (filed_takeHanded ..)
  case cellFaultRecovery h => exact filed_event ((exec_cellFaultRecovery h s).symm.trans e) (filed_takeHanded ..)
  case copyAck h =>
    have taken (acks : List Ack) : Filed s (onInbox h (fun b => { b with acks := acks }) s) := .of_blocks ⟨rfl, rfl, rfl⟩
    refine filed_event ((exec_copyAck h s).symm.trans e) ?_
    split
    · exact .refl s
    · exact (taken _).trans (filed_takeAck ..)
  case captureLineComplete => exact filed_event e (.ite (filed_examine _) (.refl s))
  case captureLabelComplete h =>
    exact filed_event ((exec_captureLabelComplete h s).symm.trans e) (.ite (.refl s) (filed_examine h))
  case keySignOn h => exact filed_key .signOn h e
  case keySignOff h => exact filed_key .signOff h e
  case keyItem h => exact filed_key .item h e
  case keyCount h => exact filed_key .count h e
  case keyZero h => exact filed_key .zero h e
  case keyTare h => exact filed_key .tare h e
  case keyClearTare h => exact filed_key .clearTare h e
  case keyNext h => exact filed_key .next h e
  case keySkip h => exact filed_key .skip h e
  case keyOpen h => exact filed_key .openKey h e
  case keyPark h => exact filed_key .park h e
  case keyPick h => exact filed_key .pick h e
  case keyVoidLast h => exact filed_key .voidLast h e
  case keyVoidTicket h => exact filed_key .voidTicket h e
  case keyTotal h => exact filed_key .total h e
  case keyLabel h => exact filed_key .label h e
  case keyBatch h => exact filed_key .batch h e
  case keyClear h => exact filed_key .clear h e

/-- Settles O56: the laws do not read the queue of events, and the row at its front keeps them. -/
theorem stepKeepsQueuesAndTicketTotals : Obligations.StepKeepsQueuesAndTicketTotals := by
  intro s t e
  have kept : ∃ rest, Filed { s with pending := rest } t := by
    unfold step at e
    split at e
    · cases e; exact ⟨_, .refl s⟩
    next c rest _ => exact ⟨rest, filed_exec c e⟩
  obtain ⟨rest, kept⟩ := kept
  exact ⟨kept.queues, fun law => feedLaw_iff.2 fun p => kept.feed p (feedLaw_iff.1 law p), kept.totals, kept.free⟩

end Sys2Proof.Machine
end

section
/-! SUPPORT. The host's view of the Ticket Pool (R125), and its VOID_TICKET and COLLECT_TICKET (R121 to R123). -/

namespace Sys2Proof.Machine

variable {n : Byte} {s : State}

/-! ### LIST_TICKETS (R125) -/

/-- The selections of R125 as a table. -/
theorem selectionOf_eq_lookup (k : Nat) : selectionOf k =
    ([(0, (· == TicketState.free)), (1, (· == .held)), (2, (· == .parked)), (3, (· == .closing)), (4, (· == .closed)),
      (5, fun _ => true)] : List (Nat × (TicketState → Bool))).lookup k := by
  match k with
  | 0 | 1 | 2 | 3 | 4 | 5 => rfl
  | k + 6 => simp [selectionOf, List.lookup]

theorem listTickets_selected {k : Nat} {want : TicketState → Bool} (selected : selectionOf k = some want) (s : State) :
    listTickets k s = ⟨.done, .tickets ((allTickets.filter fun t => want (ticket t s).state).map (ticketEntry s))
      (ticketCounts s), s⟩ := by
  rw [listTickets, selected]
  rfl

theorem listTickets_bad {k : Nat} (large : 5 < k) (s : State) : listTickets k s = ⟨.badValue, .empty, s⟩ := by
  match k, large with
  | _ + 6, _ => rfl

/-- Settles O14: the selections are those of the table, and the row answers without a change. -/
theorem listTicketsBySelection : Obligations.ListTicketsBySelection := by
  intro n k s taking
  refine ⟨fun want selected => ?_, fun large => takes_owner_unchanged taking rfl (listTickets_bad large s)⟩
  rw [← selectionOf_eq_lookup] at selected
  exact takes_owner_unchanged taking rfl (listTickets_selected selected s)

/-! ### The name checks (R121) -/

section
variable {k : TicketSlot} {u : Byte} {f : TicketSlot → State → Answer}

theorem onNamed_bad {a b : Nat} (bad : a = 0 ∨ 48 < a ∨ 255 < b) (f : TicketSlot → State → Answer) (s : State) :
    onNamed a b f s = ⟨.badValue, .empty, s⟩ := by
  unfold onNamed
  split
  · rfl
  next x found =>
    have serial : 255 < b := by
      by_contra low
      rw [ticketSlotOf_none (by omega)] at found
      cases found
    rw [if_pos serial]
    rfl

theorem onNamed_slot (f : TicketSlot → State → Answer) (k : TicketSlot) (u : Byte) (s : State) :
    onNamed (k.val + 1) u.toNat f s
    = if (ticket k s).state = .free ∨ (ticket k s).serial ≠ u then ⟨.notFound, .empty, s⟩ else f k s := by
  have low : ¬255 < u.toNat := by have := u.isLt; omega
  simp only [onNamed, ticketSlotOf_succ, if_neg low, Bool.or_eq_true, beq_iff_eq, bne_iff_ne, ne_eq, BitVec.toNat_inj]
  rfl

theorem onNamed_missing (missing : (ticket k s).state = .free ∨ (ticket k s).serial ≠ u) :
    onNamed (k.val + 1) u.toNat f s = ⟨.notFound, .empty, s⟩ := by rw [onNamed_slot, if_pos missing]

theorem onNamed_found (used : (ticket k s).state ≠ .free) (serial : (ticket k s).serial = u) :
    onNamed (k.val + 1) u.toNat f s = f k s := by
  rw [onNamed_slot, if_neg]
  rintro (free | other)
  · exact used free
  · exact other serial

end

/-! ### VOID_TICKET and COLLECT_TICKET (R122, R123) -/

theorem openTicket_iff {x : Ticket} : openTicket x = true ↔ x.state = .held ∨ x.state = .parked := by
  simp [openTicket]

/-- The record that a void walks is that of the ticket, whoever held it. -/
theorem voidRecord_releaseHolder (k : TicketSlot) (s : State) : voidRecord k (releaseHolder k s)
    = freeRecord k (walkLines foldLineVoid (ticket k s).lines
      (onTicket k (fun x => { x with holder := none }) (releaseHolder k s))) := by
  have same : ticket k (releaseHolder k s) = ticket k s := by
    unfold releaseHolder
    split <;> rfl
  rw [voidRecord, same]

section
variable {k : TicketSlot} {u : Byte} (used : (ticket k s).state ≠ .free) (serial : (ticket k s).serial = u)
include used serial

theorem voidTicketCommand_refused (refuses : (ticket k s).state = .closing ∨ (ticket k s).state = .closed) :
    voidTicketCommand (k.val + 1) u.toNat s = ⟨.wrongState, .empty, s⟩ := by
  have closed : openTicket (ticket k s) = false := by
    rcases refuses with state | state <;> simp [openTicket, state]
  rw [voidTicketCommand, onNamed_found used serial]
  exact if_neg (Bool.eq_false_iff.1 closed)

theorem voidTicketCommand_open (opened : openTicket (ticket k s) = true) : voidTicketCommand (k.val + 1) u.toNat s
    = ⟨.done, .voided (ticket k s).lines.length (lineSum (ticket k s).lines), voidRecord k (releaseHolder k s)⟩ := by
  rw [voidTicketCommand, onNamed_found used serial]
  exact if_pos opened

theorem collectTicket_refused (other : (ticket k s).state ≠ .closed) :
    collectTicket (k.val + 1) u.toNat s = ⟨.wrongState, .empty, s⟩ := by
  rw [collectTicket, onNamed_found used serial, if_neg (by simpa using other)]
  rfl

theorem collectTicket_closed (closed : (ticket k s).state = .closed) :
    collectTicket (k.val + 1) u.toNat s = ⟨.done, .empty, freeRecord k s⟩ := by
  rw [collectTicket, onNamed_found used serial, if_pos (by simpa using closed)]
  rfl

end

/-- Settles O40: the name checks in order, then each command by the state of the ticket. -/
theorem hostVoidsAndCollectsTickets : Obligations.HostVoidsAndCollectsTickets := by
  intro n s
  refine ⟨fun a b bad => ⟨fun taking => takes_owner_unchanged taking rfl (onNamed_bad bad _ s),
    fun taking => takes_owner_unchanged taking rfl (onNamed_bad bad _ s)⟩, ?_⟩
  rintro k u _ _ rfl rfl
  refine ⟨fun missing => ⟨fun taking => takes_owner_unchanged taking rfl (onNamed_missing missing),
    fun taking => takes_owner_unchanged taking rfl (onNamed_missing missing)⟩, fun used serial => ?_⟩
  refine ⟨fun taking refuses => takes_owner_unchanged taking rfl (voidTicketCommand_refused used serial refuses),
    fun taking opened => ?_, fun taking other => takes_owner_unchanged taking rfl (collectTicket_refused used serial other),
    fun taking closed => takes_owner_sameBehind taking rfl (collectTicket_closed used serial closed)⟩
  have work := voidTicketCommand_open used serial (openTicket_iff.2 opened)
  rw [voidRecord_releaseHolder, releaseHolder, ticketId, serial] at work
  exact takes_owner_sameBehind taking rfl work

end Sys2Proof.Machine
end

section
/-! SUPPORT. The frame start of the Ticket Pool (R113, R114), ticket by ticket and head by head. -/

namespace Sys2Proof.Machine

variable {s u : State} {h : Head} {k : TicketSlot}

/-! ### One ticket at a frame start -/

/-- A ticket comes to the idle limit of its holder with this frame (R114). -/
def IdleFull (k : TicketSlot) (s : State) : Prop := idleLimitOf k s ≠ 0 ∧ idleLimitOf k s ≤ (ticket k s).idle + 1

/-- What a park leaves of a ticket (R110). -/
def parkedTicket (x : Ticket) : Ticket := { x with state := .parked, holder := none, idle := 0 }

/-- What a park at the idle limit leaves of the head that held the ticket (R114, R39). -/
def idleLeft (id : TicketId) (c : HeadCtx) : HeadCtx := { leaving id c with message := some ⟨.parked, 200⟩ }

/-- A ticket after a frame that counts towards an idle limit; 0 where none counts (R113). -/
def framedTicket (limit : Nat) (x : Ticket) : Ticket :=
  if limit = 0 then x else if limit ≤ x.idle + 1 then parkedTicket x else { x with idle := x.idle + 1 }

theorem idlePark_held (holder : (ticket k s).holder = some h) :
    idlePark k s = onCtx h (idleLeft (ticketId k s)) (onTicket k parkedTicket s) := by
  rw [idlePark]
  simp only [holder]
  rw [setMessage, leaveTicket, onCtx_onCtx]
  rfl

theorem holder_of_limit (counts : idleLimitOf k s ≠ 0) : ∃ h, (ticket k s).holder = some h := by
  cases holder : (ticket k s).holder with
  | some h => exact ⟨h, rfl⟩
  | none => exact absurd (by simp [idleLimitOf, holder]) counts

/-- Every ticket after one ticket's part of the frame start. -/
theorem ticket_frameTicket (k j : TicketSlot) (s : State) : ticket j (frameTicket k s)
    = if j = k then framedTicket (idleLimitOf k s) (ticket k s) else ticket j s := by
  unfold frameTicket framedTicket
  dsimp only
  by_cases zero : idleLimitOf k s = 0
  · rw [if_pos zero, if_pos zero]
    split
    next e => rw [e]
    · rfl
  obtain ⟨h, holder⟩ := holder_of_limit zero
  rw [if_neg zero, if_neg zero, idlePark_held holder]
  split <;> exact ticket_onTicket ..

/-- Every head after one ticket's part of the frame start: the holder of a ticket that is full leaves it. -/
theorem ctx_frameTicket_full (full : IdleFull k s) (holder : (ticket k s).holder = some h) :
    ctx h (frameTicket k s) = idleLeft (ticketId k s) (ctx h s) := by
  rw [frameTicket, if_neg full.1, if_pos full.2, idlePark_held holder, ctx_onCtx_same]
  rfl

theorem ctx_frameTicket_other (stays : IdleFull k s → (ticket k s).holder ≠ some h) : ctx h (frameTicket k s) = ctx h s := by
  unfold frameTicket
  dsimp only
  split
  · rfl
  next counts =>
    split
    next reached =>
      obtain ⟨g, holder⟩ := holder_of_limit counts
      have other : h ≠ g := fun e => stays ⟨counts, reached⟩ (e ▸ holder)
      rw [idlePark_held holder, ctx_onCtx_ne _ _ other]
      rfl
    · rfl

theorem settings_frameTicket (k : TicketSlot) (g : Head) (s : State) : settings g (frameTicket k s) = settings g s := by
  rw [settings, show (frameTicket k s).wge = s.wge by simp]
  rfl

theorem idleLimitOf_congr (record : ticket k u = ticket k s) (same : ∀ g, settings g u = settings g s) :
    idleLimitOf k u = idleLimitOf k s := by
  simp only [idleLimitOf, record, same]

/-- What a frame start writes: heads' contexts and tickets. -/
theorem frameTicket_rest (k : TicketSlot) (u : State) {heads : Table HeadCtx 8} {tickets : Table Ticket 48} :
    { frameTicket k u with hsu := { (frameTicket k u).hsu with heads := heads }
                           tkp := { (frameTicket k u).tkp with tickets := tickets } }
      = { u with hsu := { u.hsu with heads := heads }, tkp := { u.tkp with tickets := tickets } } := by
  unfold frameTicket
  dsimp only
  split
  · rfl
  next counts =>
    obtain ⟨g, holder⟩ := holder_of_limit counts
    rw [idlePark_held holder]
    split <;> rfl

/-! ### Some tickets, one after the other -/

/-- The parts of the frame start of the tickets in `ks`, in turn. -/
def frameTickets (ks : List TicketSlot) (s : State) : State := ks.foldl (fun s k => frameTicket k s) s

theorem settings_frameTickets (ks : List TicketSlot) (g : Head) (s : State) :
    settings g (frameTickets ks s) = settings g s :=
  foldl_keeps (settings g) (fun u k => settings_frameTicket k g u) ks s

theorem ticket_frameTickets {ks : List TicketSlot} (nodup : ks.Nodup) (k : TicketSlot) (s : State) :
    ticket k (frameTickets ks s) = if k ∈ ks then framedTicket (idleLimitOf k s) (ticket k s) else ticket k s := by
  induction ks generalizing s with
  | nil => rfl
  | cons j ks ih =>
    obtain ⟨new, nodup⟩ := List.nodup_cons.1 nodup
    refine (ih nodup (frameTicket j s)).trans ?_
    by_cases e : k = j
    · subst e
      rw [if_neg new, if_pos List.mem_cons_self, ticket_frameTicket, if_pos rfl]
    · have same : ticket k (frameTicket j s) = ticket k s := (ticket_frameTicket ..).trans (if_neg e)
      rw [same, idleLimitOf_congr same fun g => settings_frameTicket j g s]
      simp only [List.mem_cons, e, false_or]

/-- A head whose ticket is not among those that are full keeps its context. -/
theorem ctx_frameTickets_other {ks : List TicketSlot} (nodup : ks.Nodup)
    (stays : ∀ k ∈ ks, IdleFull k s → (ticket k s).holder ≠ some h) : ctx h (frameTickets ks s) = ctx h s := by
  induction ks generalizing s with
  | nil => rfl
  | cons j ks ih =>
    obtain ⟨new, nodup⟩ := List.nodup_cons.1 nodup
    refine (ih (s := frameTicket j s) nodup fun k mem => ?_).trans (ctx_frameTicket_other (stays j List.mem_cons_self))
    have other : k ≠ j := fun e => new (e ▸ mem)
    have same : ticket k (frameTicket j s) = ticket k s := (ticket_frameTicket ..).trans (if_neg other)
    rw [IdleFull, same, idleLimitOf_congr same fun g => settings_frameTicket j g s]
    exact stays k (List.mem_cons_of_mem _ mem)

theorem mem_allTickets (k : TicketSlot) : k ∈ allTickets := List.mem_finRange k

theorem nodup_allTickets : allTickets.Nodup := List.nodup_finRange 48

/-- A head that holds a full ticket, and no other, leaves it. -/
theorem ctx_frameTickets_full (full : IdleFull k s) (holder : (ticket k s).holder = some h)
    (only : ∀ j, (ticket j s).holder = some h → j = k) : ctx h (frameTickets allTickets s) = idleLeft (ticketId k s) (ctx h s) := by
  obtain ⟨before, after, all⟩ := List.append_of_mem (mem_allTickets k)
  have distinct := all ▸ nodup_allTickets
  obtain ⟨nodupBefore, nodupRest, apart⟩ := List.nodup_append.1 distinct
  obtain ⟨notAfter, nodupAfter⟩ := List.nodup_cons.1 nodupRest
  have notBefore : k ∉ before := fun mem => apart k mem k List.mem_cons_self rfl
  generalize middle : frameTickets before s = v
  have record : ticket k v = ticket k s := by rw [← middle, ticket_frameTickets nodupBefore, if_neg notBefore]
  have limit : idleLimitOf k v = idleLimitOf k s :=
    idleLimitOf_congr record fun g => by rw [← middle, settings_frameTickets]
  have first : ctx h v = ctx h s := by
    rw [← middle]
    exact ctx_frameTickets_other nodupBefore fun j mem _ held => notBefore (only j held ▸ mem)
  have fullNow : IdleFull k v := by rwa [IdleFull, limit, record]
  have rest : ctx h (frameTickets after (frameTicket k v)) = ctx h (frameTicket k v) := by
    refine ctx_frameTickets_other nodupAfter fun j mem _ held => notAfter ?_
    have other : j ≠ k := fun e => notAfter (e ▸ mem)
    have late : j ∉ before := fun early => apart j early j (List.mem_cons_of_mem _ mem) rfl
    rw [ticket_frameTicket, if_neg other, ← middle, ticket_frameTickets nodupBefore, if_neg late] at held
    exact only j held ▸ mem
  have split : frameTickets allTickets s = frameTickets after (frameTicket k v) := by
    rw [all, ← middle, frameTickets, List.foldl_append]
    rfl
  rw [split, rest, ctx_frameTicket_full fullNow (record ▸ holder), first, ticketId, record]
  rfl

/-- A frame-start signal taken from those that wait at the Ticket Pool (R174). -/
def poolSignalTaken (s : State) : State := { s with hand := { s.hand with tkp := s.hand.tkp - 1 } }

/-- The frame start of the pool writes contexts and tickets. -/
theorem frameTickets_frame (ks : List TicketSlot) (s : State) : frameTickets ks s
    = { s with hsu := { s.hsu with heads := (frameTickets ks s).hsu.heads }
               tkp := { s.tkp with tickets := (frameTickets ks s).tkp.tickets } } := by
  have rest := foldl_keeps (fun u : State => { u with
      hsu := { u.hsu with heads := (frameTickets ks s).hsu.heads }
      tkp := { u.tkp with tickets := (frameTickets ks s).tkp.tickets } })
    (f := fun u k => frameTicket k u) (fun u k => frameTicket_rest k u) ks s
  exact rest

/-! ### The limit, where heads and tickets agree -/

theorem idleLimitOf_eq (law : HolderLaw s) (k : TicketSlot) : idleLimitOf k s = match (ticket k s).holder with
    | some h => (settings h s).idleLimit
    | none => 0 := by
  cases holder : (ticket k s).holder with
  | none => simp [idleLimitOf, holder]
  | some h =>
    have held : (ticket k s).state = .held := (law.2.1 k).2 (by rw [holder]; rfl)
    simp [idleLimitOf, holder, held]

/-- A head holds one ticket at most. -/
theorem HolderLaw.only (law : HolderLaw s) {id : TicketId} (held : (ctx h s).held = some id) (j : TicketSlot)
    (holder : (ticket j s).holder = some h) : j = id.slot := by
  have named := (law.1 j h).1 holder
  rw [held] at named
  exact (congrArg TicketId.slot (Option.some.inj named)).symm

end Sys2Proof.Machine
end

section
/-! SUPPORT. The frame start of the copy lists (R79) and copy acknowledgements (R80, R87), and the settlement of the frame
starts of pool and copies. -/

namespace Sys2Proof.Machine

variable {s u v : State} {h : Head}

/-! ### Push ages (R79) -/

theorem ageEntry_eq (e : CopyEntry) : ageEntry e = match e.state, e.age with
    | .sending, some a => { e with age := some (min (a + 1) 10) }
    | _, _ => e := by
  obtain ⟨slot, index, number, version, state, age⟩ := e
  cases state <;> cases age <;> rfl

theorem ageEntry_shown (e : CopyEntry) : (ageEntry e).number = e.number ∧ (ageEntry e).state = e.state := by
  unfold ageEntry
  split <;> exact ⟨rfl, rfl⟩

theorem ageCopies_eq {lists : Table CopyList 8}
    (aged : ∀ h, lists.look h = ⟨(copies h s).entries.map ageEntry, (copies h s).drops⟩) :
    ageCopies s = { s with ccu := { s.ccu with lists := lists } } := by
  have same : (ageCopies s).ccu.lists = lists := Table.ext_look fun h => (copies_eachHead _ h s).trans (aged h).symm
  rw [← same]
  exact eachHead_onCopies_lists ..

/-- No display shows a push age. -/
theorem settle_aged {old : State} (wge : s.wge = old.wge) (hsu : s.hsu = old.hsu) (itb : s.itb = old.itb)
    (tkp : s.tkp = old.tkp) (aged : ∀ h, (copies h s).entries = (copies h old).entries.map ageEntry) : settle old s = s := by
  apply settle_eq_self <;> intro h <;>
    simp [itemInHand, sourcesOf, ctx, chan, role, settings, copyState, entryOf, findItem, summaryFor, service, ticket,
      wge, hsu, itb, tkp, aged, Function.comp_def, ageEntry_shown]

/-! ### Acknowledgements (R80) -/

theorem acked_iff {a : Ack} {e : CopyEntry} : acked a e = true ↔
    e.slot = a.slot ∧ e.state = .sending ∧ e.age.isSome ∧ e.version = a.version := by
  simp [acked, and_assoc]

theorem ackedItem_none {a : Ack} {c : CopyList}
    (discards : ∀ e ∈ c.entries, e.slot = a.slot → e.state ≠ .sending ∨ e.age = none ∨ e.version ≠ a.version) :
    ackedItem a c = none := by
  have none : c.entries.find? (acked a) = none := List.find?_eq_none.2 fun e mem takes => by
    obtain ⟨slot, state, age, version⟩ := acked_iff.1 takes
    rcases discards e mem slot with other | never | stale
    · exact other state
    · rw [never] at age
      cases age
    · exact stale version
  rw [ackedItem, none]
  rfl

section
variable {a : Ack} {c : CopyList} {e : CopyEntry} (law : CopyListLaw c) (mem : e ∈ c.entries) (takes : acked a e = true)
include law mem takes

/-- The entry that takes an acknowledgement is the one in its cache slot (R74). -/
theorem acked_iff_slot {x : CopyEntry} (there : x ∈ c.entries) : acked a x = true ↔ x.slot = a.slot := by
  refine ⟨fun other => (acked_iff.1 other).1, fun slot => ?_⟩
  have same : x = e := List.inj_on_of_nodup_map law.2.1 there mem (slot.trans (acked_iff.1 takes).1.symm)
  rw [same]
  exact takes

theorem ackedItem_some : ackedItem a c = some e.number := by
  have found : c.entries.find? (acked a) = some e := by
    obtain ⟨x, first⟩ := Option.isSome_iff_exists.1 (List.find?_isSome.2 ⟨e, mem, takes⟩)
    have there := List.mem_of_find?_eq_some first
    have slot := (acked_iff_slot law mem takes there).1 (List.find?_some first)
    rw [first, List.inj_on_of_nodup_map law.2.1 there mem (slot.trans (acked_iff.1 takes).1.symm)]
  rw [ackedItem, found]
  rfl

theorem ackIn_eq : ackIn a c = { c with entries := c.entries.map fun x =>
    if x.slot = a.slot then { x with state := .current, age := none } else x } := by
  rw [ackIn]
  congr 1
  refine List.map_congr_left fun x there => ?_
  simp only [acked_iff_slot law mem takes there]

end

/-- What an acknowledgement taken leaves: the examination of a request for its item, then that of the watch. -/
theorem takeAck_taken {a : Ack} {n : Nat} (taken : ackedItem a (copies h s) = some n) (v : State)
    (written : v = onCopies h (ackIn a) s) :
    takeAck h a s = examineWatch (if requestItem h v = some n then examine h v else v) := by
  subst written
  simp only [takeAck, taken, beq_iff_eq]

/-- An event that composes nothing and leaves what the port shows. -/
theorem takes_settled {f : State → State} (low : s.resetLow = false) (work : f s = u) (settled : settle s u = u)
    (view : portView u = portView s) : takes f s = .next u := by
  rw [takes_high _ low, work, settled, noted_same view]

/-- The oldest acknowledgement handed on, taken. -/
def ackHanded (h : Head) (s : State) : State :=
  match (inbox h s).acks with
  | [] => s
  | a :: rest => takeAck h a (onInbox h (fun b => { b with acks := rest }) s)

theorem exec_copyAck_handed (h : Head) (s : State) : exec (.copyAck h) s = takes (ackHanded h) s := rfl

theorem ackHanded_cons {a : Ack} {rest : List Ack} (acks : (inbox h s).acks = a :: rest) :
    ackHanded h s = takeAck h a (onInbox h (fun b => { b with acks := rest }) s) := by
  unfold ackHanded
  rw [acks]

/-- An acknowledgement that no entry takes changes nothing but the queue of those that wait. -/
theorem copyAck_discarded {a : Ack} {rest : List Ack} (low : s.resetLow = false) (acks : (inbox h s).acks = a :: rest)
    (discards : ackedItem a (copies h s) = none) :
    exec (.copyAck h) s = .next (onInbox h (fun b => { b with acks := rest }) s) := by
  have work : ackHanded h s = onInbox h (fun b => { b with acks := rest }) s := by
    rw [ackHanded_cons acks, takeAck, copies_onInbox, discards]
  exact (exec_copyAck_handed h s).trans
    (takes_settled low work (settle_eq_self_of_blocks rfl rfl rfl rfl rfl) (portView_congr rfl rfl rfl))

/-- The row of an acknowledgement that an entry takes. -/
theorem copyAck_taken {a : Ack} {rest : List Ack} {n : Nat} (low : s.resetLow = false)
    (acks : (inbox h s).acks = a :: rest) (taken : ackedItem a (copies h s) = some n)
    (written : v = onCopies h (ackIn a) (onInbox h (fun b => { b with acks := rest }) s)) :
    ∃ t, exec (.copyAck h) s = .next t
      ∧ SameBehind t (examineWatch (if requestItem h v = some n then examine h v else v)) := by
  obtain ⟨t, ht, behindT⟩ := takes_high_behind (ackHanded h) low
  rw [ackHanded_cons acks, takeAck_taken (by rwa [copies_onInbox]) v written] at behindT
  exact ⟨t, ht, behindT⟩

/-- What the examination of the watch makes of `w`, where `w` has the links and the copies of `v`. -/
theorem examineWatch_of_examined {w : State} (lnk : w.lnk = v.lnk) (ccu : w.ccu = v.ccu) : examineWatch w
    = watched (v.ccu.armed && watchMet v) w := by
  have met : watchMet w = watchMet v := by simp [watchMet, onLink, presence, slotLink, copies, lnk, ccu]
  rw [examineWatch_eq, met, ccu]

/-- The frame start of the copy lists composes no display. -/
theorem copyFrameStart_ages {lists : Table CopyList 8} (low : s.resetLow = false) (waits : 0 < s.hand.ccu)
    (aged : ∀ h, lists.look h = ⟨(copies h s).entries.map ageEntry, (copies h s).drops⟩) :
    exec .copyFrameStart s = .next { s with
      ccu := { s.ccu with lists := lists }, hand := { s.hand with ccu := s.hand.ccu - 1 } } := by
  have work : ageCopies { s with hand := { s.hand with ccu := s.hand.ccu - 1 } } = { s with
      ccu := { s.ccu with lists := lists }, hand := { s.hand with ccu := s.hand.ccu - 1 } } := ageCopies_eq aged
  have taken := takes_settled (f := fun s =>
      if s.hand.ccu = 0 then s else ageCopies { s with hand := { s.hand with ccu := s.hand.ccu - 1 } }) low
    ((if_neg (Nat.pos_iff_ne_zero.1 waits)).trans work) (settle_aged rfl rfl rfl rfl fun h => by rw [copies, aged h])
    (portView_congr rfl rfl rfl)
  exact (exec_copyFrameStart s).trans taken

/-- The frame start of the pool: each is framed on its own, and each head's context by the one ticket it holds. -/
theorem ticketFrameStart_tickets (low : s.resetLow = false) (waits : 0 < s.hand.tkp) :
    ∃ t, exec .ticketFrameStart s = .next t ∧ t.hand.tkp + 1 = s.hand.tkp
      ∧ SameBehind t { s with
          hsu := { s.hsu with heads := t.hsu.heads }, tkp := { s.tkp with tickets := t.tkp.tickets }
          hand := { s.hand with tkp := t.hand.tkp } }
      ∧ (∀ k, ticket k t = framedTicket (idleLimitOf k s) (ticket k s))
      ∧ ∀ h, ctx h t = ctx h (frameTickets allTickets (poolSignalTaken s)) := by
  obtain ⟨t, ht, behindT⟩ := takes_high_behind (fun s =>
    if s.hand.tkp = 0 then s else frameTickets allTickets (poolSignalTaken s)) low
  rw [if_neg (Nat.pos_iff_ne_zero.1 waits)] at behindT
  have frame := frameTickets_frame allTickets (poolSignalTaken s)
  obtain ⟨-, -, -, -, -, -, -, heads, -, -, -, -, tkp, -, -, hand, -⟩ := behindT.blocks
  have left : t.hand.tkp = s.hand.tkp - 1 := by rw [hand, frame]; rfl
  refine ⟨t, (exec_ticketFrameStart s).trans ht, by omega, ?_, fun k => ?_, behindT.ctx⟩
  · rw [heads, tkp, left]
    exact behindT.trans (congrArg behind frame)
  · rw [ticket, tkp]
    exact (ticket_frameTickets nodup_allTickets k (poolSignalTaken s)).trans (if_pos (mem_allTickets k))

theorem framedTicket_eq (limit : Nat) (x : Ticket) : framedTicket limit x
    = if limit ≠ 0 ∧ limit ≤ x.idle + 1 then parkedTicket x
      else if limit ≠ 0 then { x with idle := x.idle + 1 } else x := by
  unfold framedTicket
  by_cases zero : limit = 0 <;> simp [zero]

/-- TICKET_IDLE_PARK at a ticket that is full (R114). -/
theorem ticketIdlePark_full {k : TicketSlot} (low : s.resetLow = false) (waits : 0 < s.hand.tkp) (full : IdleFull k s)
    (holder : (ticket k s).holder = some h) :
    ∃ t, exec (.ticketIdlePark k) s = .next t
      ∧ SameBehind t (onCtx h (idleLeft (ticketId k s)) (onTicket k parkedTicket s)) := by
  obtain ⟨t, ht, behindT⟩ := takes_high_behind (fun s => if idleDue k s then idlePark k s else s) low
  have due : idleDue k s = true := by
    simp [idleDue, Nat.pos_iff_ne_zero.1 waits, full.1, full.2]
  rw [if_pos due, idlePark_held holder] at behindT
  exact ⟨t, ht, behindT⟩

/-- Settles O41: the tickets framed one by one, each head's context by the one ticket it holds; the copy lists aged; an
acknowledgement by the one entry in its cache slot. -/
theorem frameStartsOfPoolAndCopies : Obligations.FrameStartsOfPoolAndCopies := by
  refine ⟨fun s limit full low waits law limits fulls => ?_, fun s lists low waits aged => ?_, ?_⟩
  · have limitOf (k : TicketSlot) : idleLimitOf k s = limit k := (idleLimitOf_eq law k).trans (limits k).symm
    have fullOf (k : TicketSlot) : full k = true ↔ IdleFull k s := by rw [fulls, IdleFull, limitOf]
    refine ⟨?_, fun k h holder atLimit => ticketIdlePark_full low waits ((fullOf k).1 atLimit) holder⟩
    obtain ⟨t, ht, signal, rest, tickets, heads⟩ := ticketFrameStart_tickets low waits
    refine ⟨t, ht, signal, rest, fun k => ?_, fun h => ⟨fun id held atLimit => ?_, fun below => ?_⟩⟩
    · simp only [tickets, limitOf, framedTicket_eq, ← fulls]
      rfl
    · have named := law.holder held
      rw [heads, ctx_frameTickets_full (s := poolSignalTaken s) ((fullOf id.slot).1 atLimit) named.2.1 (law.only held), named.1]
      rfl
    · rw [heads, ctx_frameTickets_other (s := poolSignalTaken s) nodup_allTickets fun k _ atLimit holder => ?_]
      · rfl
      · have spare := below (ticketId k s) ((law.1 k h).1 holder)
        rw [show full (ticketId k s).slot = true from (fullOf k).2 atLimit] at spare
        cases spare
  · exact copyFrameStart_ages low waits fun h => (aged h).trans
      (congrArg (fun f => CopyList.mk ((copies h s).entries.map f) (copies h s).drops) (funext fun e => (ageEntry_eq e).symm))
  · rintro h a rest s u low acks law rfl
    refine ⟨fun discards => copyAck_discarded low acks (ackedItem_none discards), ?_⟩
    intro e v mem slot state age version written
    have takes : acked a e = true := acked_iff.2 ⟨slot, state, age, version⟩
    have taken := ackedItem_some (law h) mem takes
    have acked : v = onCopies h (ackIn a) (onInbox h (fun b => { b with acks := rest }) s) := by
      rw [written]
      exact onCopies_congr (by rw [copies_onInbox, ackIn_eq (law h) mem takes])
    obtain ⟨t, ht, behindT⟩ := copyAck_taken low acks taken acked
    have low' : v.resetLow = false := by rw [acked]; exact low
    have context : ctx h v = ctx h s := by rw [acked]; rfl
    have armed : v.ccu.armed = s.ccu.armed := by rw [acked]; rfl
    have link (i : Slot) : onLink i v = onLink i s := by rw [acked]; rfl
    generalize examined : (if requestItem h v = some e.number then examine h v else v) = w at behindT
    rw [examineWatch_of_examined (v := v) (by rw [← examined]; split <;> simp) (by rw [← examined]; split <;> simp)] at behindT
    have met : (v.ccu.armed && watchMet v) = true ↔ s.ccu.armed = true
        ∧ ∀ g, onLink (headSlot g) s = true → ∀ x ∈ (copies g v).entries, x.state = .current := by
      rw [Bool.and_eq_true, watchMet_iff, armed]
      simp only [link]
    have asks : requestItem h v = some e.number ↔ ∃ q, (ctx h s).request = some q ∧ q.number = e.number := by
      rw [requestItem, context, Option.map_eq_some_iff]
    refine ⟨t, w, ht, fun own => ?_, fun other => ?_, fun now => ?_, fun notYet => ?_⟩
    · rw [examined_iff low', ← examined, if_pos (asks.2 own)]
      exact .refl _
    · rw [← examined, if_neg]
      intro own
      obtain ⟨q, pending, number⟩ := asks.1 own
      exact other q pending number
    · rwa [met.2 now, watched_true] at behindT
    · rwa [Bool.eq_false_iff.2 fun now => notYet (met.1 now), watched_false] at behindT

end Sys2Proof.Machine
end

section
/-! SUPPORT. Jobs queued, removed and moved (R131, R138, R149, R150) as writes of one queue and one printer, and the
commands PRINT_TEXT, CANCEL_JOB and REDIRECT_JOBS. -/

namespace Sys2Proof.Machine

variable {s u : State} {p q : Printer}

/-! ### One printer written -/

theorem onPrinter_congr {f g : PrinterCtx → PrinterCtx} (e : f (printer p s) = g (printer p s)) :
    onPrinter p f s = onPrinter p g s := by
  simp only [printer] at e
  simp only [onPrinter, Table.change, e]

theorem onQueue_congr {f g : List Job → List Job} (e : f (queue p s) = g (queue p s)) : onQueue p f s = onQueue p g s := by
  simp only [queue] at e
  simp only [onQueue, Table.change, e]

theorem onPrinter_onPrinter (p : Printer) (f g : PrinterCtx → PrinterCtx) (s : State) :
    onPrinter p f (onPrinter p g s) = onPrinter p (fun c => f (g c)) s := by
  simp only [onPrinter, Table.change_change]

/-- The start of a printer as one write of its context (R138). -/
theorem startIfIdle_eq (p : Printer) (s : State) : startIfIdle p s = onPrinter p (startedCtx (queue p s)) s := by
  unfold startIfIdle
  split
  next idle =>
    refine onPrinter_congr ?_
    simp only [Bool.and_eq_true, beq_iff_eq, Bool.not_eq_true', List.isEmpty_eq_false_iff] at idle
    rw [startedCtx, if_pos idle]
  next busy =>
    simp only [Bool.and_eq_true, beq_iff_eq, Bool.not_eq_true', List.isEmpty_eq_false_iff] at busy
    have same : onPrinter p (startedCtx (queue p s)) s = onPrinter p (fun _ => printer p s) s :=
      onPrinter_congr (by rw [startedCtx, if_neg busy])
    rw [same, onPrinter_self]

/-! ### A job queued (R131, R146) -/

/-- A job queued with its tag: at the tail, with the start of an IDLE printer. -/
theorem queueJob_eq {tag : Tag} (fresh : freshTag s = tag) (p : Printer) (source : Option Head) (k : Nat) (content : Content) :
    queueJob p source k content s = onPrinter p (startedCtx [⟨0, source, k, k, false, content⟩])
      (onQueue p (fun js => js ++ [⟨tag, source, k, k, false, content⟩])
        { s with lbc := { s.lbc with candidate := tag + 1 } }) := by
  subst fresh
  unfold queueJob
  dsimp only
  rw [startIfIdle_eq, queue_onQueue_same]
  exact onPrinter_congr (startedCtx_nonempty (by simp) (by simp) _)

/-! ### PRINT_TEXT (R148) -/

theorem textGood_iff {text : List (List Byte)} : textGood text = true ↔ 1 ≤ text.length ∧ text.length ≤ 4
    ∧ ∀ l ∈ text, l.length ≤ 24 ∧ ∀ c ∈ l, 32 ≤ c.toNat ∧ c.toNat ≤ 126 := by
  simp [textGood, charsGood, and_assoc]

theorem printText_bad {a k : Nat} {text : List (List Byte)} (bad : 1 < a ∨ k = 0 ∨ 16 < k ∨ text = [] ∨ 4 < text.length
    ∨ ∃ l ∈ text, 24 < l.length ∨ ∃ c ∈ l, c.toNat < 32 ∨ 126 < c.toNat) (s : State) :
    printText a k text s = ⟨.badValue, .empty, s⟩ := by
  unfold printText
  split
  · rfl
  next p found =>
    have printer : a ≤ 1 := by
      by_contra large
      rw [index?_none (by omega)] at found
      cases found
    refine if_pos ?_
    by_contra good
    simp only [not_or, Bool.not_eq_true', Bool.not_eq_false, textGood_iff] at good
    obtain ⟨some, few, lines, lessLines, chars⟩ := good
    rcases bad with large | none | many | empty | long | ⟨l, mem, wide | ⟨c, char, low | high⟩⟩
    · omega
    · omega
    · omega
    · rw [empty] at lines
      exact absurd lines (by decide)
    · omega
    · exact absurd (chars l mem).1 (by omega)
    · exact absurd ((chars l mem).2 c char).1 (by omega)
    · exact absurd ((chars l mem).2 c char).2 (by omega)

section
variable {k : Nat} {text : List (List Byte)} (some : 1 ≤ k) (few : k ≤ 16) (good : textGood text = true)
include some few good

theorem printText_good (p : Printer) (s : State) : printText p.val k text s
    = if queueRoom p s then ⟨.done, .queued (freshTag s) (printerDown p s), queueJob p none k (.text text) s⟩
      else ⟨.full, .empty, s⟩ := by
  have range : ¬(k < 1 ∨ 16 < k ∨ (!textGood text) = true) := by
    rw [good]
    simp only [Bool.not_true, Bool.false_eq_true, or_false]
    omega
  unfold printText
  rw [index?_val]
  dsimp only
  rw [if_neg range]
  cases queueRoom p s <;> rfl

end

theorem printerDown_eq (p : Printer) (s : State) : printerDown p s
    = decide ((printer p s).state = .offline ∨ (printer p s).state = .stopped) := by
  rw [Bool.eq_iff_iff, decide_eq_true_iff, printerDown, Bool.or_eq_true, beq_iff_eq, beq_iff_eq]

/-! ### CANCEL_JOB (R149) -/

theorem findJob_none {x : Tag} (absent : x ∉ queuedTags s) : findJob x s = none := by
  have neither (p : Printer) : (queue p s).find? (·.tag == x) = none := by
    refine List.find?_eq_none.2 fun j mem same => absent ?_
    rw [queuedTags, List.map_append, List.mem_append, List.mem_map, List.mem_map]
    rcases printer_cases p with rfl | rfl
    · exact .inl ⟨j, mem, beq_iff_eq.1 same⟩
    · exact .inr ⟨j, mem, beq_iff_eq.1 same⟩
  rw [findJob, neither 0, neither 1]
  rfl

section
variable {ahead after : List Job} {j : Job} (law : QueueLaw s) (jobs : queue p s = ahead ++ j :: after)
include law jobs

/-- No job ahead of `j` carries its tag. -/
theorem tag_ahead : ∀ i ∈ ahead, i.tag ≠ j.tag := by
  have distinct := law.tags p
  rw [jobs, List.map_append, List.map_cons] at distinct
  intro i mem same
  exact (List.nodup_append.1 distinct).2.2 i.tag (List.mem_map_of_mem mem) j.tag List.mem_cons_self same

theorem find_jobAt : (queue p s).find? (·.tag == j.tag) = some j := by
  rw [jobs, List.find?_append, List.find?_eq_none.2 fun i mem => by simpa using tag_ahead law jobs i mem]
  simp

theorem findJob_at : findJob j.tag s = some (p, j) := by
  have found := find_jobAt law jobs
  rcases printer_cases p with rfl | rfl
  · rw [findJob, found]
  · have none : (queue 0 s).find? (·.tag == j.tag) = none := by
      refine List.find?_eq_none.2 fun i mem same => ?_
      have distinct := (nodup_queuedTags (s := s) (p := 0) (q := 1) (by decide)).1 law.2
      refine (List.nodup_append.1 distinct).2.2 i.tag (List.mem_map_of_mem mem) j.tag ?_ (beq_iff_eq.1 same)
      rw [jobs]
      exact List.mem_map_of_mem (List.mem_append_right _ List.mem_cons_self)
    rw [findJob, none, found]
    rfl

theorem isFront_at : isFront p j.tag s = true ↔ ahead = [] := by
  cases ahead with
  | nil => simp [isFront, jobs]
  | cons i ahead => simpa [isFront, jobs] using tag_ahead law jobs i List.mem_cons_self

/-- The removal of a job as one write of its queue and, where it was in front, one of its printer. -/
theorem removeJob_eq : removeJob p j.tag s
    = (if ahead = [] then onPrinter p (fun c => startedCtx after (unfeed j.tag c)) else fun y => y)
      (onQueue p (fun _ => ahead ++ after) s) := by
  have erased : (queue p s).eraseP (·.tag == j.tag) = ahead ++ after := by
    rw [jobs, List.eraseP_append_right _ fun i mem => by simpa using tag_ahead law jobs i mem,
      List.eraseP_cons_of_pos (by simp)]
  have written : onQueue p (·.eraseP (·.tag == j.tag)) s = onQueue p (fun _ => ahead ++ after) s := onQueue_congr erased
  unfold removeJob
  dsimp only
  rw [written]
  simp only [isFront_at law jobs]
  split
  next front =>
    rw [startIfIdle_eq, queue_onPrinter, queue_onQueue_same, onPrinter_onPrinter, front]
    rfl
  · rfl

end

/-- What the leaving of a job does at the Ticket Pool, where tickets and the collection setting stand as in `s`. -/
theorem jobLeft_eq (c : Content) (tickets : u.tkp = s.tkp) : jobLeft c u = match c with
    | .summary l =>
      if (ticket l.ticket.slot s).state = .closing ∧ (ticket l.ticket.slot s).serial = l.ticket.serial then
        onTicket l.ticket.slot (fun k =>
          if s.tkp.collection then { k with state := .closed, job := none } else freeTicket k.serial) u
      else u
    | _ => u := by
  cases c with
  | summary l =>
    have record : ticket l.ticket.slot u = ticket l.ticket.slot s := by rw [ticket, tickets]; rfl
    simp only [jobLeft, endSummary, record, tickets, Bool.and_eq_true, beq_iff_eq]
    split
    · cases s.tkp.collection <;> rfl
    · rfl
  | item | prepack | text => rfl

theorem cancelJob_bad {k : Nat} (large : 255 < k) (s : State) : cancelJob k s = ⟨.badValue, .empty, s⟩ := if_pos large

theorem cancelJob_tag (x : Tag) (s : State) : cancelJob x.toNat s = match findJob x s with
    | none => ⟨.notFound, .empty, s⟩
    | some (p, j) => ⟨.done, .cancelled (kindOf j.content) j.remaining (isFront p j.tag s && (printer p s).load.isSome),
        jobLeft j.content (removeJob p j.tag s)⟩ := by
  have low : ¬255 < x.toNat := by have := x.isLt; omega
  have same : BitVec.ofNat 8 x.toNat = x := BitVec.ofNat_toNat _ _
  rw [cancelJob, if_neg low, same]
  cases findJob x s <;> rfl

/-! ### REDIRECT_JOBS (R150) -/

theorem redirectJobs_bad {a b : Nat} (bad : 1 < a ∨ 1 < b ∨ a = b) (s : State) :
    redirectJobs a b s = ⟨.badValue, .empty, s⟩ := by
  unfold redirectJobs
  split
  next p q foundP foundQ =>
    refine if_pos ?_
    rcases bad with large | large | same
    · rw [index?_none (by omega)] at foundP
      cases foundP
    · rw [index?_none (by omega)] at foundQ
      cases foundQ
    · rw [same, foundQ] at foundP
      exact (Option.some.inj foundP).symm
  · rfl

theorem redirectJobs_good (ne : p ≠ q) (s : State) : redirectJobs p.val q.val s
    = ⟨.done, .moved (moveJobs p q s).1 (moveJobs p q s).2.1, (moveJobs p q s).2.2⟩ := by
  unfold redirectJobs
  rw [index?_val, index?_val]
  exact if_neg ne

theorem followSummary_eq (q : Printer) (s : State) (j : Job) : followSummary q s j = match j.content with
    | .summary l =>
      if (ticket l.ticket.slot s).state = .closing ∧ (ticket l.ticket.slot s).serial = l.ticket.serial then
        onTicket l.ticket.slot (fun r => { r with job := some ⟨q, j.tag⟩ }) s
      else s
    | _ => s := by
  unfold followSummary
  cases j.content with
  | summary l => simp only [Bool.and_eq_true, beq_iff_eq]
  | item | prepack | text => rfl

/-- Tickets that follow their summary jobs leave the printers. -/
theorem followSummary_onPrinter (p q : Printer) (f : PrinterCtx → PrinterCtx) (s : State) (j : Job) :
    followSummary q (onPrinter p f s) j = onPrinter p f (followSummary q s j) := by
  unfold followSummary
  split
  · rw [ticket_onPrinter]
    split <;> rfl
  · rfl

theorem startIfIdle_followSummary (p q : Printer) (s : State) (j : Job) :
    startIfIdle p (followSummary q s j) = followSummary q (startIfIdle p s) j := by
  have queues : queue p (followSummary q s j) = queue p s := by rw [queue, show (followSummary q s j).lbc = s.lbc by simp]; rfl
  rw [startIfIdle_eq, startIfIdle_eq, queues, followSummary_onPrinter]

theorem startIfIdle_follow (p q : Printer) (go : List Job) (s : State) :
    startIfIdle p (go.foldl (followSummary q) s) = go.foldl (followSummary q) (startIfIdle p s) := by
  induction go generalizing s with
  | nil => rfl
  | cons j go ih => rw [List.foldl_cons, List.foldl_cons, ih, startIfIdle_followSummary]

/-- A redirect as writes of the two queues, the two printers and the tickets whose summary job moved. -/
theorem moveJobs_writes (ne : p ≠ q) (s : State) {k : Nat} (count : k = min (movable p s).2.length (16 - (queue q s).length)) :
    moveJobs p q s = (k, (movable p s).2.length - k, ((movable p s).2.take k).foldl (followSummary q)
      (onPrinter q (startedCtx (queue q s ++ (movable p s).2.take k))
        (onPrinter p (redirectedCtx (movable p s).1 ((movable p s).2.take k)) (movedQueues p q k s)))) := by
  obtain ⟨n, same, moved⟩ := moveJobs_eq p q s
  obtain rfl : k = n := count.trans same.symm
  rw [moved, startIfIdle_follow, startIfIdle_eq, queue_onPrinter, (queue_movedQueues ne k s).2]

/-! ### The commands -/

section
variable {n : Byte} (law : QueueLaw s)
include law

/-- PRINT_TEXT within its ranges (R148). -/
theorem printText_row {k : Nat} {text : List (List Byte)} (taking : Taking n (.printText p.val k text) s) (some : 1 ≤ k)
    (few : k ≤ 16) (good : textGood text = true) :
    ((queue p s).length = 16 → exec .printText s = .next (answered n (.printText p.val k text) .full .empty s))
    ∧ ((queue p s).length < 16 → ∃ x : Nat, (∀ y < x, tagInUse (tagAfter s y) s = true) ∧ tagInUse (tagAfter s x) s = false
      ∧ exec .printText s = .next (answered n (.printText p.val k text) .done
        (.queued (tagAfter s x) (decide ((printer p s).state = .offline ∨ (printer p s).state = .stopped)))
        (onPrinter p (startedCtx [⟨0, none, k, k, false, .text text⟩])
          (onQueue p (fun js => js ++ [⟨tagAfter s x, none, k, k, false, .text text⟩])
            { s with lbc := { s.lbc with candidate := tagAfter s x + 1 } })))) := by
  have work := printText_good some few good p s
  refine ⟨fun full => ?_, fun room => ?_⟩
  · rw [if_neg (by simp [queueRoom_iff, full])] at work
    exact takes_owner_unchanged taking rfl work
  · obtain ⟨x, used, unused⟩ := exists_first_unused law
    have fresh := freshTag_eq used unused
    rw [if_pos ((queueRoom_iff ..).2 (Nat.not_le.2 room)), queueJob_eq fresh, fresh, printerDown_eq] at work
    exact ⟨x, used, unused, takes_owner_beside taking rfl work ⟨rfl, rfl, rfl, rfl, rfl, rfl, rfl⟩⟩

/-- CANCEL_JOB of a job that stands in a queue (R149). -/
theorem cancelJob_row {ahead after : List Job} {j : Job} (taking : Taking n (.cancelJob j.tag.toNat) s)
    (jobs : queue p s = ahead ++ j :: after) : ∃ t, exec .cancelJob s = .next t
      ∧ SameBehind t (answered n (.cancelJob j.tag.toNat) .done
        (.cancelled (kindOf j.content) j.remaining (decide (ahead = [] ∧ (printer p s).load ≠ none)))
        (jobLeft j.content (removeJob p j.tag s))) := by
  have fed : (isFront p j.tag s && (printer p s).load.isSome) = decide (ahead = [] ∧ (printer p s).load ≠ none) := by
    rw [Bool.eq_iff_iff, Bool.and_eq_true, isFront_at law jobs, decide_eq_true_iff, Option.isSome_iff_ne_none]
  have work := cancelJob_tag j.tag s
  rw [findJob_at law jobs] at work
  dsimp only at work
  rw [fed] at work
  exact takes_owner_sameBehind taking rfl work

end

/-- Settles O42: each command by its refusals, then by the queue, the printer and the tickets that it writes. -/
theorem printerCommandsMoveJobs : Obligations.PrinterCommandsMoveJobs := by
  intro n s started dropped law startedEq droppedEq
  obtain rfl : started = startedCtx := funext fun js => funext fun c => startedEq js c
  obtain rfl : dropped = unfeed := funext fun x => funext fun c => (droppedEq x c).trans (unfeed_eq x c).symm
  refine ⟨⟨fun x => tagInUse_iff, fun p source k x content used unused =>
      ⟨freshTag_eq used unused, queueJob_eq (freshTag_eq used unused) p source k content⟩⟩,
    fun a k text taking bad => takes_owner_unchanged taking rfl (printText_bad bad s),
    fun a taking large => takes_owner_unchanged taking rfl (cancelJob_bad large s),
    fun a b taking bad => takes_owner_unchanged taking rfl (redirectJobs_bad bad s),
    fun p k text taking some few lines lessLines chars =>
      printText_row law taking some few (textGood_iff.2 ⟨lines, lessLines, chars⟩),
    fun x taking absent => takes_owner_unchanged taking rfl (by rw [cancelJob_tag, findJob_none absent]),
    fun p ahead after j u taking jobs written => ?_, fun p q stay may k taking ne parted count => ?_⟩
  · obtain ⟨t, ht, behindT⟩ := cancelJob_row law taking jobs
    have removed : removeJob p j.tag s = u := (removeJob_eq law jobs).trans written.symm
    have tickets : u.tkp = s.tkp := by rw [← removed]; simp
    rw [removed, jobLeft_eq j.content tickets] at behindT
    exact ⟨t, ht, behindT⟩
  · have split : (stay, may) = movable p s := parted
    obtain ⟨rfl, rfl⟩ := Prod.mk.inj split
    have work := redirectJobs_good ne s
    rw [moveJobs_writes ne s count] at work
    have follow : followSummary q = _ := funext fun x => funext fun j => followSummary_eq q x j
    rw [follow] at work
    exact takes_owner_sameBehind taking rfl work

end Sys2Proof.Machine
end

section
/-! SUPPORT. What a PRINTER_REPORT does at the Label Controller (R140 to R145), step by step, as writes of one queue, one
printer and the tickets, and the settlement of its row. -/

namespace Sys2Proof.Machine

variable {s : State} {p : Printer} {j : Job} {rest : List Job}

/-! ### One queue or one printer written -/

theorem onQueue_onQueue (p : Printer) (f g : List Job → List Job) (s : State) :
    onQueue p f (onQueue p g s) = onQueue p (fun js => f (g js)) s := by
  simp only [onQueue, Table.change_change]

theorem onQueue_onPrinter (p q : Printer) (f : List Job → List Job) (g : PrinterCtx → PrinterCtx) (s : State) :
    onQueue p f (onPrinter q g s) = onPrinter q g (onQueue p f s) := rfl

theorem onQueue_self (jobs : queue p s = rest) : onQueue p (fun _ => rest) s = s := by
  subst jobs
  rw [onQueue_congr (g := fun js => js) rfl, onQueue, Table.change_id]

/-- A context whose loading begins again from chunk 0 (R138, R140, R144). -/
def reloadCtx (c : PrinterCtx) : PrinterCtx := { c with state := .loading, load := some (.chunk 0), printed := 0 }

theorem startIfIdle_starts (idle : (printer p s).state = .idle) (waits : queue p s ≠ []) :
    startIfIdle p s = onPrinter p reloadCtx s := if_pos (by simp [idle, waits])

theorem startIfIdle_rests (rests : (printer p s).state ≠ .idle ∨ queue p s = []) : startIfIdle p s = s :=
  if_neg (by simpa [imp_iff_not_or] using rests)

/-! ### The sale of a PREPACK job (R142) -/

/-- The fold of the sale of job `j` where it is a PREPACK job not yet folded (R142), less the mark on the job. -/
def packSold (j : Job) (s : State) : State :=
  match j.content, j.folded with
  | .prepack l f, false => foldInto (foldSale l.mode l.quantity l.amount) ⟨f.head, f.operator, f.dept, f.index⟩ s
  | _, _ => s

/-- Job `j` once a copy of it has been counted (R142): no sale of it is left to fold. -/
def soldJob (j : Job) : Job := { j with folded := j.folded || kindOf j.content == .prepack }

/-- A fold and a write of a queue stand beside each other. -/
theorem foldInto_onQueue (f : Acc → Acc × Bool) (k : FoldKeys) (p : Printer) (g : List Job → List Job) (s : State) :
    foldInto f k (onQueue p g s) = onQueue p g (foldInto f k s) := by
  unfold foldInto
  dsimp only
  rw [apply_ite (onQueue p g)]
  rfl

theorem queue_foldInto (f : Acc → Acc × Bool) (k : FoldKeys) (p : Printer) (s : State) :
    queue p (foldInto f k s) = queue p s := by simp [queue]

theorem packSold_tkp (j : Job) (s : State) : (packSold j s).tkp = s.tkp := by
  unfold packSold
  split <;> simp

/-- The fold of a PREPACK job as its sale and the mark on the job in front. -/
theorem foldPack_eq (jobs : queue p s = j :: rest) :
    foldPack p j s = onQueue p (fun _ => soldJob j :: rest) (packSold j s) := by
  have unmarked (same : soldJob j = j) (unsold : packSold j s = s) :
      s = onQueue p (fun _ => soldJob j :: rest) (packSold j s) := by rw [same, unsold, onQueue_self jobs]
  obtain ⟨tag, source, copies, remaining, folded, content⟩ := j
  cases content with
  | prepack l f =>
    cases folded with
    | true => exact unmarked rfl rfl
    | false =>
      refine (foldInto_onQueue ..).trans (onQueue_congr ?_)
      rw [queue_foldInto, jobs]
      rfl
  | item | summary | text => exact unmarked (by simp [soldJob, kindOf]) rfl

/-! ### Copies counted (R141) -/

/-- What becomes of a context whose front job has ended, with the queue `rest` left (R141, R138). -/
def endedCtx (rest : List Job) (c : PrinterCtx) : PrinterCtx :=
  if c.state = .stopped then { c with load := none, printed := 0 }
  else if rest = [] then { c with state := .idle, load := none, printed := 0 }
  else reloadCtx c

theorem endedCtx_printed (rest : List Job) (c : PrinterCtx) (n : Nat) :
    endedCtx rest { c with printed := n } = endedCtx rest c := rfl

/-- The tickets do not look at the printers when a job leaves. -/
theorem jobLeft_onPrinter (c : Content) (p : Printer) (f : PrinterCtx → PrinterCtx) (s : State) :
    jobLeft c (onPrinter p f s) = onPrinter p f (jobLeft c s) := by
  cases c with
  | summary l =>
    simp only [jobLeft, endSummary, apply_ite (onPrinter p f)]
    rfl
  | item | prepack | text => rfl

theorem queue_jobLeft (c : Content) (p : Printer) (s : State) : queue p (jobLeft c s) = queue p s := by simp [queue]

/-- The end of a job as the job's leaving, with one write of its queue and one of its printer. -/
theorem completeJob_eq (jobs : queue p s = j :: rest) (i : Job) : completeJob p i s
    = jobLeft i.content (onPrinter p (endedCtx rest) (onQueue p (fun _ => rest) s)) := by
  have left : onQueue p List.tail s = onQueue p (fun _ => rest) s := onQueue_congr (by rw [jobs]; rfl)
  have waiting : queue p (jobLeft i.content (onQueue p (fun _ => rest) s)) = rest := by
    rw [queue_jobLeft, queue_onQueue_same]
  unfold completeJob
  dsimp only
  rw [left, startIfIdle_eq, queue_onPrinter, waiting, onPrinter_onPrinter, jobLeft_onPrinter]
  refine onPrinter_congr ?_
  generalize printer p _ = c
  obtain ⟨state⟩ := c
  cases state <;> cases rest <;> rfl

/-- The counting of copies against the front job: the sale, then the end of the job or the copies it has left. -/
theorem countCopies_cons (jobs : queue p s = j :: rest) (n : Nat) : countCopies p n s
    = if (printer p s).load = some .done ∧ (printer p s).heldTag = some j.tag ∧ (printer p s).printed < n then
        if j.remaining ≤ n - (printer p s).printed then
          jobLeft j.content (onPrinter p (endedCtx rest) (onQueue p (fun _ => rest) (packSold j s)))
        else
          onPrinter p (fun c => { c with printed := n })
            (onQueue p (fun _ => { soldJob j with remaining := j.remaining - (n - (printer p s).printed) } :: rest)
              (packSold j s))
      else s := by
  unfold countCopies
  rw [jobs]
  simp only [Bool.and_eq_true, beq_iff_eq, decide_eq_true_iff, and_assoc, foldPack_eq jobs, Nat.sub_eq_zero_iff_le]
  refine if_congr Iff.rfl (if_congr Iff.rfl ?_ ?_) rfl
  · have front : queue p (onPrinter p (fun c => { c with printed := n })
        (onQueue p (fun _ => soldJob j :: rest) (packSold j s))) = soldJob j :: rest := by simp
    rw [completeJob_eq front]
    simp only [onQueue_onPrinter, onQueue_onQueue, onPrinter_onPrinter, endedCtx_printed]
  · rw [onQueue_onPrinter, onQueue_onQueue]

/-! ### The stop and its end (R143, R144) -/

section
variable {cond : Condition}

theorem stopOrRecover_running (ready : cond = .ready) (running : (printer p s).state ≠ .stopped) :
    stopOrRecover p cond s = s := by
  subst ready
  exact if_neg (by rwa [beq_iff_eq])

theorem stopOrRecover_stays (trouble : cond ≠ .ready) (stopped : (printer p s).state = .stopped) :
    stopOrRecover p cond s = s := by
  cases cond with
  | ready => exact absurd rfl trouble
  | paperOut | headOpen => exact if_pos (beq_iff_eq.2 stopped)

theorem stopOrRecover_stops (trouble : cond ≠ .ready) (running : (printer p s).state ≠ .stopped) :
    stopOrRecover p cond s = stopPrinter p s := by
  cases cond with
  | ready => exact absurd rfl trouble
  | paperOut | headOpen => exact if_neg (by rwa [beq_iff_eq])

theorem stopOrRecover_recovers (ready : cond = .ready) (stopped : (printer p s).state = .stopped) :
    stopOrRecover p cond s = recoverPrinter p s := by
  subst ready
  exact if_pos (beq_iff_eq.2 stopped)

end

theorem recoverPrinter_unloaded (unloaded : (printer p s).load = none) :
    recoverPrinter p s = startIfIdle p (onPrinter p (fun c => { c with state := .idle }) s) := by
  rw [recoverPrinter, unloaded]

theorem recoverPrinter_idle (unloaded : (printer p s).load = none) (empty : queue p s = []) :
    recoverPrinter p s = onPrinter p (fun c => { c with state := .idle }) s :=
  (recoverPrinter_unloaded unloaded).trans (startIfIdle_rests (.inr empty))

theorem recoverPrinter_starts (unloaded : (printer p s).load = none) (waits : queue p s ≠ []) :
    recoverPrinter p s = onPrinter p reloadCtx s := by
  have started : startIfIdle p (onPrinter p (fun c => { c with state := .idle }) s) = _ :=
    startIfIdle_starts (by simp) waits
  rw [recoverPrinter_unloaded unloaded, started, onPrinter_onPrinter]
  rfl

theorem recoverPrinter_held (loaded : (printer p s).load = some .done) (front : holdsFront p s = true) :
    recoverPrinter p s = onPrinter p (fun c => { c with state := .printing }) s := by
  simp [recoverPrinter, loaded, front]

theorem recoverPrinter_reloads (loading : (printer p s).load ≠ none)
    (other : ¬((printer p s).load = some .done ∧ holdsFront p s = true)) :
    recoverPrinter p s = onPrinter p reloadCtx s := by
  obtain ⟨l, at_l⟩ := Option.ne_none_iff_exists'.1 loading
  rw [at_l, Option.some.injEq] at other
  unfold recoverPrinter
  rw [at_l]
  exact if_neg (by rwa [Bool.and_eq_true, beq_iff_eq])

/-! ### The reload, and the report as a whole (R140, R145) -/

/-- The record of the front job is the one the printer holds. -/
theorem holdsFront_iff (p : Printer) (s : State) : holdsFront p s = true
    ↔ ∃ j rest, queue p s = j :: rest ∧ (printer p s).heldTag = some j.tag := by
  unfold holdsFront
  cases queue p s <;> simp

theorem reloadPrinter_eq (p : Printer) (s : State) : reloadPrinter p s
    = if (printer p s).state = .printing ∧ ¬holdsFront p s = true then onPrinter p reloadCtx s else s := by
  simp only [reloadPrinter, Bool.and_eq_true, beq_iff_eq, Bool.not_eq_true', Bool.not_eq_true]
  rfl

/-- What step 1 of R140 records of a report; a printer that comes ONLINE leaves OFFLINE for IDLE (R145). -/
def recordedCtx (joining : Bool) (r : PrinterReport) (c : PrinterCtx) : PrinterCtx :=
  { c with
    state := if joining then .idle else c.state, credit := r.credit, condition := r.condition, heldTag := r.heldTag }

/-- The report taken after it is recorded: the copies, the stop or the recovery, the reload. -/
def reportTaken (p : Printer) (r : PrinterReport) (s : State) : State :=
  reloadPrinter p (stopOrRecover p r.condition (countCopies p r.copies s))

theorem takePrinterReport_offline (r : PrinterReport) (offline : (printer p s).state = .offline) :
    takePrinterReport p r s = s := if_pos (beq_iff_eq.2 offline)

theorem takePrinterReport_served (r : PrinterReport) (served : (printer p s).state ≠ .offline) :
    takePrinterReport p r s = reportTaken p r (onPrinter p (recordedCtx false r) s) :=
  if_neg (by rwa [beq_iff_eq])

theorem printerOnline_eq (p : Printer) (r : PrinterReport) (s : State) :
    printerOnline p r s = startIfIdle p (reportTaken p r (onPrinter p (recordedCtx true r) s)) := by
  rw [printerOnline, takePrinterReport_served r (by simp), onPrinter_onPrinter]
  rfl

/-! ### PRINTER_REPORT at the link (R179, R181, R182) -/

theorem handOn_printer (p : Printer) (first : Bool) (r : PrinterReport) (s : State) :
    handOn (printerSlot p) first (.printer r) s = if first then printerOnline p r s else takePrinterReport p r s := by
  have noHead : slotHead (printerSlot p) = none := by simp [slotHead, printerSlot]
  have seat : slotPrinter (printerSlot p) = some p := by
    simp [slotPrinter, printerSlot, Nat.le_of_lt_succ p.isLt]
  simp only [handOn, noHead, seat]

section
variable {part : List Byte} {r : PrinterReport} (good : judge (printerSlot p) part = .good (.printer r))
include good

/-- A slot that is masked, or whose printer has not joined, takes no report. -/
theorem upstreamPart_printer_unseated
    (off : presence (printerSlot p) s = .absent ∨ presence (printerSlot p) s = .disabled) :
    upstreamPart (printerSlot p) (some part) s = s := by
  obtain off | off := off <;> simp [upstreamPart, off, judgePart, good, takeGood, takeReport]

theorem upstreamPart_printer_onLink (served : onLink (printerSlot p) s = true) :
    upstreamPart (printerSlot p) (some part) s = takePrinterReport p r (setPresence (printerSlot p) .online s) := by
  simp only [onLink, Bool.or_eq_true, beq_iff_eq] at served
  obtain served | served := served <;>
    simp [upstreamPart, served, judgePart, good, takeGood, takeReport, handOn_printer]

theorem upstreamPart_printer_joining (joins : presence (printerSlot p) s = .joining) :
    upstreamPart (printerSlot p) (some part) s = printerOnline p r (setPresence (printerSlot p) .online s) := by
  simp [upstreamPart, joins, judgePart, good, takeGood, takeReport, handOn_printer]

/-- A printer in service takes the report (R140). -/
theorem exec_printerReport_served (low : s.resetLow = false) (served : onLink (printerSlot p) s = true)
    (on : (printer p s).state ≠ .offline) : ∃ t, exec (.printerReport p part) s = .next t
      ∧ SameBehind t (reportTaken p r (onPrinter p (recordedCtx false r) (setPresence (printerSlot p) .online s))) := by
  rw [← takePrinterReport_served r (s := setPresence (printerSlot p) .online s) on,
    ← upstreamPart_printer_onLink good served]
  exact takes_high_behind _ low

/-- A printer that joins takes the report and is started after it (R145). -/
theorem exec_printerReport_joining (low : s.resetLow = false) (joins : presence (printerSlot p) s = .joining) :
    ∃ t, exec (.printerReport p part) s = .next t ∧ SameBehind t
      (startIfIdle p (reportTaken p r (onPrinter p (recordedCtx true r) (setPresence (printerSlot p) .online s)))) := by
  rw [← printerOnline_eq, ← upstreamPart_printer_joining good joins]
  exact takes_high_behind _ low

/-- An OFFLINE printer on the link takes nothing of a report: its slot alone is written. -/
theorem exec_printerReport_offline (low : s.resetLow = false) (served : onLink (printerSlot p) s = true)
    (offline : (printer p s).state = .offline) :
    exec (.printerReport p part) s = .next (setPresence (printerSlot p) .online s) := by
  have work : upstreamPart (printerSlot p) (some part) s = setPresence (printerSlot p) .online s :=
    (upstreamPart_printer_onLink good served).trans (takePrinterReport_offline r offline)
  exact takes_settled low work (settle_eq_self_of_blocks rfl rfl rfl rfl rfl) rfl

end

/-! ### The row -/

/-- Settles O51: the report is recorded, and each state after it is what one step of R140 makes of the state before. -/
theorem printerReportTakenInOrder : Obligations.PrinterReportTakenInOrder := by
  intro p part r s u v w x joining front reload low good joins frontEq reloadEq uEq vEq quiet stays stops recovers
    reloads kept
  obtain rfl : reload = reloadCtx := funext reloadEq
  obtain rfl : front = fun y => holdsFront p y = true :=
    funext fun y => propext ((frontEq y).trans (holdsFront_iff p y).symm)
  have recorded : u = onPrinter p (recordedCtx joining r) (setPresence (printerSlot p) .online s) := uEq
  have ctx : printer p u = recordedCtx joining r (printer p s) := by
    rw [recorded, printer_onPrinter_same]
    rfl
  have jobsKept : queue p u = queue p s := by rw [recorded]; rfl
  have ticketsKept : u.tkp = s.tkp := by rw [recorded]; rfl
  have counted : v = countCopies p r.copies u := by
    rw [vEq]
    cases jobs : queue p s with
    | nil => rw [countCopies, jobsKept.trans jobs]
    | cons j rest =>
      have tickets : (onPrinter p (endedCtx rest) (onQueue p (fun _ => rest) (packSold j u))).tkp = s.tkp :=
        (packSold_tkp j u).trans ticketsKept
      rw [countCopies_cons (jobsKept.trans jobs), ctx, jobLeft_eq j.content tickets]
      rfl
  have met : w = stopOrRecover p r.condition v := by
    by_cases ready : r.condition = .ready <;> by_cases stopped : (printer p v).state = .stopped
    · rw [stopOrRecover_recovers ready stopped]
      obtain ⟨idles, starts, prints, loads⟩ := recovers ready stopped
      by_cases unloaded : (printer p v).load = none
      · by_cases empty : queue p v = []
        · rw [idles unloaded empty, recoverPrinter_idle unloaded empty]
        · rw [starts unloaded empty, recoverPrinter_starts unloaded empty]
      · by_cases held : (printer p v).load = some .done ∧ holdsFront p v = true
        · obtain ⟨loaded, atFront⟩ := held
          rw [prints loaded atFront, recoverPrinter_held loaded atFront]
        · rw [loads unloaded held, recoverPrinter_reloads unloaded held]
    · rw [quiet ready stopped, stopOrRecover_running ready stopped]
    · rw [stays ready stopped, stopOrRecover_stays ready stopped]
    · rw [stops ready stopped, stopOrRecover_stops ready stopped]
      rfl
  have reloaded : x = reloadPrinter p w := by
    rw [reloadPrinter_eq]
    split
    next away =>
      obtain ⟨printing, notHeld⟩ := away
      exact reloads printing notHeld
    next stands => exact kept (by rwa [not_and_or, not_not] at stands)
  have taken : reportTaken p r u = x := by rw [reportTaken, ← counted, ← met, ← reloaded]
  refine ⟨fun off => takes_unchanged low (upstreamPart_printer_unseated good off), fun served offline =>
    exec_printerReport_offline good low served offline, fun served on => ?_, fun joined => ?_⟩
  · have notJoining : joining = false := by
      rw [← Bool.not_eq_true, joins]
      intro stands
      simp [onLink, stands] at served
    rw [← taken, recorded, notJoining]
    exact exec_printerReport_served good low served on
  · obtain ⟨t, ht, behindT⟩ := exec_printerReport_joining good low (joins.1 joined)
    rw [← joined, ← recorded, taken] at behindT
    refine ⟨t, ht, fun idle waits => ?_, fun rests => ?_⟩
    · rwa [startIfIdle_starts idle waits] at behindT
    · rwa [startIfIdle_rests rests] at behindT

end Sys2Proof.Machine
end

section
/-! SUPPORT. A fold as an addition to the accumulators that it reaches (R152 to R157), and the settlement of the folds. -/

namespace Sys2Proof.Machine

variable {s : State}

/-! ### One accumulator (R154, R155, R157) -/

theorem satAdd_eq (limit cur add : Nat) :
    satAdd limit cur add = (min limit (cur + add), decide (limit < cur + add)) := by
  unfold satAdd
  split
  next beyond => rw [min_eq_left beyond.le, decide_eq_true beyond]
  next within => rw [min_eq_right (Nat.not_lt.1 within), decide_eq_false within]

theorem foldSale_eq (mode : SaleMode) (q m : Nat) (a : Acc) : foldSale mode q m a =
    let w := if mode = .weighed then q else 0
    let p := if mode = .weighed then 0 else q
    let cut := decide (4294967295 < a.lines + 1 ∨ 281474976710655 < a.weight + w ∨ 4294967295 < a.pieces + p
      ∨ 281474976710655 < a.amount + m)
    ({ a with
        lines := min 4294967295 (a.lines + 1), weight := min 281474976710655 (a.weight + w)
        pieces := min 4294967295 (a.pieces + p), amount := min 281474976710655 (a.amount + m)
        saturated := a.saturated || cut }, cut) := by
  simp only [foldSale, satAdd_eq, Bool.decide_or, Bool.or_assoc]
  rfl

theorem foldVoid_eq (m : Nat) (a : Acc) : foldVoid m a =
    let cut := decide (4294967295 < a.voidLines + 1 ∨ 281474976710655 < a.voidAmount + m)
    ({ a with
        voidLines := min 4294967295 (a.voidLines + 1), voidAmount := min 281474976710655 (a.voidAmount + m)
        saturated := a.saturated || cut }, cut) := by
  simp only [foldVoid, satAdd_eq, Bool.decide_or]
  rfl

/-! ### The five accumulators of a fold (R156) -/

/-- Whether a fold is cut short in any of the accumulators that it reaches (R157). -/
def foldCut (f : Acc → Acc × Bool) (k : FoldKeys) (s : State) : Bool :=
  (f s.tot.grand).2 || (f (s.tot.heads.look k.head)).2 || (f (s.tot.operators.look k.operator)).2
    || (f (s.tot.departments.look k.dept)).2 || (match itemAt k.index s with
      | some i => (f i.acc).2
      | none => false)

/-- The accumulators outside the item table after a fold. -/
def foldedTot (f : Acc → Acc × Bool) (k : FoldKeys) (u : Tot) : Tot :=
  { u with
    grand := (f u.grand).1
    heads := u.heads.change k.head fun a => (f a).1
    operators := u.operators.change k.operator fun a => (f a).1
    departments := u.departments.change k.dept fun a => (f a).1 }

theorem foldInto_eq (f : Acc → Acc × Bool) (k : FoldKeys) (s : State) : foldInto f k s = { s with
    tot := foldedTot f k s.tot
    itb := { s.itb with items := s.itb.items.map (foldRecord f k.index) }
    port := { s.port with latched := { s.port.latched with
      totalSaturated := s.port.latched.totalSaturated || foldCut f k s } } } := by
  have cases : foldInto f k s = if foldCut f k s then
      flagSaturated (onItemAt k.index (fun i => { i with acc := (f i.acc).1 }) { s with tot := foldedTot f k s.tot })
    else onItemAt k.index (fun i => { i with acc := (f i.acc).1 }) { s with tot := foldedTot f k s.tot } := rfl
  rw [cases]
  cases foldCut f k s with
  | false => simp only [Bool.or_false]; rfl
  | true => simp only [Bool.or_true]; rfl

theorem foldInto_tot (f : Acc → Acc × Bool) (k : FoldKeys) (s : State) : (foldInto f k s).tot = foldedTot f k s.tot := by
  rw [foldInto_eq]

theorem itemAt_foldInto (f : Acc → Acc × Bool) (k : FoldKeys) (m : Nat) :
    itemAt m (foldInto f k s) = (itemAt m s).map (foldRecord f k.index) :=
  itemAt_map (foldRecord_index f k.index) (items_foldInto f k s) m

/-- Settles O43: a sale and a void alike add to an accumulator and report what was cut short, and a fold makes that
addition at its keys. -/
theorem foldsReachFiveAccumulators : Obligations.FoldsReachFiveAccumulators := by
  intro fold add cut k i s found kind
  have adds (x : Acc) : fold x = (add x, cut x) := by
    rcases kind with ⟨mode, q, a, w, p, rfl, rfl, rfl, cutEq, addEq⟩ | ⟨a, rfl, cutEq, addEq⟩
    · rw [foldSale_eq, addEq, cutEq]
    · rw [foldVoid_eq, addEq, cutEq]
  have added : (fun x => (fold x).1) = add := funext fun x => by rw [adds]
  have anyCut : foldCut fold k s = (cut s.tot.grand || cut (s.tot.heads.look k.head)
      || cut (s.tot.operators.look k.operator) || cut (s.tot.departments.look k.dept) || cut i.acc) := by
    simp only [foldCut, found, adds]
  have tot : (foldInto fold k s).tot = { s.tot with
      grand := add s.tot.grand, heads := s.tot.heads.change k.head add
      operators := s.tot.operators.change k.operator add, departments := s.tot.departments.change k.dept add } := by
    rw [foldInto_tot, foldedTot, added, adds]
  have read {n : Nat} (t : Table Acc n) (i j : Fin n) :
      (t.change i add).look j = if j = i then add (t.look j) else t.look j := by
    rw [Table.look_change]
    split
    next e => rw [e]
    · rfl
  refine ⟨_, rfl, by rw [tot], fun h => by rw [tot, read], fun n => by rw [tot, read], fun d => by rw [tot, read], ?_,
    fun m other => ?_, ?_⟩
  · rw [itemAt_foldInto, found, Option.map_some, foldRecord, if_pos (by simpa using (itemAt_found found).2), adds]
  · rw [itemAt_foldInto]
    cases stands : itemAt m s with
    | none => rfl
    | some j =>
      have unnamed : ¬(j.index == k.index) = true := by simpa [(itemAt_found stands).2] using other
      rw [Option.map_some, foldRecord, if_neg unnamed]
  · rw [← anyCut, foldInto_eq]
    rfl

end Sys2Proof.Machine
end

section
/-! SUPPORT. The balance of the accumulators across folds (R156): what the laws read of the books, and folds that post the
same amounts to every group. -/

namespace Sys2Proof.Machine

variable {s t u : State}

/-! ### Folds that add -/

/-- A fold adds the amounts `d` to an accumulator, unless it is cut short there (R154, R155, R157). -/
def Adds (f : Acc → Acc × Bool) (d : Acc) : Prop :=
  ∀ a, (f a).1.saturated = false → a.saturated = false ∧ ∀ g ∈ accFields, g (f a).1 = g a + g d

theorem adds_foldSale (mode : SaleMode) (q m : Nat) : Adds (foldSale mode q m)
    { emptyAcc with
      lines := 1, weight := if mode = .weighed then q else 0, pieces := if mode = .weighed then 0 else q
      amount := m } := by
  intro a exact
  rw [foldSale_eq] at exact ⊢
  generalize (if mode = .weighed then q else 0) = w at exact ⊢
  generalize (if mode = .weighed then 0 else q) = p at exact ⊢
  simp only [Bool.or_eq_false_iff, decide_eq_false_iff_not, not_or, Nat.not_lt] at exact
  obtain ⟨clean, lines, weight, pieces, amount⟩ := exact
  refine ⟨clean, fun g mem => ?_⟩
  simp only [accFields, List.mem_cons, List.not_mem_nil, or_false] at mem
  rcases mem with rfl | rfl | rfl | rfl | rfl | rfl
  · exact min_eq_right lines
  · exact min_eq_right weight
  · exact min_eq_right pieces
  · exact min_eq_right amount
  · rfl
  · rfl

theorem adds_foldVoid (m : Nat) : Adds (foldVoid m) { emptyAcc with voidLines := 1, voidAmount := m } := by
  intro a exact
  rw [foldVoid_eq] at exact ⊢
  simp only [Bool.or_eq_false_iff, decide_eq_false_iff_not, not_or, Nat.not_lt] at exact
  obtain ⟨clean, lines, amount⟩ := exact
  refine ⟨clean, fun g mem => ?_⟩
  simp only [accFields, List.mem_cons, List.not_mem_nil, or_false] at mem
  rcases mem with rfl | rfl | rfl | rfl | rfl | rfl
  · rfl
  · rfl
  · rfl
  · rfl
  · exact min_eq_right lines
  · exact min_eq_right amount

section Sums

variable {f : Acc → Acc × Bool} {d : Acc}

/-- One accumulator of a group folded: the group gains what the fold adds. -/
theorem Adds.group (adds : Adds f d) {n : Nat} {accs : Table Acc n} {i : Fin n}
    (clean : ∀ j, ((accs.change i fun a => (f a).1).look j).saturated = false) :
    (∀ j, (accs.look j).saturated = false)
      ∧ ∀ g ∈ accFields, sumOver g (accs.change i fun a => (f a).1) = sumOver g accs + g d := by
  have folded := clean i
  rw [Table.look_change_same] at folded
  obtain ⟨was, gains⟩ := adds _ folded
  refine ⟨fun j => ?_, fun g mem => ?_⟩
  · by_cases e : j = i
    · rwa [e]
    · have kept := clean j
      rwa [Table.look_change_ne _ _ e] at kept
  · have each (j : Fin n) : g ((accs.change i fun a => (f a).1).look j) = g (accs.look j) + if j = i then g d else 0 := by
      rw [Table.look_change]
      split
      next e => rw [e, gains g mem]
      · rfl
    simp only [sumOver, ← Fin.sum_univ_def, each, Finset.sum_add_distrib, Finset.sum_ite_eq', Finset.mem_univ, if_true]

theorem foldRecord_same {k : Nat} {i : Item} (index : i.index = k) : foldRecord f k i = { i with acc := (f i.acc).1 } :=
  if_pos (by simpa using index)

theorem foldRecord_other {k : Nat} {i : Item} (other : i.index ≠ k) : foldRecord f k i = i :=
  if_neg (by simpa using other)

/-- The records gain what the fold adds, as often as its index stands among them. -/
theorem Adds.records (adds : Adds f d) (k : Nat) {g : Acc → Nat} (mem : g ∈ accFields) :
    ∀ is : List Item, (∀ i ∈ is.map (foldRecord f k), i.acc.saturated = false) →
      ((is.map (foldRecord f k)).map fun i => g i.acc).sum
        = (is.map fun i => g i.acc).sum + (is.map (·.index)).count k * g d
  | [], _ => by simp
  | i :: is, clean => by
    have rest := adds.records k mem is fun j there => clean j (List.mem_cons_of_mem _ there)
    have first := clean _ List.mem_cons_self
    simp only [List.map_cons, List.sum_cons, rest]
    by_cases e : i.index = k
    · rw [foldRecord_same e] at first ⊢
      rw [(adds _ first).2 g mem, e, List.count_cons_self, Nat.add_mul]
      omega
    · rw [foldRecord_other e, List.count_cons_of_ne e]
      omega

theorem Adds.records_clean (adds : Adds f d) {k : Nat} {i : Item} (clean : (foldRecord f k i).acc.saturated = false) :
    i.acc.saturated = false := by
  by_cases e : i.index = k
  · rw [foldRecord_same e] at clean
    exact (adds _ clean).1
  · rwa [foldRecord_other e] at clean

end Sums

/-! ### The books -/

/-- What the laws of balance read of the Totals Unit. -/
def books (u : Tot) : Tot := { u with drained := 0, lastEntry := none, hold := none, holdSerial := 0 }

/-- What they read of an item record. -/
def entry (i : Item) : Nat × Acc := (i.number, i.acc)

theorem entries_map {f : Item → Item} (same : ∀ i, entry (f i) = entry i) (is : List Item) :
    (is.map f).map entry = is.map entry := by
  rw [List.map_map]
  exact List.map_congr_left fun i _ => same i

theorem entry_countRecord (g : Nat → Nat) (k : Nat) (i : Item) : entry (countRecord g k i) = entry i :=
  have ⟨core, _, acc⟩ := countRecord_core g k i
  Prod.ext (congrArg (·.1) core) acc

/-- An event that posts nothing. -/
structure SameBooks (s t : State) : Prop where
  tot : books t.tot = books s.tot
  items : t.itb.items.map entry = s.itb.items.map entry

theorem SameBooks.refl (s : State) : SameBooks s s := ⟨rfl, rfl⟩

theorem SameBooks.trans (a : SameBooks s t) (b : SameBooks t u) : SameBooks s u :=
  ⟨b.tot.trans a.tot, b.items.trans a.items⟩

theorem SameBooks.of_blocks (h : t.tot = s.tot ∧ t.itb.items.map entry = s.itb.items.map entry) : SameBooks s t :=
  ⟨by rw [h.1], h.2⟩

theorem SameBooks.ite {c : Prop} [Decidable c] (a : SameBooks s t) (b : SameBooks s u) :
    SameBooks s (if c then t else u) := by
  split
  · exact a
  · exact b

theorem books_fields {u v : Tot} (same : books u = books v) : u.day = v.day ∧ u.cursor = v.cursor ∧ u.grand = v.grand
    ∧ u.heads = v.heads ∧ u.operators = v.operators ∧ u.departments = v.departments := by
  simp only [books, Tot.mk.injEq] at same
  obtain ⟨grand, heads, operators, departments, day, cursor, -⟩ := same
  exact ⟨day, cursor, grand, heads, operators, departments⟩

/-- An accumulator outside the item table is read from its group. -/
theorem accAt_of_groups (same : t.tot.grand = s.tot.grand ∧ t.tot.heads = s.tot.heads
      ∧ t.tot.operators = s.tot.operators ∧ t.tot.departments = s.tot.departments) {k : AccKey}
    (group : groupOfKey k ≠ .item) : accAt k t = accAt k s := by
  obtain ⟨grand, heads, operators, departments⟩ := same
  cases k with
  | grand => exact grand
  | head h => exact congrArg (·.look h) heads
  | operator n => exact congrArg (·.look n) operators
  | department d => exact congrArg (·.look d) departments
  | item n => exact absurd rfl group

theorem balanceLaw_congr (same : books t.tot = books s.tot) (law : BalanceLaw s) : BalanceLaw t := by
  obtain ⟨day, cursor, grand, heads, operators, departments⟩ := books_fields same
  unfold BalanceLaw Unsaturated GroupsBalanced at law ⊢
  rw [day, cursor, grand, heads, operators, departments]
  split at law
  next closing =>
    rw [if_pos closing]
    exact fun k group upTo => (accAt_of_groups ⟨grand, heads, operators, departments⟩ group).trans (law k group upTo)
  next notClosing => rwa [if_neg notClosing]

theorem SameBooks.balanceLaw (same : SameBooks s t) : BalanceLaw s → BalanceLaw t := balanceLaw_congr same.tot

/-! ### The balance of the items (R156) -/

/-- Neither the grand accumulator nor an item accumulator has its saturated flag set. -/
def ItemsUnsaturated (s : State) : Prop :=
  s.tot.grand.saturated = false ∧ ∀ i ∈ s.itb.items, i.acc.saturated = false

/-- Each field of the grand accumulator is the sum of that field over the records (R156). -/
def ItemsBalanced (s : State) : Prop := ∀ f ∈ accFields, f s.tot.grand = (s.itb.items.map fun i => f i.acc).sum

theorem itemBalanceLaw_closing (closing : s.tot.day = .closing) : ItemBalanceLaw s
    ↔ ∀ e ∈ s.itb.items.map entry, drainRank (.item e.1) ≤ cursorRank s.tot.cursor → e.2 = emptyAcc := by
  rw [ItemBalanceLaw, if_pos closing, List.forall_mem_map]
  rfl

theorem itemBalanceLaw_posting (posting : s.tot.day ≠ .closing) :
    ItemBalanceLaw s ↔ (ItemsUnsaturated s → ItemsBalanced s) := by
  rw [ItemBalanceLaw, if_neg posting]
  exact and_imp.symm

theorem balanceLaw_posting (posting : s.tot.day ≠ .closing) :
    BalanceLaw s ↔ (Unsaturated s → GroupsBalanced s) := by
  rw [BalanceLaw, if_neg posting]

theorem itemsUnsaturated_iff : ItemsUnsaturated s
    ↔ s.tot.grand.saturated = false ∧ ∀ e ∈ s.itb.items.map entry, e.2.saturated = false := by
  rw [ItemsUnsaturated, List.forall_mem_map]
  rfl

theorem itemsBalanced_iff : ItemsBalanced s
    ↔ ∀ f ∈ accFields, f s.tot.grand = ((s.itb.items.map entry).map fun e => f e.2).sum := by
  simp only [ItemsBalanced, List.map_map, Function.comp_def, entry]

theorem SameBooks.itemBalanceLaw (same : SameBooks s t) (law : ItemBalanceLaw s) : ItemBalanceLaw t := by
  obtain ⟨day, cursor, grand, -⟩ := books_fields same.tot
  by_cases closing : s.tot.day = .closing
  · rw [itemBalanceLaw_closing (day.trans closing), same.items, cursor]
    exact (itemBalanceLaw_closing closing).1 law
  · rw [itemBalanceLaw_posting (by rwa [day]), itemsUnsaturated_iff, itemsBalanced_iff, same.items, grand]
    rwa [itemBalanceLaw_posting closing, itemsUnsaturated_iff, itemsBalanced_iff] at law

/-! ### What a posting keeps -/

/-- Where nothing is saturated at the end nothing was before, and a balance is kept. -/
def Carries (unsaturated balanced : State → Prop) (s t : State) : Prop :=
  unsaturated t → unsaturated s ∧ (balanced s → balanced t)

theorem Carries.trans {unsaturated balanced : State → Prop} (a : Carries unsaturated balanced s t)
    (b : Carries unsaturated balanced t u) : Carries unsaturated balanced s u := fun clean =>
  have ⟨middle, later⟩ := b clean
  have ⟨start, first⟩ := a middle
  ⟨start, fun balance => later (first balance)⟩

/-- Folds made for records at the indices `ks`: each group gains the same. -/
structure Posted (ks : List Nat) (s t : State) : Prop where
  day : t.tot.day = s.tot.day
  groups : Carries Unsaturated GroupsBalanced s t
  items : Places s → (∀ k ∈ ks, (itemAt k s).isSome) → Carries ItemsUnsaturated ItemsBalanced s t

theorem Posted.trans {xs ys : List Nat} (a : Posted xs s t) (places : Places s → Places t)
    (records : ∀ k, (itemAt k s).isSome → (itemAt k t).isSome) (b : Posted ys t u) : Posted (xs ++ ys) s u where
  day := b.day.trans a.day
  groups := a.groups.trans b.groups
  items pl stand := (a.items pl fun k mem => stand k (List.mem_append_left _ mem)).trans
    (b.items (places pl) fun k mem => records k (stand k (List.mem_append_right _ mem)))

theorem SameBooks.carries (same : SameBooks s t) :
    Carries Unsaturated GroupsBalanced s t ∧ Carries ItemsUnsaturated ItemsBalanced s t := by
  obtain ⟨-, -, grand, heads, operators, departments⟩ := books_fields same.tot
  refine ⟨fun clean => ?_, fun clean => ?_⟩
  · unfold Unsaturated GroupsBalanced at *
    rw [grand, heads, operators, departments] at *
    exact ⟨clean, id⟩
  · rw [itemsUnsaturated_iff, same.items, grand] at clean
    rw [itemsUnsaturated_iff, itemsBalanced_iff, itemsBalanced_iff, same.items, grand]
    exact ⟨clean, id⟩

theorem SameBooks.posted (same : SameBooks s t) (ks : List Nat) : Posted ks s t :=
  ⟨(books_fields same.tot).1, same.carries.1, fun _ _ => same.carries.2⟩

theorem Posted.then_same {ks : List Nat} (a : Posted ks s t) (same : SameBooks t u) : Posted ks s u :=
  ⟨(books_fields same.tot).1.trans a.day, a.groups.trans same.carries.1, fun pl stand => (a.items pl stand).trans same.carries.2⟩

/-! ### Folds and walks (R156, R117) -/

theorem posted_foldInto {f : Acc → Acc × Bool} {d : Acc} (adds : Adds f d) (k : FoldKeys) (s : State) :
    Posted [k.index] s (foldInto f k s) := by
  have tot := foldInto_tot f k s
  have items := items_foldInto f k s
  refine ⟨by rw [tot]; rfl, fun clean => ?_, fun places stand clean => ?_⟩
  · rw [Unsaturated, tot] at clean
    obtain ⟨grand, heads, operators, departments⟩ := clean
    obtain ⟨grandWas, grandGains⟩ := adds _ grand
    obtain ⟨headsWere, headsGain⟩ := adds.group heads
    obtain ⟨operatorsWere, operatorsGain⟩ := adds.group operators
    obtain ⟨departmentsWere, departmentsGain⟩ := adds.group departments
    refine ⟨⟨grandWas, headsWere, operatorsWere, departmentsWere⟩, fun balance g mem => ?_⟩
    obtain ⟨byHead, byOperator, byDepartment⟩ := balance g mem
    rw [tot]
    simp only [foldedTot]
    rw [grandGains g mem, headsGain g mem, operatorsGain g mem, departmentsGain g mem, ← byHead, ← byOperator,
      ← byDepartment]
    exact ⟨rfl, rfl, rfl⟩
  · rw [ItemsUnsaturated, tot, items] at clean
    obtain ⟨grand, records⟩ := clean
    obtain ⟨grandWas, grandGains⟩ := adds _ grand
    refine ⟨⟨grandWas, fun i mem => adds.records_clean (records _ (List.mem_map_of_mem mem))⟩, fun balance g mem => ?_⟩
    obtain ⟨i, found⟩ := Option.isSome_iff_exists.1 (stand k.index List.mem_cons_self)
    obtain ⟨there, index⟩ := itemAt_found found
    have once : (s.itb.items.map (·.index)).count k.index = 1 :=
      List.count_eq_one_of_mem places.1 (List.mem_map.2 ⟨i, there, index⟩)
    rw [tot, items, adds.records k.index mem _ records, once, Nat.one_mul, ← balance g mem]
    exact grandGains g mem

/-- A reference to a record with a non-empty accumulator released: nothing is posted. -/
theorem sameBooks_releaseRef {k : Nat} (kept : ∀ i ∈ s.itb.items, i.index = k → i.acc ≠ emptyAcc) :
    SameBooks s (releaseRef k s) := by
  rw [releaseRef_of_acc kept]
  exact ⟨rfl, entries_map (entry_countRecord (· - 1) k) _⟩

/-- One line folded and its reference released (R117). -/
theorem posted_line {f : Line → Acc → Acc × Bool} {d : Line → Acc} (counts : ∀ l a, (f l a).1 ≠ emptyAcc)
    (adds : ∀ l, Adds (f l) (d l)) (l : Line) (s : State) :
    Posted [l.index] s (releaseRef l.index (lineFold f l s)) :=
  (posted_foldInto (adds l) (lineKeys l) s).then_same (sameBooks_releaseRef (acc_foldInto (counts l) (lineKeys l)))

theorem posted_walkLines {f : Line → Acc → Acc × Bool} {d : Line → Acc} (counts : ∀ l a, (f l a).1 ≠ emptyAcc)
    (adds : ∀ l, Adds (f l) (d l)) :
    ∀ (ls : List Line) (s : State), Posted (ls.map (·.index)) s (walkLines (lineFold f) ls s)
  | [], s => (SameBooks.refl s).posted []
  | l :: ls, s =>
    have walked := walked_line counts l s
    (posted_line counts adds l s).trans walked.places (fun k => by rw [walked.records]; exact id)
      (posted_walkLines counts adds ls _)

theorem posted_walkSale (ls : List Line) (s : State) :
    Posted (ls.map (·.index)) s (walkLines foldLineSale ls s) :=
  posted_walkLines (f := fun l => foldSale l.mode l.quantity l.amount) (fun _ => foldSale_nonempty _ _ _)
    (fun _ => adds_foldSale _ _ _) ls s

theorem posted_walkVoid (ls : List Line) (s : State) :
    Posted (ls.map (·.index)) s (walkLines foldLineVoid ls s) :=
  posted_walkLines (f := fun l => foldVoid l.amount) (fun _ => foldVoid_nonempty _) (fun _ => adds_foldVoid _) ls s

end Sys2Proof.Machine
end

section
/-! SUPPORT. Events that post nothing: a reference counted, a record's other fields changed, and whatever comes of them. -/

namespace Sys2Proof.Machine

variable {s : State}

/-! ### Records changed beside their accumulators -/

@[simp] theorem entries_addRef (k : Nat) : (addRef k s).itb.items.map entry = s.itb.items.map entry :=
  entries_map (entry_countRecord (· + 1) k) _

theorem entries_onItemNumber (n : Nat) {f : Item → Item} (same : ∀ i, entry (f i) = entry i) :
    (onItemNumber n f s).itb.items.map entry = s.itb.items.map entry :=
  entries_map (fun i => atNumber_ind (p := fun x => entry x = entry i) (fun _ => same i) rfl) _

/-! ### Captures (R44 to R48) -/

@[simp] theorem entries_completeLine (k : Capture) (id : TicketId) :
    (completeLine k id s).itb.items.map entry = s.itb.items.map entry := by
  unfold completeLine appendLine
  dsimp only
  split <;> simp

@[simp] theorem entries_finish (k : Capture) (q : Request) :
    (finish k q s).itb.items.map entry = s.itb.items.map entry := by
  unfold finish
  dsimp only
  (repeat' split) <;> simp

@[simp] theorem entries_complete (h : Head) (q : Request) (i : Item) :
    (complete h q i s).itb.items.map entry = s.itb.items.map entry := by
  unfold complete
  dsimp only
  (repeat' split) <;> simp

@[simp] theorem entries_examine (h : Head) : (examine h s).itb.items.map entry = s.itb.items.map entry := by
  unfold examine
  (repeat' split) <;> simp

@[simp] theorem entries_makeRequest (h : Head) (i : Item) (q : Request) :
    (makeRequest h i q s).itb.items.map entry = s.itb.items.map entry := by simp [makeRequest]

@[simp] theorem entries_askItem (h : Head) (n : Nat) : (askItem h n s).itb.items.map entry = s.itb.items.map entry := by
  unfold askItem
  split <;> simp

@[simp] theorem entries_labelKey (h : Head) : (labelKey h s).itb.items.map entry = s.itb.items.map entry := by
  unfold labelKey labelPrepack
  (repeat' split) <;> simp

/-! ### Channel results and losses (R7, R9 to R22, R184) -/

@[simp] theorem entries_handResult (h : Head) (r : ChanResult) (fault newOver : Bool) :
    (handResult h r fault newOver s).itb.items.map entry = s.itb.items.map entry := by
  unfold handResult
  dsimp only
  (repeat' split) <;> simp

@[simp] theorem entries_takeSample (h : Head) (raw : Int) :
    (takeSample h raw s).itb.items.map entry = s.itb.items.map entry := by
  unfold takeSample
  dsimp only
  (repeat' split) <;> simp

@[simp] theorem entries_restart (h : Head) : (restart h s).itb.items.map entry = s.itb.items.map entry := by
  unfold restart
  dsimp only
  split <;> simp

@[simp] theorem entries_goIdle (h : Head) : (goIdle h s).itb.items.map entry = s.itb.items.map entry := by simp [goIdle]

@[simp] theorem entries_takeHanded (h : Head) (p : Int → Bool) :
    (takeHanded h p s).itb.items.map entry = s.itb.items.map entry := by
  unfold takeHanded
  (repeat' split) <;> simp

@[simp] theorem tot_takeHanded (h : Head) (p : Int → Bool) : (takeHanded h p s).tot = s.tot := by
  unfold takeHanded
  (repeat' split) <;> simp

@[simp] theorem entries_takeAck (h : Head) (a : Ack) : (takeAck h a s).itb.items.map entry = s.itb.items.map entry := by
  unfold takeAck
  dsimp only
  (repeat' split) <;> simp

@[simp] theorem entries_loseSlot (q : Presence) (i : Slot) :
    (loseSlot q i s).itb.items.map entry = s.itb.items.map entry := by
  unfold loseSlot ownersLose
  split <;> simp

@[simp] theorem entries_takeJoin (i : Slot) : (takeJoin i s).itb.items.map entry = s.itb.items.map entry := by
  unfold takeJoin joinSlot ownersJoin
  (repeat' split) <;> simp

@[simp] theorem entries_takeMiss (i : Slot) : (takeMiss i s).itb.items.map entry = s.itb.items.map entry := by
  unfold takeMiss
  (repeat' split) <;> simp

/-! ### Frame start (R174) -/

@[simp] theorem entries_maskSlot (m : Table Bool 11) (i : Slot) :
    (maskSlot m i s).itb.items.map entry = s.itb.items.map entry := by
  unfold maskSlot
  (repeat' split) <;> simp

@[simp] theorem entries_applyMask : (applyMask s).itb.items.map entry = s.itb.items.map entry := by
  unfold applyMask
  split
  · rfl
  next m _ =>
    have masked := eachSlotDown_keeps (fun u => u.itb.items.map entry) (f := maskSlot m) (fun _ _ => by simp) s
    dsimp only
    exact masked

@[simp] theorem entries_restartSlot (i : Slot) : (restartSlot i s).itb.items.map entry = s.itb.items.map entry := by
  unfold restartSlot
  split <;> simp

@[simp] theorem entries_applyRestart : (applyRestart s).itb.items.map entry = s.itb.items.map entry := by
  have restarted := eachSlotDown_keeps (fun u => u.itb.items.map entry) (f := restartSlot) (fun _ _ => by simp) s
  unfold applyRestart
  split
  · dsimp only
    exact restarted
  · rfl

@[simp] theorem entries_frameStart : (frameStart s).itb.items.map entry = s.itb.items.map entry := by
  have waits (u : State) : (eachSlot joinWait u).itb = u.itb := eachSlot_keeps (·.itb) (fun _ _ => by simp) u
  simp [frameStart, waits]

/-! ### Commands that change no accumulator (R3, R4, R62 to R70) -/

theorem sameBooks_channelEffects (h : Head) (old new : HeadSettings) : SameBooks s (channelEffects h old new s) := by
  have chan (f : Channel → Channel) (u : State) : SameBooks u (onChan h f u) := .of_blocks ⟨rfl, rfl⟩
  have calibrated (u : State) : SameBooks u (if calibrationChanged old new then
      onChan h (fun c => { c with manual := none, zero := new.z0 }) u else u) := .ite (chan _ u) (.refl u)
  have tare (u : State) : SameBooks u (if old.scale != new.scale then onChan h (fun c => { c with manual := none }) u
      else u) := .ite (chan _ u) (.refl u)
  have restarted (u : State) : SameBooks u (restart h u) := .of_blocks (by simp)
  exact .ite (.of_blocks (by simp)) (((calibrated s).trans (tare _)).trans
    ((SameBooks.ite (restarted _) (.refl _)).trans (.ite (chan _ _) (.refl _))))

theorem sameBooks_configureHead (f : RawHead) : SameBooks s (configureHead f s).state := by
  rw [configureHead_eq]
  split
  · exact .refl s
  next h new _ =>
    have stored : SameBooks s (storeSettings h new s) := .of_blocks ⟨rfl, rfl⟩
    have roled (u : State) : SameBooks u (changeRole h u) := .of_blocks (by simp)
    split
    · exact .refl s
    · exact (stored.trans (.ite (roled _) (.refl _))).trans
        ((sameBooks_channelEffects ..).trans (.ite (.of_blocks ⟨rfl, rfl⟩) (.refl _)))

@[simp] theorem entries_configurePair (f : RawPair) :
    (configurePair f s).state.itb.items.map entry = s.itb.items.map entry := by
  unfold configurePair
  dsimp only [done, refuse]
  (repeat' split) <;> simp

@[simp] theorem entries_updateItem (f : RawItem) :
    (updateItem f s).state.itb.items.map entry = s.itb.items.map entry := by
  have changed (g : ItemFields) : (onItemNumber g.number (updated g) s).itb.items.map entry
      = s.itb.items.map entry := entries_onItemNumber _ fun _ => rfl
  unfold updateItem
  dsimp only [done, refuse]
  (repeat' split) <;> simp [changed]

theorem entries_named {n : Nat} {ok : Bool} {f : Item → State → Answer}
    (same : ∀ i, (f i s).state.itb.items.map entry = s.itb.items.map entry) :
    (named n ok f s).state.itb.items.map entry = s.itb.items.map entry := by
  unfold named
  split
  · rfl
  · split
    · rfl
    · exact same _

@[simp] theorem entries_stagePrice (n p : Nat) :
    (stagePrice n p s).state.itb.items.map entry = s.itb.items.map entry :=
  entries_named fun i => by
    split
    · rfl
    · exact entries_onItemNumber n fun _ => rfl

@[simp] theorem entries_unstagePrice (n : Nat) :
    (unstagePrice n s).state.itb.items.map entry = s.itb.items.map entry :=
  entries_named fun _ => entries_onItemNumber n fun _ => rfl

@[simp] theorem entries_reinstateItem (n : Nat) :
    (reinstateItem n s).state.itb.items.map entry = s.itb.items.map entry :=
  entries_named fun i => by
    split
    · rfl
    · simp only [done, staleCopies_frame]
      exact entries_onItemNumber n fun _ => rfl

@[simp] theorem entries_commitPrices : (commitPrices s).state.itb.items.map entry = s.itb.items.map entry := by
  have committed (i : Item) : entry (commitItem i) = entry i := by
    obtain ⟨number, -, -, acc, -⟩ := commitItem_fields i
    rw [entry, number, acc]
    rfl
  simp only [commitPrices, done, examineWatch_frame, setWatch_itb, staleCopies_frame]
  exact entries_map committed _

end Sys2Proof.Machine
end

section
/-! SUPPORT. What an event keeps of the balance (R156), and the events that fold: lines voided, tickets voided and closed,
PREPACK jobs counted. -/

namespace Sys2Proof.Machine

variable {s t u : State}

/-! ### What an event keeps of the balance -/

/-- What an event keeps of the two laws of balance, from the laws that stand before it. -/
structure Audited (s t : State) : Prop where
  groups : HolderLaw s → QuietLaw s → BalanceLaw s → BalanceLaw t
  items : Directory s → Places s → HolderLaw s → QuietLaw s → RefsLaw s → PacksLaw s → BalanceLaw s →
    ItemBalanceLaw s → ItemBalanceLaw t

theorem SameBooks.audited (same : SameBooks s t) : Audited s t :=
  ⟨fun _ _ => same.balanceLaw, fun _ _ _ _ _ _ _ => same.itemBalanceLaw⟩

theorem Audited.refl (s : State) : Audited s s := (SameBooks.refl s).audited

theorem Audited.ite {c : Prop} [Decidable c] (a : Audited s t) (b : Audited s u) : Audited s (if c then t else u) := by
  split
  · exact a
  · exact b

theorem Audited.then_same (a : Audited s t) (same : SameBooks t u) : Audited s u :=
  ⟨fun holders quiet law => same.balanceLaw (a.groups holders quiet law),
    fun dir places holders quiet refs packs law items =>
      same.itemBalanceLaw (a.items dir places holders quiet refs packs law items)⟩

/-- An event that posts nothing and keeps the laws that an audit of the next one needs. -/
structure Unposted (s t : State) : Prop extends SameBooks s t where
  orderly : Orderly s t
  tended : Tended s t

theorem Unposted.trans (a : Unposted s t) (b : Unposted t u) : Unposted s u :=
  ⟨a.toSameBooks.trans b.toSameBooks, a.orderly.trans b.orderly, a.tended.trans b.tended⟩

theorem Unposted.audited_then (a : Unposted s t) (b : Audited t u) : Audited s u :=
  ⟨fun holders quiet law => b.groups (a.orderly.holders holders) (a.orderly.quiet holders quiet) (a.balanceLaw law),
    fun dir places holders quiet refs packs law items =>
      b.items (a.tended.directory dir) (a.tended.places places) (a.orderly.holders holders) (a.orderly.quiet holders quiet)
        (a.tended.refs holders refs) (a.tended.packs packs) (a.balanceLaw law) (a.itemBalanceLaw items)⟩

theorem unposted_onPrinter (p : Printer) (f : PrinterCtx → PrinterCtx) : Unposted s (onPrinter p f s) :=
  ⟨.of_blocks ⟨rfl, rfl⟩, (calm_onPrinter p f).orderly, tended_onPrinter p f⟩

theorem unposted_onSlot (i : Slot) (f : SlotLink → SlotLink) : Unposted s (onSlot i f s) :=
  ⟨.of_blocks ⟨rfl, rfl⟩, (calm_onSlot i f).orderly, tended_onSlot i f⟩

theorem unposted_onInbox (h : Head) (f : Inbox → Inbox) : Unposted s (onInbox h f s) :=
  ⟨.of_blocks ⟨rfl, rfl⟩, (calm_onInbox h f).orderly, tended_onInbox h f⟩

/-- In DAY_OPEN folds keep the balance, where the records that they name stand. -/
theorem Posted.audited {ks : List Nat} (a : Posted ks s t) (opened : HolderLaw s → QuietLaw s → s.tot.day = .opened)
    (records : HolderLaw s → RefsLaw s → PacksLaw s → ∀ k ∈ ks, (itemAt k s).isSome) : Audited s t := by
  have posting (day : s.tot.day = .opened) : s.tot.day ≠ .closing ∧ t.tot.day ≠ .closing := by
    rw [a.day, day]
    exact ⟨nofun, nofun⟩
  refine ⟨fun holders quiet law => ?_, fun _ places holders quiet refs packs _ law => ?_⟩
  · obtain ⟨before, after⟩ := posting (opened holders quiet)
    rw [balanceLaw_posting before] at law
    refine (balanceLaw_posting after).2 fun clean => ?_
    obtain ⟨was, kept⟩ := a.groups clean
    exact kept (law was)
  · obtain ⟨before, after⟩ := posting (opened holders quiet)
    rw [itemBalanceLaw_posting before] at law
    refine (itemBalanceLaw_posting after).2 fun clean => ?_
    obtain ⟨was, kept⟩ := a.items places (records holders refs packs) clean
    exact kept (law was)

/-- A posting reads the totals and the items alone. -/
theorem Posted.of_blocks {ks : List Nat} (a : Posted ks u t) (blocks : u.tot = s.tot ∧ u.itb = s.itb) : Posted ks s t := by
  obtain ⟨tot, itb⟩ := blocks
  obtain ⟨day, groups, items⟩ := a
  unfold Carries Unsaturated GroupsBalanced at groups
  unfold Carries ItemsUnsaturated ItemsBalanced Places itemAt at items
  rw [tot] at day groups items
  rw [itb] at items
  exact ⟨day, groups, items⟩

/-! ### Work in DAY_OPEN, and the records that it names -/

theorem QuietLaw.opened_of_ticket (quiet : QuietLaw s) {x : TicketSlot} (opened : openTicket (ticket x s) = true) :
    s.tot.day = .opened := by
  by_contra closed
  have none := (quiet closed).1 x
  rw [opened] at none
  cases none

theorem QuietLaw.opened_of_pack (quiet : QuietLaw s) {p : Printer} {j : Job} (mem : j ∈ queue p s)
    (pack : unfoldedPack j = true) : s.tot.day = .opened := by
  by_contra closed
  have none := (quietLaw_iff.1 quiet closed).2.1 p j mem
  rw [pack] at none
  cases none

/-- A line of an open ticket names a record: it is one of the references that the record counts (R71). -/
theorem RefsLaw.record (law : RefsLaw s) {x : TicketSlot} (opened : openTicket (ticket x s) = true) {l : Line}
    (mem : l ∈ (ticket x s).lines) : (itemAt l.index s).isSome := by
  have counted : 0 < lineCount l.index (ticket x s) := by
    rw [lineCount_open opened]
    exact List.countP_pos_iff.2 ⟨l, mem, by simp⟩
  have within : lineCount l.index (ticket x s) ≤ openLines l.index s := by
    rw [openLines_eq_sum]
    exact Finset.single_le_sum (f := fun y => lineCount l.index (ticket y s)) (fun _ _ => Nat.zero_le _) (Finset.mem_univ x)
  by_contra missing
  have none := refsLaw_iff.1 law l.index
  rw [refsAt, Option.not_isSome_iff_eq_none.1 missing, Option.map_none, Option.getD_none] at none
  omega

/-- Folds of lines of an open ticket. -/
theorem Posted.audited_lines {x : TicketSlot} {ls : List Line} (a : Posted (ls.map (·.index)) s t)
    (opened : HolderLaw s → openTicket (ticket x s) = true) (lines : ∀ l ∈ ls, l ∈ (ticket x s).lines) : Audited s t :=
  a.audited (fun holders quiet => quiet.opened_of_ticket (opened holders)) fun holders refs _ k mem => by
    obtain ⟨l, there, rfl⟩ := List.mem_map.1 mem
    exact refs.record (opened holders) (lines l there)

/-! ### Tickets (R109, R117 to R119, R122) -/

theorem audited_voidNewest {x : TicketSlot} (opened : HolderLaw s → openTicket (ticket x s) = true) :
    Audited s (voidNewest x s) := by
  cases newest : (ticket x s).lines.getLast? with
  | none =>
    rw [voidNewest, newest]
    exact .refl s
  | some l =>
    rw [voidNewest_some newest]
    have folded : Posted ([l].map (·.index)) s (foldLineVoid l s) := posted_foldInto (adds_foldVoid l.amount) (lineKeys l) s
    have dropped : SameBooks (foldLineVoid l s) (onTicket x (lineDropped l) (foldLineVoid l s)) := .of_blocks ⟨rfl, rfl⟩
    have released := sameBooks_releaseRef (s := onTicket x (lineDropped l) (foldLineVoid l s))
      (acc_foldInto (foldVoid_nonempty l.amount) (lineKeys l))
    exact ((folded.then_same dropped).then_same released).audited_lines opened
      (by simpa using List.mem_of_mem_getLast? newest)

theorem audited_voidLast {h : Head} {id : TicketId} (held : (ctx h s).held = some id) : Audited s (voidLast h id s) := by
  have voided := audited_voidNewest (s := s) (x := id.slot) fun law => openTicket_of_held (law.holder held).2.2
  have message (code : Code) : SameBooks s (setMessage h code s) := .of_blocks (by simp)
  unfold voidLast
  split
  · exact (message _).audited
  · exact .ite (voided.then_same (.of_blocks (by simp))) (message _).audited

theorem posted_voidRecord (x : TicketSlot) (s : State) :
    Posted ((ticket x s).lines.map (·.index)) s (voidRecord x s) := by
  have walked := posted_walkVoid (ticket x s).lines (onTicket x (fun k => { k with holder := none }) s)
  have freed (u : State) : SameBooks u (freeRecord x u) := .of_blocks (by simp)
  exact (walked.of_blocks (s := s) ⟨rfl, rfl⟩).then_same (freed _)

theorem posted_closeRecord (x : TicketSlot) (h : Head) (p : Printer) (s : State) :
    Posted ((ticket x s).lines.map (·.index)) s (closeRecord x h p s) := by
  have walked := posted_walkSale (ticket x s).lines (closingRecord x s)
  have queued (f : Ticket → Ticket) (l : SummaryLabel) (u : State) :
      SameBooks u (onTicket x f (queueJob p (some h) 1 (.summary l) u)) := .of_blocks (by simp)
  exact (walked.of_blocks (s := s) ⟨rfl, rfl⟩).then_same (queued _ _ _)

theorem sameBooks_leaveTicket (h : Head) (id : TicketId) : SameBooks s (leaveTicket h id s) := .of_blocks (by simp)

theorem audited_void {h : Head} {id : TicketId} (held : (ctx h s).held = some id) :
    Audited s (leaveTicket h id (voidRecord id.slot s)) :=
  ((posted_voidRecord id.slot s).audited_lines (fun law => openTicket_of_held (law.holder held).2.2)
    fun _ mem => mem).then_same (sameBooks_leaveTicket ..)

theorem audited_totalTicket {h : Head} {id : TicketId} (held : (ctx h s).held = some id) :
    Audited s (totalTicket h id s) := by
  have closed (p : Printer) : Audited s (leaveTicket h id (closeRecord id.slot h p s)) :=
    ((posted_closeRecord id.slot h p s).audited_lines (fun law => openTicket_of_held (law.holder held).2.2)
      fun _ mem => mem).then_same (sameBooks_leaveTicket ..)
  have message (code : Code) (u : State) : SameBooks u (setMessage h code u) := .of_blocks (by simp)
  exact .ite (message _ s).audited (.ite (message _ s).audited (.ite ((closed _).then_same (message _ _)) (closed _)))

theorem audited_voidTicketCommand (slot serial : Nat) : Audited s (voidTicketCommand slot serial s).state := by
  unfold voidTicketCommand onNamed
  split
  · exact .refl s
  next x _ =>
    split
    · exact .refl s
    split
    · exact .refl s
    dsimp only
    split
    next opened =>
      have left : ticket x (releaseHolder x s) = ticket x s := by simp [ticket]
      have voided := posted_voidRecord x (releaseHolder x s)
      rw [left] at voided
      exact (voided.of_blocks (by simp)).audited_lines (fun _ => opened) fun _ mem => mem
    · exact .refl s

/-! ### PREPACK jobs (R141, R142) -/

theorem audited_foldPack {p : Printer} {j : Job} (mem : j ∈ queue p s) : Audited s (foldPack p j s) := by
  unfold foldPack
  split
  next l f content =>
    split
    · exact .refl s
    next waits =>
      have waits : j.folded = false := by simpa using waits
      refine Posted.audited (ks := [f.index]) ?_
        (fun _ quiet => quiet.opened_of_pack mem (by simp [unfoldedPack, kindOf, content, waits])) fun _ _ packs k at_f => ?_
      · exact (posted_foldInto (adds_foldSale _ _ _) ⟨_, _, _, f.index⟩ _).of_blocks ⟨rfl, rfl⟩
      · rw [List.mem_singleton.1 at_f]
        exact packs p j mem l f content waits
  · exact .refl s

theorem audited_countCopies (p : Printer) (n : Nat) : Audited s (countCopies p n s) := by
  unfold countCopies
  dsimp only
  split
  · exact .refl s
  next j rest jobs =>
    have counted : Audited s (onPrinter p (fun c => { c with printed := n }) (foldPack p j s)) :=
      (audited_foldPack (by rw [jobs]; exact List.mem_cons_self)).then_same (.of_blocks ⟨rfl, rfl⟩)
    exact .ite (.ite (counted.then_same (.of_blocks (by simp))) (counted.then_same (.of_blocks ⟨rfl, rfl⟩))) (.refl s)

theorem audited_takePrinterReport (p : Printer) (r : PrinterReport) : Audited s (takePrinterReport p r s) := by
  have judged (u : State) : SameBooks u (reloadPrinter p (stopOrRecover p r.condition u)) := .of_blocks (by simp)
  exact .ite (.refl s) ((unposted_onPrinter p _).audited_then ((audited_countCopies p _).then_same (judged _)))

theorem audited_printerOnline (p : Printer) (r : PrinterReport) : Audited s (printerOnline p r s) := by
  have started (u : State) : SameBooks u (startIfIdle p u) := .of_blocks (by simp)
  exact (unposted_onPrinter p _).audited_then ((audited_takePrinterReport p r).then_same (started _))

theorem audited_handOn (i : Slot) (first : Bool) (m : Upstream) : Audited s (handOn i first m s) := by
  unfold handOn
  split
  next h _ =>
    have online : SameBooks s (if first then channelOnline h s else s) := .ite (.of_blocks (by simp)) (.refl s)
    exact (online.trans (.of_blocks (by simp))).audited
  · exact .ite (audited_printerOnline ..) (audited_takePrinterReport ..)
  · exact (SameBooks.of_blocks (by simp)).audited
  · exact .refl s

theorem audited_upstreamPart (i : Slot) (part : Option (List Byte)) : Audited s (upstreamPart i part s) := by
  have reported (m : Upstream) : Audited s (takeReport i m s) := by
    have online (first : Bool) : Audited s (handOn i first m (setPresence i .online s)) :=
      (unposted_onSlot i _).audited_then (audited_handOn ..)
    unfold takeReport
    split
    · exact .refl s
    · exact .refl s
    all_goals exact online _
  have rejected : Audited s (rejectPart i s) := (SameBooks.of_blocks (by simp [rejectPart])).audited
  refine .ite (.refl s) ?_
  split
  · exact (SameBooks.of_blocks (by simp)).audited
  · exact rejected
  · exact rejected
  next m _ =>
    cases m with
    | join k => exact .ite (SameBooks.of_blocks (by simp)).audited rejected
    | head | printer | dispenser => exact reported _

/-! ### Keys (R33) -/

theorem audited_takeKey {k : KeyKind} {h : Head} {act : Nat → State → State} (ha : ∀ n u, Audited u (act n u)) :
    Audited s (takeKey k h act s) := by
  have before (u : State) : Unposted u (keyAtTicket h (clearMessage h u)) := by
    have cleared : Unposted u (clearMessage h u) := ⟨.of_blocks (by simp),
      (calm_onCtx h (fun c => { c with message := none }) rfl id).orderly, tended_onCtx h _ rfl⟩
    refine cleared.trans ⟨.of_blocks (by simp), ?_, ?_⟩
    all_goals unfold keyAtTicket; split
    · exact (calm_onTicket _ _ rfl).orderly
    · exact .refl _
    · exact tended_onTicket _ _ rfl rfl
    · exact .refl _
  have passed (n : Nat) (u : State) : Audited u (gate k h (act n) u) := by
    have message (v : State) : SameBooks v (setMessage h .noOperator v) := .of_blocks (by simp)
    exact .ite (.refl u) ((before u).audited_then (.ite (message _).audited (.ite (ha n _) (.refl _))))
  unfold takeKey
  split
  · exact .refl s
  · exact .ite ((unposted_onInbox h _).audited_then (passed ..)) (.refl s)

theorem audited_withTicket {h : Head} {f : TicketId → State → State}
    (hf : ∀ id, (ctx h s).held = some id → Audited s (f id s)) : Audited s (withTicket h f s) := by
  unfold withTicket
  split
  · exact (SameBooks.of_blocks (by simp)).audited
  next id held => exact hf id held

end Sys2Proof.Machine
end

section
/-! SUPPORT. Purges, the turn of the day and the drain (R72, R160 to R169): the books that they leave. -/

namespace Sys2Proof.Machine

variable {s t u : State}

/-! ### Purges (R72, R73) -/

/-- An event that takes records with an empty accumulator out of the table, and posts nothing. -/
structure Purged (s t : State) : Prop where
  tot : t.tot = s.tot
  items : ∃ p, t.itb.items.map entry = (s.itb.items.map entry).filter p
    ∧ (Directory s → ∀ e ∈ s.itb.items.map entry, p e = false → e.2 = emptyAcc)

theorem field_emptyAcc {f : Acc → Nat} (mem : f ∈ accFields) : f emptyAcc = 0 := by
  simp only [accFields, List.mem_cons, List.not_mem_nil, or_false] at mem
  rcases mem with rfl | rfl | rfl | rfl | rfl | rfl <;> rfl

/-- What is left out of a sum adds nothing to it. -/
theorem sum_map_filter {α : Type} {f : α → Nat} {p : α → Bool} {xs : List α}
    (nothing : ∀ x ∈ xs, p x = false → f x = 0) : ((xs.filter p).map f).sum = (xs.map f).sum := by
  induction xs with
  | nil => rfl
  | cons x xs ih =>
    have rest := ih fun y mem => nothing y (List.mem_cons_of_mem _ mem)
    cases left : p x with
    | true => rw [List.filter_cons_of_pos left, List.map_cons, List.map_cons, List.sum_cons, List.sum_cons, rest]
    | false =>
      rw [List.filter_cons_of_neg (by simp [left]), List.map_cons, List.sum_cons, rest,
        nothing x List.mem_cons_self left, Nat.zero_add]

theorem Purged.itemBalanceLaw (a : Purged s t) (dir : Directory s) (law : ItemBalanceLaw s) : ItemBalanceLaw t := by
  obtain ⟨tot, p, items, empty⟩ := a
  have empty := empty dir
  by_cases closing : s.tot.day = .closing
  · rw [itemBalanceLaw_closing closing] at law
    rw [itemBalanceLaw_closing (by rwa [tot]), items, tot]
    exact fun e mem => law e (List.mem_of_mem_filter mem)
  · rw [itemBalanceLaw_posting closing, itemsUnsaturated_iff, itemsBalanced_iff] at law
    rw [itemBalanceLaw_posting (by rwa [tot]), itemsUnsaturated_iff, itemsBalanced_iff, items, tot]
    rintro ⟨grand, left⟩ f mem
    refine (law ⟨grand, fun e there => ?_⟩ f mem).trans (sum_map_filter fun e there gone => ?_).symm
    · cases stays : p e with
      | true => exact left e (List.mem_filter.2 ⟨there, stays⟩)
      | false => rw [empty e there stays]; rfl
    · rw [empty e there gone, field_emptyAcc mem]

theorem Purged.audited (a : Purged s t) : Audited s t :=
  ⟨fun _ _ => balanceLaw_congr (by rw [a.tot]), fun dir _ _ _ _ _ _ => a.itemBalanceLaw dir⟩

theorem purged_purgeCheck (k : Nat) (s : State) : Purged s (purgeCheck k s) := by
  have stays : Purged s s := ⟨rfl, fun _ => true, by simp, fun _ _ _ => nofun⟩
  refine purgeCheck_ind (p := Purged s) (fun _ => stays) (fun _ _ _ => stays) fun i found goes => ⟨by simp, ?_⟩
  obtain ⟨mem, -⟩ := itemAt_found found
  obtain ⟨-, -, acc⟩ := purgeable_iff.1 goes
  refine ⟨fun e => e.1 != i.number, ?_, fun dir e there gone => ?_⟩
  · rw [items_purge, List.filter_map]
    rfl
  · obtain ⟨j, record, rfl⟩ := List.mem_map.1 there
    have same : j = i := List.inj_on_of_nodup_map dir.nodup record mem (by simpa [entry] using gone)
    rw [same]
    exact acc


theorem directory_iff : Directory s ↔ (s.itb.items.map entry).Pairwise fun a b => a.1 < b.1 := by
  rw [Directory, List.pairwise_map]
  rfl

/-- A withdrawal posts nothing and may end in a purge (R69). -/
theorem audited_withdrawItem (n : Nat) : Audited s (withdrawItem n s).state := by
  unfold withdrawItem named
  split
  · exact .refl s
  split
  · exact .refl s
  next i _ =>
    dsimp only
    split
    · exact .refl s
    have marked : SameBooks s (withdrawCopies n (onItemNumber n withdrawn s)) :=
      .of_blocks ⟨by simp, by simpa using entries_onItemNumber n (f := withdrawn) fun _ => rfl⟩
    obtain ⟨tot, p, items, empty⟩ := purged_purgeCheck i.index (withdrawCopies n (onItemNumber n withdrawn s))
    rw [directory_iff, marked.items, ← directory_iff] at empty
    rw [marked.items] at items
    exact Purged.audited ⟨tot.trans (by simp), p, items, empty⟩

/-! ### The drain order (R167) -/

/-- The first element that a search finds in an ordered list stands before the others that it would find. -/
theorem find?_first {α : Type} {R : α → α → Prop} {p : α → Bool} {xs : List α} {x : α} (ordered : xs.Pairwise R)
    (found : xs.find? p = some x) {y : α} (mem : y ∈ xs) (meets : p y = true) : y = x ∨ R x y := by
  obtain ⟨-, before, after, rfl, none⟩ := List.find?_eq_some_iff_append.1 found
  rcases List.mem_append.1 mem with early | late
  · have fails := none y early
    rw [meets] at fails
    cases fails
  · rcases List.mem_cons.1 late with rfl | later
    · exact .inl rfl
    · exact .inr (List.rel_of_pairwise_cons (List.pairwise_append.1 ordered).2.1 later)

/-- The drain takes the accumulators in ascending rank, the items among them where the directory ascends. -/
theorem drainKeys_ordered (s : State) :
    (drainKeys s).Pairwise fun a b => (groupOfKey b = .item → Directory s) → drainRank a < drainRank b := by
  have allHeads_eq : allHeads = List.finRange 8 := by decide
  have head {a : AccKey} (mem : a ∈ (List.finRange 8).map AccKey.head) : 1 < drainRank a ∧ drainRank a < 10 := by
    obtain ⟨h, -, rfl⟩ := List.mem_map.1 mem
    simp only [drainRank]
    omega
  have operator {a : AccKey} (mem : a ∈ (List.finRange 32).map AccKey.operator) : 9 < drainRank a ∧ drainRank a < 42 := by
    obtain ⟨n, -, rfl⟩ := List.mem_map.1 mem
    simp only [drainRank]
    omega
  have department {a : AccKey} (mem : a ∈ (List.finRange 16).map AccKey.department) :
      41 < drainRank a ∧ drainRank a < 58 := by
    obtain ⟨d, -, rfl⟩ := List.mem_map.1 mem
    simp only [drainRank]
    omega
  have item {a : AccKey} (mem : a ∈ s.itb.items.map fun i => AccKey.item i.number) : 57 < drainRank a := by
    obtain ⟨i, -, rfl⟩ := List.mem_map.1 mem
    simp only [drainRank]
    omega
  have items : (s.itb.items.map fun i => AccKey.item i.number).Pairwise
      fun a b => (groupOfKey b = .item → Directory s) → drainRank a < drainRank b := by
    rw [List.pairwise_map]
    by_cases dir : Directory s
    · exact List.Pairwise.imp (fun {i j} lt _ => show 58 + i.number < 58 + j.number from Nat.add_lt_add_left lt 58) dir
    · exact List.pairwise_of_forall fun _ _ there => absurd (there rfl) dir
  have block {n base : Nat} {key : Fin n → AccKey} (rank : ∀ i, drainRank (key i) = base + i.val) :
      ((List.finRange n).map key).Pairwise
        fun a b => (groupOfKey b = .item → Directory s) → drainRank a < drainRank b := by
    rw [List.pairwise_map]
    exact (List.pairwise_lt_finRange n).imp fun lt _ => by rw [rank, rank]; exact Nat.add_lt_add_left lt base
  simp only [drainKeys, allHeads_eq, List.pairwise_cons, List.pairwise_append, List.mem_append]
  refine ⟨fun a mem _ => ?_, ⟨⟨block fun _ => rfl, block fun _ => rfl, fun a first b second _ => ?_⟩, block fun _ => rfl,
    fun a first b second _ => ?_⟩, items, fun a first b second _ => ?_⟩
  · have rank : drainRank .grand = 1 := rfl
    rcases mem with ((h | h) | h) | h
    · exact (head h).1
    · have := operator h
      omega
    · have := department h
      omega
    · have := item h
      omega
  · exact (head first).2.trans_le (operator second).1
  · have later := (department second).1
    rcases first with h | h
    · have := head h
      omega
    · exact (operator h).2.trans_le later
  · have later := item second
    rcases first with (h | h) | h
    · have := head h
      omega
    · have := operator h
      omega
    · exact (department h).2.trans_le later

/-- A non-empty accumulator stands in the drain order. -/
theorem mem_drainKeys {a : AccKey} (left : accAt a s ≠ emptyAcc) : a ∈ drainKeys s := by
  cases a with
  | item n =>
    cases found : findItem n s with
    | none => exact absurd (by simp [accAt, found]) left
    | some i =>
      obtain ⟨mem, rfl⟩ := findItem_found found
      simp only [drainKeys, List.mem_cons, List.mem_append, List.mem_map]
      exact .inr (.inr ⟨i, mem, rfl⟩)
  | grand => exact List.mem_cons_self
  | head h => simp [drainKeys, mem_allHeads]
  | operator n => simp [drainKeys]
  | department d => simp [drainKeys]

theorem nextDrain_eq_none :
    nextDrain s = none ↔ ∀ a, cursorRank s.tot.cursor < drainRank a → accAt a s = emptyAcc := by
  simp only [nextDrain, List.find?_eq_none, Bool.and_eq_true, decide_eq_true_eq, bne_iff_ne, not_and, not_not]
  exact ⟨fun none a beyond => by_contra fun left => left (none a (mem_drainKeys left) beyond), fun empty a _ => empty a⟩

/-- The accumulator drained is non-empty, beyond the cursor, and of those the first. -/
theorem nextDrain_eq_some {k : AccKey} (found : nextDrain s = some k) :
    cursorRank s.tot.cursor < drainRank k ∧ accAt k s ≠ emptyAcc
      ∧ ∀ a, (groupOfKey a = .item → Directory s) → cursorRank s.tot.cursor < drainRank a → accAt a s ≠ emptyAcc →
        a = k ∨ drainRank k < drainRank a := by
  have meets := List.find?_some found
  simp only [Bool.and_eq_true, decide_eq_true_eq, bne_iff_ne] at meets
  refine ⟨meets.1, meets.2, fun a dir beyond left => ?_⟩
  exact (find?_first (drainKeys_ordered s) found (mem_drainKeys left) (by simp [beyond, left])).imp_right fun first => first dir

/-! ### One accumulator drained (R168) -/

theorem accAt_clearAt (a k : AccKey) (s : State) : accAt a (clearAt k s) = if a = k then emptyAcc else accAt a s := by
  cases k with
  | grand => cases a <;> simp [clearAt, accAt, findItem]
  | head h => cases a <;> simp [clearAt, accAt, findItem, Table.look_put]
  | operator n => cases a <;> simp [clearAt, accAt, findItem, Table.look_put]
  | department d => cases a <;> simp [clearAt, accAt, findItem, Table.look_put]
  | item n =>
    cases a with
    | item m =>
      have number (i : Item) : (atNumber n (fun i => { i with acc := emptyAcc }) i).number = i.number :=
        atNumber_ind (p := fun x => x.number = i.number) (fun _ => rfl) rfl
      have found : findItem m (clearAt (.item n) s) = (findItem m s).map (atNumber n fun i => { i with acc := emptyAcc }) :=
        findItem_map number rfl m
      rw [accAt, found, Option.map_map]
      cases stands : findItem m s with
      | none => simp [accAt, stands]
      | some i =>
        obtain ⟨-, named⟩ := findItem_found stands
        by_cases e : m = n <;> simp [accAt, stands, atNumber, named, e]
    | grand | head | operator | department => simp [clearAt, accAt]

/-- The drain leaves every accumulator up to its new cursor empty. -/
theorem accAt_clearAt_next {k a : AccKey} (found : nextDrain s = some k) (dir : groupOfKey a = .item → Directory s)
    (drained : drainRank a ≤ cursorRank s.tot.cursor → accAt a s = emptyAcc) (upTo : drainRank a ≤ drainRank k) :
    accAt a (clearAt k s) = emptyAcc := by
  rw [accAt_clearAt]
  split
  · rfl
  next other =>
    by_contra left
    obtain ⟨-, -, first⟩ := nextDrain_eq_some found
    have beyond : cursorRank s.tot.cursor < drainRank a := by
      by_contra within
      exact left (drained (Nat.not_lt.1 within))
    rcases first a dir beyond left with same | later
    · exact other same
    · omega

/-- The totals after one accumulator is drained. -/
theorem tot_drainOne (k : AccKey) (s : State) : (drainOne k s).2.tot = { (clearAt k s).tot with
    drained := s.tot.drained + 1, cursor := some (.after k), lastEntry := some (drainOne k s).1 } := by
  simp only [drainOne, drainPurge_frame]

theorem purged_drainPurge (i : Option Item) (s : State) : Purged s (drainPurge i s) := by
  unfold drainPurge
  split
  · exact purged_purgeCheck _ s
  · exact ⟨rfl, fun _ => true, by simp, fun _ _ _ => nofun⟩

/-- A purge leaves entries that stood. -/
theorem entries_drainOne {k : AccKey} {e : Nat × Acc} (mem : e ∈ (drainOne k s).2.itb.items.map entry) :
    e ∈ (clearAt k s).itb.items.map entry := by
  obtain ⟨-, p, items, -⟩ := purged_drainPurge (itemOfKey k s) (clearAt k s)
  have left : (drainOne k s).2.itb.items.map entry = ((clearAt k s).itb.items.map entry).filter p := items
  rw [left] at mem
  exact List.mem_of_mem_filter mem

theorem day_clearAt (k : AccKey) (s : State) : (clearAt k s).tot.day = s.tot.day := by cases k <;> rfl

/-- Under the directory the law of the items in DAY_CLOSING speaks of accumulators by their key. -/
theorem acc_of_entry (dir : Directory s) {e : Nat × Acc} (mem : e ∈ s.itb.items.map entry) :
    accAt (.item e.1) s = e.2 := by
  obtain ⟨i, there, rfl⟩ := List.mem_map.1 mem
  have found : findItem i.number s = some i := (findItem_iff dir).2 ⟨there, rfl⟩
  simp [accAt, entry, found]

theorem directory_clearAt (k : AccKey) (dir : Directory s) : Directory (clearAt k s) := by
  cases k with
  | item n =>
    exact directory_map (f := atNumber n fun i => { i with acc := emptyAcc })
      (fun i => atNumber_ind (p := fun x => x.number = i.number) (fun _ => rfl) rfl) rfl dir
  | grand | head | operator | department => exact dir

/-- In DAY_CLOSING every accumulator up to the cursor that the laws reach is empty (R168). -/
theorem BalanceLaw.drained (law : BalanceLaw s) (closing : s.tot.day = .closing) {a : AccKey}
    (group : groupOfKey a ≠ .item) : drainRank a ≤ cursorRank s.tot.cursor → accAt a s = emptyAcc := by
  rw [BalanceLaw, if_pos closing] at law
  exact law a group

theorem ItemBalanceLaw.drained (law : ItemBalanceLaw s) (closing : s.tot.day = .closing) (n : Nat) :
    drainRank (.item n) ≤ cursorRank s.tot.cursor → accAt (.item n) s = emptyAcc := by
  intro upTo
  rw [ItemBalanceLaw, if_pos closing] at law
  rw [accAt]
  cases found : findItem n s with
  | none => rfl
  | some i =>
    obtain ⟨mem, rfl⟩ := findItem_found found
    exact law i mem upTo

theorem audited_drainOne {k : AccKey} (closing : s.tot.day = .closing) (found : nextDrain s = some k) :
    Audited s (drainOne k s).2 := by
  have tot := tot_drainOne k s
  have still : (drainOne k s).2.tot.day = .closing := by
    rw [tot]
    exact (day_clearAt k s).trans closing
  have rank : cursorRank (drainOne k s).2.tot.cursor = drainRank k := by rw [tot]; rfl
  refine ⟨fun _ _ law => ?_, fun dir _ _ _ _ _ _ law => (itemBalanceLaw_closing still).2 fun e mem upTo => ?_⟩
  · rw [BalanceLaw, if_pos still, rank]
    intro a group upTo
    rw [accAt_of_groups (s := clearAt k s) (by rw [tot]; exact ⟨rfl, rfl, rfl, rfl⟩) group]
    exact accAt_clearAt_next found (fun item => absurd item group) (law.drained closing group) upTo
  · rw [rank] at upTo
    rw [← acc_of_entry (directory_clearAt k dir) (entries_drainOne mem)]
    exact accAt_clearAt_next found (fun _ => dir) (law.drained closing e.1) upTo

/-! ### The turn of the day (R160, R162, R169) -/

/-- At the end of the drain every accumulator that the laws reach is empty. -/
theorem accAt_drained {a : AccKey} (ended : nextDrain s = none)
    (drained : drainRank a ≤ cursorRank s.tot.cursor → accAt a s = emptyAcc) : accAt a s = emptyAcc := by
  by_cases upTo : drainRank a ≤ cursorRank s.tot.cursor
  · exact drained upTo
  · exact nextDrain_eq_none.1 ended a (Nat.not_le.1 upTo)

theorem sumOver_empty {n : Nat} {f : Acc → Nat} (mem : f ∈ accFields) {accs : Table Acc n}
    (empty : ∀ i, accs.look i = emptyAcc) : sumOver f accs = 0 := by
  simp [sumOver, empty, field_emptyAcc mem]

theorem audited_endDrain (closing : s.tot.day = .closing) (ended : nextDrain s = none) : Audited s (endDrain s) := by
  have empty (law : BalanceLaw s) {a : AccKey} (group : groupOfKey a ≠ .item) : accAt a s = emptyAcc :=
    accAt_drained ended (law.drained closing group)
  have posting : (endDrain s).tot.day ≠ .closing := nofun
  refine ⟨fun _ _ law => (balanceLaw_posting posting).2 fun _ f mem => ?_,
    fun dir _ _ _ _ _ law items => (itemBalanceLaw_posting posting).2 fun _ f mem => ?_⟩
  · have grand : f s.tot.grand = 0 := (congrArg f (empty law (a := .grand) nofun)).trans (field_emptyAcc mem)
    have heads := sumOver_empty mem fun h => empty law (a := .head h) nofun
    have operators := sumOver_empty mem fun n => empty law (a := .operator n) nofun
    have departments := sumOver_empty mem fun d => empty law (a := .department d) nofun
    exact ⟨grand.trans heads.symm, grand.trans operators.symm, grand.trans departments.symm⟩
  · have grand : f s.tot.grand = 0 := (congrArg f (empty law (a := .grand) nofun)).trans (field_emptyAcc mem)
    refine grand.trans (List.sum_eq_zero fun x there => ?_).symm
    obtain ⟨i, record, rfl⟩ := List.mem_map.1 there
    have acc : accAt (.item i.number) s = i.acc := acc_of_entry dir (List.mem_map_of_mem (f := entry) record)
    rw [accAt_drained ended (items.drained closing i.number)] at acc
    exact (congrArg f acc.symm).trans (field_emptyAcc mem)

theorem audited_readClosing (n : Nat) : Audited s (readClosing n s).state := by
  unfold readClosing
  split
  · exact .refl s
  split
  · exact .refl s
  next notOther =>
    have closing : s.tot.day = .closing := by simpa using notOther
    split
    · unfold drainNext
      split
      next k found => exact audited_drainOne closing found
      next ended => exact audited_endDrain closing ended
    · unfold drainRepeat
      split <;> exact .refl s

/-- Between two states of the day outside DAY_CLOSING the same balance is asked. -/
theorem audited_dayOpened (date : Date) (before : s.tot.day ≠ .closing) :
    Audited s (openNumbers (setDate (some date) (setDay .opened s))) := by
  have after : (openNumbers (setDate (some date) (setDay .opened s))).tot.day ≠ .closing := nofun
  exact ⟨fun _ _ law => (balanceLaw_posting after).2 ((balanceLaw_posting before).1 law),
    fun _ _ _ _ _ _ _ law => (itemBalanceLaw_posting after).2 ((itemBalanceLaw_posting before).1 law)⟩

theorem audited_openDay (y m d : Nat) : Audited s (openDay y m d s).state := by
  unfold openDay
  split
  · exact .refl s
  split
  · exact .refl s
  next closed =>
    have before : s.tot.day ≠ .closing := fun closing => by simp [closing] at closed
    exact audited_dayOpened _ before

/-- The drain starts before every accumulator. -/
theorem audited_drainStarted (tot : t.tot = (startDrain s).tot) : Audited s t := by
  have closing : t.tot.day = .closing := by rw [tot]; rfl
  have start : cursorRank t.tot.cursor = 0 := by rw [tot]; rfl
  have beyond (a : AccKey) : ¬drainRank a ≤ 0 := by cases a <;> simp [drainRank]
  refine ⟨fun _ _ _ => ?_, fun _ _ _ _ _ _ _ _ => (itemBalanceLaw_closing closing).2 fun e _ upTo => ?_⟩
  · rw [BalanceLaw, if_pos closing, start]
    exact fun a _ upTo => absurd upTo (beyond a)
  · rw [start] at upTo
    exact absurd upTo (beyond _)

theorem audited_closeDay : Audited s (closeDay s).state := by
  obtain ⟨-, -, -, tot⟩ := dayClosing_blocks (s := s)
  by_cases opened : s.tot.day = .opened
  · rw [closeDay_opened opened]
    split
    · exact .refl s
    · dsimp only
      exact audited_drainStarted tot
  · rw [closeDay_unopened opened]
    exact .refl s

/-! ### New records (R61) -/

/-- A record with an empty accumulator adds nothing. -/
theorem audited_insertItem {i : Item} (empty : i.acc = emptyAcc) : Audited s (onItems (insertItem i) s) := by
  have items : ((onItems (insertItem i) s).itb.items.map entry).Perm (entry i :: s.itb.items.map entry) :=
    (insertItem_perm i s.itb.items).map entry
  generalize hu : onItems (insertItem i) s = u at items
  have tot : u.tot = s.tot := by rw [← hu]; rfl
  have mem {e : Nat × Acc} : e ∈ u.itb.items.map entry ↔ e = entry i ∨ e ∈ s.itb.items.map entry :=
    items.mem_iff.trans List.mem_cons
  refine ⟨fun _ _ => balanceLaw_congr (by rw [tot]), fun _ _ _ _ _ _ _ law => ?_⟩
  by_cases closing : s.tot.day = .closing
  · rw [itemBalanceLaw_closing closing] at law
    refine (itemBalanceLaw_closing (by rwa [tot])).2 fun e there upTo => ?_
    rw [tot] at upTo
    rcases mem.1 there with rfl | old
    · exact empty
    · exact law e old upTo
  · rw [itemBalanceLaw_posting closing, itemsUnsaturated_iff, itemsBalanced_iff] at law
    rw [itemBalanceLaw_posting (by rwa [tot]), itemsUnsaturated_iff, itemsBalanced_iff, tot]
    rintro ⟨grand, records⟩ f field
    have sum := (items.map fun e => f e.2).sum_eq
    have nothing : f (entry i).2 = 0 := (congrArg f empty).trans (field_emptyAcc field)
    rw [List.map_cons, List.sum_cons, nothing, Nat.zero_add] at sum
    rw [sum]
    exact law ⟨grand, fun e old => records e (mem.2 (.inr old))⟩ f field

theorem audited_addItem (f : RawItem) (price : Nat) : Audited s (addItem f price s).state := by
  unfold addItem
  split
  · exact .refl s
  split
  · exact .refl s
  split
  · exact .refl s
  split
  · exact .refl s
  · exact audited_insertItem rfl

end Sys2Proof.Machine
end

section
/-! SUPPORT. `Audited` at every row, and the settlement of the step lemmas for the balance of the accumulators. -/

namespace Sys2Proof.Machine

variable {s t : State}

/-! ### The three kinds of row -/

theorem SameBooks.of_sameBehind (same : SameBehind t s) : SameBooks s t := by
  obtain ⟨-, -, -, -, -, -, -, -, -, itb, -, -, -, -, tot, -⟩ := same.blocks
  exact .of_blocks ⟨tot, by rw [itb]⟩

/-- The row of an event. -/
theorem audited_event {f : State → State} (e : takes f s = .next t) (work : Audited s (f s)) : Audited s t := by
  obtain ⟨-, rfl⟩ | ⟨-, rfl⟩ := takes_next e
  · exact .refl _
  · exact work.then_same (.of_sameBehind ((sameBehind_noted ..).trans (sameBehind_settle ..)))

/-- The row of an event that writes neither totals nor accumulators. -/
theorem idle_event {f : State → State} (e : takes f s = .next t)
    (blocks : (f s).tot = s.tot ∧ (f s).itb.items.map entry = s.itb.items.map entry) : Audited s t :=
  audited_event e (SameBooks.of_blocks blocks).audited

/-- The row of a command of the host. -/
theorem audited_command {pick : HostCmd → Option (State → Answer)} (e : takes (owner pick) s = .next t)
    (work : ∀ c f, pick c = some f → Audited s (f s).state) : Audited s t := by
  refine audited_event e ?_
  unfold owner
  split
  · exact .refl s
  · split
    next f hf => exact (work _ _ hf).then_same (.of_blocks ⟨rfl, rfl⟩)
    · exact .refl s

theorem audited_transacts {f : State → State} (e : transacts f s = .next t) (work : SameBooks s (f s)) : Audited s t := by
  unfold transacts at e
  split at e
  · cases e; exact .refl s
  · cases e; exact work.audited

/-! ### Resets (R195, R207) -/

theorem audited_powerOn (e : exec .powerOnReset s = .next t) : Audited s t := by
  cases e
  exact ⟨fun _ _ _ => balanceLaw_reset, fun _ _ _ _ _ _ _ _ => itemBalanceLaw_reset⟩

/-- A hub reset empties the hold buffer, which is none of the books. -/
theorem sameBooks_hubReset : SameBooks s (hubResetEffects s) := by
  refine ⟨?_, by simp⟩
  have tot : (hubResetEffects s).tot = { s.tot with hold := none } := by simp [hubResetEffects]
  rw [tot]
  rfl

theorem audited_pinFall (e : exec .resetPinFall s = .next t) : Audited s t := by
  cases e
  have held : SameBooks (settle s (hubResetEffects s)) { settle s (hubResetEffects s) with resetLow := true } :=
    .of_blocks ⟨rfl, rfl⟩
  exact ((sameBooks_hubReset.trans (.of_sameBehind (sameBehind_settle s _))).trans
    (held.trans (.of_sameBehind (sameBehind_noted ..)))).audited

theorem audited_pinRise (e : exec .resetPinRise s = .next t) : Audited s t := by
  cases e
  have risen : SameBooks s { s with resetLow := false } := .of_blocks ⟨rfl, rfl⟩
  exact (risen.trans (.of_sameBehind (sameBehind_noted ..))).audited

/-! ### Every row -/

theorem audited_readTotals (g : Nat) : Audited s (readTotals g s).state := by
  unfold readTotals
  split
  · exact .refl s
  · exact SameBooks.audited ⟨rfl, rfl⟩

/-- The rows of the commands that write neither totals nor accumulators. -/
def unpostedCommands : List Instr :=
  [.configurePair, .setSlots, .linkRestart, .readLink, .readHead, .updateItem, .findItem, .nextItem, .stagePrice,
    .unstagePrice, .commitPrices, .reinstateItem, .readCopies, .setNumberRange, .readQueue, .listTickets, .readTicket,
    .collectTicket, .setCollection, .printText, .cancelJob, .redirectJobs, .readPrinter, .readHold, .readStatus]

theorem audited_unpostedCommand {c : Instr} (hc : c ∈ unpostedCommands) (e : exec c s = .next t) : Audited s t := by
  simp only [unpostedCommands, List.mem_cons, List.not_mem_nil, or_false] at hc
  rcases hc with rfl | rfl | rfl | rfl | rfl | rfl | rfl | rfl | rfl | rfl | rfl | rfl | rfl | rfl | rfl | rfl | rfl | rfl
      | rfl | rfl | rfl | rfl | rfl | rfl | rfl <;>
    exact audited_command e fun c f h => by split at h <;> cases h; exact (SameBooks.of_blocks (by simp)).audited

/-- The rows of the keys. -/
theorem audited_key (k : KeyKind) (h : Head) (e : exec (keyRow k h) s = .next t) : Audited s t := by
  have same {u v : State} (blocks : v.tot = u.tot ∧ v.itb.items.map entry = u.itb.items.map entry) : Audited u v :=
    (SameBooks.of_blocks blocks).audited
  cases k
  case voidLast => exact audited_event e (audited_takeKey fun _ _ => audited_withTicket fun _ held => audited_voidLast held)
  case voidTicket => exact audited_event e (audited_takeKey fun _ _ => audited_withTicket fun _ held => audited_void held)
  case total => exact audited_event e (audited_takeKey fun _ _ => audited_withTicket fun _ held => audited_totalTicket held)
  case park =>
    exact audited_event e (audited_takeKey fun _ _ => audited_withTicket fun _ _ => same (by simp))
  case signOn | signOff | item | count | zero | tare | clearTare | next | skip | openKey | pick | label | batch | clear =>
    exact audited_event e (audited_takeKey fun _ _ => same (by simp))

theorem frameHeadsTaken_books : SameBooks s (eachHead frameHead { s with hand := { s.hand with hsu := s.hand.hsu - 1 } }) := by
  have tot := eachHead_keeps (fun u => u.tot) (f := frameHead) (fun _ _ => by simp)
    { s with hand := { s.hand with hsu := s.hand.hsu - 1 } }
  have itb := eachHead_keeps (fun u => u.itb) (f := frameHead) (fun _ _ => by simp)
    { s with hand := { s.hand with hsu := s.hand.hsu - 1 } }
  exact .of_blocks ⟨tot, by rw [itb]⟩

theorem frameTicketsTaken_books : SameBooks s (allTickets.foldl (fun s t => frameTicket t s)
    { s with hand := { s.hand with tkp := s.hand.tkp - 1 } }) := by
  have tot := foldl_keeps (fun u => u.tot) (f := fun s t => frameTicket t s) (fun _ _ => by simp) allTickets
    { s with hand := { s.hand with tkp := s.hand.tkp - 1 } }
  have itb := foldl_keeps (fun u => u.itb) (f := fun s t => frameTicket t s) (fun _ _ => by simp) allTickets
    { s with hand := { s.hand with tkp := s.hand.tkp - 1 } }
  exact .of_blocks ⟨tot, by rw [itb]⟩

/-- Every row keeps the balance. -/
theorem audited_exec (c : Instr) (e : exec c s = .next t) : Audited s t := by
  cases c
  case powerOnReset => exact audited_powerOn e
  case resetPinFall => exact audited_pinFall e
  case resetPinRise => exact audited_pinRise e
  case commandTransaction => exact audited_transacts e (.of_blocks (by simp))
  case responseTransaction => exact audited_transacts e (.of_blocks (by simp))
  case configureHead =>
    exact audited_command e fun c f h => by split at h <;> cases h; exact (sameBooks_configureHead _).audited
  case addItem => exact audited_command e fun c f h => by split at h <;> cases h; exact audited_addItem ..
  case withdrawItem => exact audited_command e fun c f h => by split at h <;> cases h; exact audited_withdrawItem _
  case voidTicket => exact audited_command e fun c f h => by split at h <;> cases h; exact audited_voidTicketCommand ..
  case openDay => exact audited_command e fun c f h => by split at h <;> cases h; exact audited_openDay ..
  case closeDay => exact audited_command e fun c f h => by split at h <;> cases h; exact audited_closeDay
  case readTotals => exact audited_command e fun c f h => by split at h <;> cases h; exact audited_readTotals _
  case readClosing => exact audited_command e fun c f h => by split at h <;> cases h; exact audited_readClosing _
  case hubReset => exact audited_command e fun c f h => by split at h <;> cases h; exact sameBooks_hubReset.audited
  case configurePair | setSlots | linkRestart | readLink | readHead | updateItem | findItem | nextItem | stagePrice
      | unstagePrice | commitPrices | reinstateItem | readCopies | setNumberRange | readQueue | listTickets | readTicket
      | collectTicket | setCollection | printText | cancelJob | redirectJobs | readPrinter | readHold | readStatus =>
    exact audited_unpostedCommand (by simp [unpostedCommands]) e
  case frameStart => exact idle_event e (by simp)
  case slotMaskTakesEffect => exact idle_event e (by simp)
  case linkRestartTakesEffect => exact idle_event e (by simp)
  case joinWaitExpiry => exact audited_event e (.ite (SameBooks.of_blocks (by simp)).audited (.refl s))
  case headServiceFrameStart =>
    exact audited_event ((exec_headServiceFrameStart s).symm.trans e) (.ite (.refl s) frameHeadsTaken_books.audited)
  case captureTimeout => exact audited_event e (.ite (SameBooks.of_blocks (by simp)).audited (.refl s))
  case messageExpiry => exact audited_event e (.ite (SameBooks.of_blocks (by simp)).audited (.refl s))
  case copyFrameStart =>
    exact audited_event ((exec_copyFrameStart s).symm.trans e) (.ite (.refl s) (SameBooks.of_blocks (by simp)).audited)
  case ticketFrameStart =>
    exact audited_event ((exec_ticketFrameStart s).symm.trans e) (.ite (.refl s) frameTicketsTaken_books.audited)
  case ticketIdlePark => exact audited_event e (.ite (SameBooks.of_blocks (by simp)).audited (.refl s))
  case frameNotice | welcome | headUpdate | printerUpdate | dispenserUpdate => exact idle_event e (by simp)
  case headReport | printerReport | dispenserReport | join | upstreamRejected | upstreamMiss =>
    exact audited_event e (audited_upstreamPart _ _)
  case silenceLoss => exact audited_event e (.ite (audited_upstreamPart _ _) (.refl s))
  case channelSample h => exact idle_event ((exec_channelSample h s).symm.trans e) (by simp)
  case cellFaultEntry h => exact idle_event ((exec_cellFaultEntry h s).symm.trans e) (by simp)
  case cellFaultRecovery h => exact idle_event ((exec_cellFaultRecovery h s).symm.trans e) (by simp)
  case copyAck h =>
    refine audited_event ((exec_copyAck h s).symm.trans e) ?_
    split
    · exact .refl s
    · exact (SameBooks.of_blocks (by simp)).audited
  case captureLineComplete => exact audited_event e (.ite (SameBooks.of_blocks (by simp)).audited (.refl s))
  case captureLabelComplete h =>
    exact audited_event ((exec_captureLabelComplete h s).symm.trans e)
      (.ite (.refl s) (SameBooks.of_blocks (by simp)).audited)
  case keySignOn h => exact audited_key .signOn h e
  case keySignOff h => exact audited_key .signOff h e
  case keyItem h => exact audited_key .item h e
  case keyCount h => exact audited_key .count h e
  case keyZero h => exact audited_key .zero h e
  case keyTare h => exact audited_key .tare h e
  case keyClearTare h => exact audited_key .clearTare h e
  case keyNext h => exact audited_key .next h e
  case keySkip h => exact audited_key .skip h e
  case keyOpen h => exact audited_key .openKey h e
  case keyPark h => exact audited_key .park h e
  case keyPick h => exact audited_key .pick h e
  case keyVoidLast h => exact audited_key .voidLast h e
  case keyVoidTicket h => exact audited_key .voidTicket h e
  case keyTotal h => exact audited_key .total h e
  case keyLabel h => exact audited_key .label h e
  case keyBatch h => exact audited_key .batch h e
  case keyClear h => exact audited_key .clear h e

/-- A step is the front row of the queue, and an empty queue changes nothing. -/
theorem audited_step (e : step s = .next t) : ∃ rest, Audited { s with pending := rest } t := by
  unfold step at e
  split at e
  · cases e; exact ⟨_, .refl s⟩
  next c rest _ => exact ⟨rest, audited_exec c e⟩

/-- Settles O59: the laws do not read the queue of events, and the row at its front keeps the balance. -/
theorem stepKeepsGroupBalance : Obligations.StepKeepsGroupBalance := by
  intro s t e
  obtain ⟨rest, kept⟩ := audited_step e
  exact kept.groups

/-- Settles O60: the same row keeps the balance of the items. -/
theorem stepKeepsItemBalance : Obligations.StepKeepsItemBalance := by
  intro s t e
  obtain ⟨rest, kept⟩ := audited_step e
  exact kept.items

end Sys2Proof.Machine
end

section
/-! SUPPORT. READ_TOTALS and READ_CLOSING (R164 to R169): the snapshot of each group, and what one drained
accumulator leaves. -/

namespace Sys2Proof.Machine

variable {s t u : State}

/-! ### READ_TOTALS (R164) -/

theorem readTotals_bad {k : Nat} (range : 4 < k) : readTotals k s = ⟨.badValue, .empty, s⟩ := by
  obtain ⟨j, rfl⟩ := Nat.exists_eq_add_of_lt range
  have none : groupOf (4 + j + 1) = none := by
    rw [Nat.add_comm 4, Nat.add_assoc]
    rfl
  rw [readTotals, none]
  rfl

theorem groupEntries_head : groupEntries .head s = (List.finRange 8).map fun h => ⟨.head h, s.tot.heads.look h, none⟩ := by
  have heads : allHeads = List.finRange 8 := by decide
  rw [← heads]
  rfl

/-- A snapshot takes the next hold serial and answers its first page. -/
theorem readTotals_taken {k : Nat} {g : Group} (group : groupOf k = some g) : readTotals k s
    = ⟨.done, .totals (snapshot g s) ((groupEntries g s).take 16),
      { s with tot := { s.tot with holdSerial := s.tot.holdSerial + 1, hold := some (snapshot g s) } }⟩ := by
  rw [readTotals, group]
  rfl

/-! ### The refusals of READ_CLOSING, and the end of the drain (R168, R169) -/

theorem readClosing_bad {k : Nat} (range : 1 < k) : readClosing k s = ⟨.badValue, .empty, s⟩ := by
  rw [readClosing, if_pos range]
  rfl

theorem readClosing_otherDay {k : Nat} (range : k ≤ 1) (other : s.tot.day ≠ .closing) :
    readClosing k s = ⟨.wrongState, .day s.tot.day, s⟩ := by
  rw [readClosing, if_neg (Nat.not_lt.2 range), if_pos (by simpa using other)]
  rfl

theorem readClosing_repeat_none (closing : s.tot.day = .closing) (none : s.tot.lastEntry = none) :
    readClosing 1 s = ⟨.notFound, .empty, s⟩ := by
  simp [readClosing, drainRepeat, closing, none, refuse]

theorem readClosing_next (closing : s.tot.day = .closing) : readClosing 0 s = drainNext s := by
  simp [readClosing, closing]

/-! ### A purge and the accumulators (R72) -/

/-- A purge changes no accumulator: the one that it takes away is empty. -/
theorem Purged.accAt (a : Purged s t) (dir : Directory s) (k : AccKey) : accAt k t = accAt k s := by
  obtain ⟨tot, p, items, empty⟩ := a
  cases k with
  | item n =>
    cases left : findItem n t with
    | some i =>
      obtain ⟨mem, rfl⟩ := findItem_found left
      have stood : entry i ∈ s.itb.items.map entry :=
        List.mem_of_mem_filter (items ▸ List.mem_map_of_mem (f := entry) mem)
      simp only [Machine.accAt, left]
      exact (acc_of_entry dir stood).symm
    | none =>
      have gone : Machine.accAt (.item n) t = emptyAcc := by simp only [Machine.accAt, left]; rfl
      rw [gone]
      by_contra full
      cases stood : findItem n s with
      | none => exact full (by simp only [Machine.accAt, stood]; rfl)
      | some i =>
        obtain ⟨mem, rfl⟩ := findItem_found stood
        have there := List.mem_map_of_mem (f := entry) mem
        cases stays : p (entry i) with
        | true =>
          have kept : entry i ∈ t.itb.items.map entry := items ▸ List.mem_filter.2 ⟨there, stays⟩
          obtain ⟨j, record, same⟩ := List.mem_map.1 kept
          exact findItem_eq_none.1 left j record (congrArg Prod.fst same)
        | false => exact full ((empty dir _ there stays).symm.trans (acc_of_entry dir there).symm)
  | grand | head | operator | department => exact accAt_of_groups (by rw [tot]; exact ⟨rfl, rfl, rfl, rfl⟩) nofun

/-! ### One accumulator drained (R168) -/

/-- The drain of an accumulator writes the totals, the item table and the printers. -/
theorem drainOne_writes (k : AccKey) (s : State) : (drainOne k s).2
    = { s with tot := (drainOne k s).2.tot, itb := (drainOne k s).2.itb, lbc := (drainOne k s).2.lbc } := by
  obtain ⟨resetLow, sdo, down, port, lnk, wge, hsu, ccu, snu, tkp, shown, hand, pending⟩ := drainOne_frame (s := s) k
  simp only [← resetLow, ← sdo, ← down, ← port, ← lnk, ← wge, ← hsu, ← ccu, ← snu, ← tkp, ← shown, ← hand, ← pending]

/-- It empties its accumulator and changes no other. -/
theorem accAt_drainOne (dir : Directory s) (a k : AccKey) :
    accAt a (drainOne k s).2 = if a = k then emptyAcc else accAt a s := by
  have counted : accAt a (drainOne k s).2 = accAt a (drainPurge (itemOfKey k s) (clearAt k s)) := by
    cases a <;> rfl
  rw [counted, (purged_drainPurge _ _).accAt (directory_clearAt k dir), accAt_clearAt]

/-- Of the totals it writes the four groups and the progress of the drain. -/
theorem tot_drainOne_writes (k : AccKey) (s : State) : (drainOne k s).2.tot = { s.tot with
    grand := (drainOne k s).2.tot.grand, heads := (drainOne k s).2.tot.heads
    operators := (drainOne k s).2.tot.operators, departments := (drainOne k s).2.tot.departments
    cursor := some (.after k), drained := s.tot.drained + 1, lastEntry := some (drainOne k s).1 } := by
  rw [tot_drainOne]
  cases k <;> rfl

/-- An accumulator outside the item table is drained without a purge test. -/
theorem drainOne_group {k : AccKey} (group : groupOfKey k ≠ .item) : (drainOne k s).1.item = none
    ∧ (drainOne k s).1.purged = none ∧ (drainOne k s).2.itb = s.itb ∧ (drainOne k s).2.lbc = s.lbc := by
  cases k with
  | item n => exact absurd rfl group
  | grand | head | operator | department => exact ⟨rfl, rfl, rfl, rfl⟩

/-- The record with its accumulator cleared. -/
def cleared (i : Item) : Item := { i with acc := emptyAcc }

theorem purgeable_cleared {i : Item} : purgeable (cleared i) = true ↔ i.state = .withdrawn ∧ i.refs = 0 := by
  rw [purgeable_iff]
  exact ⟨fun ⟨gone, refs, _⟩ => ⟨gone, refs⟩, fun ⟨gone, refs⟩ => ⟨gone, refs, rfl⟩⟩

theorem itemAt_clearAt (places : Places s) {n : Nat} {i : Item} (found : findItem n s = some i) :
    itemAt i.index (clearAt (.item n) s) = some (cleared i) := by
  have index (j : Item) : (atNumber n cleared j).index = j.index :=
    atNumber_ind (p := fun x => x.index = j.index) (fun _ => rfl) rfl
  rw [itemAt_map (s := s) index rfl, itemAt_of_findItem places found, Option.map_some, atNumber,
    if_pos (by simpa using (findItem_found found).2)]

/-- Records changed at one number alone: without that record they are as before. -/
theorem filter_map_atNumber {n : Nat} {f : Item → Item} (number : ∀ i, (f i).number = i.number) (is : List Item) :
    (is.map (atNumber n f)).filter (·.number != n) = is.filter (·.number != n) := by
  have kept (i : Item) : (atNumber n f i).number = i.number :=
    atNumber_ind (p := fun x => x.number = i.number) (fun _ => number i) rfl
  refine (List.filter_map ..).trans ?_
  simp only [Function.comp_def, kept]
  refine (List.map_congr_left fun j mem => ?_).trans (List.map_id _)
  have other : j.number ≠ n := by simpa using (List.mem_filter.1 mem).2
  exact if_neg (by simpa using other)

/-- Where no unfolded pack stands, a purge lets the printers alone. -/
theorem removePurged_quiet (none : NoPacks s) (k : Nat) : removePurged k s = s := by
  have nothing (p : Printer) : (queue p s).filter (unfoldedOf k) = [] := by
    refine List.filter_eq_nil_iff.2 fun j mem unfolded => ?_
    obtain ⟨waiting, l, f, content, -⟩ := unfoldedOf_iff.1 unfolded
    have pack : unfoldedPack j = true := by simp [unfoldedPack, kindOf, content, waiting]
    rw [none p j mem] at pack
    cases pack
  have first : removeJobs 0 ((queue 0 s).filter (unfoldedOf k)) s = s := by rw [nothing]; rfl
  rw [removePurged_eq, first, nothing]
  rfl

section
variable {n : Nat} {i : Item}

/-- The purge test after the drain of a record: it takes a WITHDRAWN record without references. -/
theorem drainPurge_found (places : Places s) (found : findItem n s = some i) :
    drainPurge (some i) (clearAt (.item n) s) = if i.state = .withdrawn ∧ i.refs = 0 then
      removePurged i.index { s with itb := purgedTable n s } else clearAt (.item n) s := by
  split
  next goes =>
    have number : (cleared i).number = n := (findItem_found found).2
    have items : (clearAt (.item n) s).itb.items.filter (·.number != n) = (purgedTable n s).items :=
      filter_map_atNumber (f := cleared) (fun _ => rfl) s.itb.items
    rw [drainPurge, purgeCheck_goes (itemAt_clearAt places found) (purgeable_cleared.2 goes), purge, number]
    exact congrArg (fun is => removePurged i.index { s with itb := { s.itb with items := is } }) items
  next stays =>
    exact purgeCheck_stays (itemAt_clearAt places found) (Bool.eq_false_iff.2 fun goes => stays (purgeable_cleared.1 goes))

/-- The drain of a record's accumulator, with its purge test. -/
theorem drainOne_item (places : Places s) (found : findItem n s = some i) :
    (drainOne (.item n) s).1.item = some ⟨i.index, i.state⟩
    ∧ (drainOne (.item n) s).1.purged = some (decide (i.state = .withdrawn ∧ i.refs = 0))
    ∧ (drainOne (.item n) s).2.itb = { s.itb with
        items := if i.state = .withdrawn ∧ i.refs = 0 then s.itb.items.filter (·.number != n)
          else s.itb.items.map (atNumber n cleared) }
    ∧ (i.state = .active ∨ i.refs ≠ 0 ∨ NoPacks s → (drainOne (.item n) s).2.lbc = s.lbc) := by
  have item : itemOfKey (.item n) s = some i := found
  have number := (findItem_found found).2
  simp only [drainOne, item, Option.map_some, drainPurge_found places found, number, true_and]
  split
  next goes =>
    have gone : findItem n (removePurged i.index { s with itb := purgedTable n s }) = none := by
      refine findItem_eq_none.2 fun j mem => ?_
      have kept : j ∈ s.itb.items.filter (·.number != n) := by simpa [purgedTable] using mem
      simpa using (List.mem_filter.1 kept).2
    refine ⟨by simp [gone, goes], by simp [purgedTable], ?_⟩
    rintro (active | used | none)
    · cases active.symm.trans goes.1
    · exact absurd goes.2 used
    · rw [removePurged_quiet (s := { s with itb := purgedTable n s }) none]
  next stays =>
    have left : findItem n (clearAt (.item n) s) = some (cleared i) :=
      findItem_onItemNumber_same (s := s) (f := cleared) (fun _ => rfl) found
    exact ⟨by simp [left, stays], rfl, fun _ => rfl⟩

end

/-- The accumulator that the statement calls the first non-empty one after the cursor is the one that NEXT drains. -/
theorem nextDrain_first (dir : Directory s) {a : AccKey} (beyond : cursorRank s.tot.cursor < drainRank a)
    (left : accAt a s ≠ emptyAcc)
    (first : ∀ b, cursorRank s.tot.cursor < drainRank b → accAt b s ≠ emptyAcc → drainRank a ≤ drainRank b) :
    nextDrain s = some a := by
  cases found : nextDrain s with
  | none => exact absurd (nextDrain_eq_none.1 found a beyond) left
  | some k =>
    obtain ⟨beyondToo, leftToo, before⟩ := nextDrain_eq_some found
    rcases before a (fun _ => dir) beyond left with rfl | later
    · rfl
    · exact absurd (first k beyondToo leftToo) (Nat.not_le.2 later)

/-- Settles O45: each row answers from its work; NEXT drains the first key of the drain order that meets the test. -/
theorem totalsAreReadAndDrained : Obligations.TotalsAreReadAndDrained := by
  refine ⟨fun n k s taking => ⟨fun range => takes_owner_unchanged taking rfl (readTotals_bad range), ?_⟩,
    fun n k s taking => ⟨fun range => takes_owner_unchanged taking rfl (readClosing_bad range),
      fun range other => takes_owner_unchanged taking rfl (readClosing_otherDay range other), ?_, ?_⟩⟩
  · rintro g entries hold listed rfl
    have group : groupOf k = some g ∧ entries = groupEntries g s := by
      rw [← groupEntries_head] at listed
      simp only [List.mem_cons, List.not_mem_nil, or_false, Prod.mk.injEq] at listed
      rcases listed with ⟨rfl, rfl, rfl⟩ | ⟨rfl, rfl, rfl⟩ | ⟨rfl, rfl, rfl⟩ | ⟨rfl, rfl, rfl⟩ | ⟨rfl, rfl, rfl⟩ <;>
        exact ⟨rfl, rfl⟩
    obtain ⟨group, rfl⟩ := group
    exact takes_owner_beside taking rfl (readTotals_taken group) ⟨rfl, rfl, rfl, rfl, rfl, rfl, rfl⟩
  · rintro rfl closing none
    exact takes_owner_unchanged taking rfl (readClosing_repeat_none closing none)
  · rintro rfl closing dir places
    refine ⟨fun empty => ?_, fun a beyond left first => ?_⟩
    · have work : readClosing 0 s = ⟨.done, .drainEnd s.tot.drained, endDrain s⟩ := by
        rw [readClosing_next closing, drainNext, nextDrain_eq_none.2 empty]
        rfl
      exact takes_owner_beside taking rfl work ⟨rfl, rfl, rfl, rfl, rfl, rfl, rfl⟩
    have work : readClosing 0 s = ⟨.done, .drained (drainOne a s).1, (drainOne a s).2⟩ := by
      rw [readClosing_next closing, drainNext, nextDrain_first dir beyond left first]
      rfl
    obtain ⟨t, row, same⟩ := takes_owner_sameBehind (pick := fun
      | .readClosing r => some (readClosing r)
      | _ => none) taking rfl work
    obtain ⟨-, -, -, port, -, -, -, -, -, itb, -, -, -, lbc, tot, -⟩ := same.blocks
    have accs (b : AccKey) : accAt b t = if b = a then emptyAcc else accAt b s := by
      have read : accAt b t = accAt b (drainOne a s).2 := by
        cases b <;> simp [accAt, findItem, tot, itb, answered]
      rw [read, accAt_drainOne dir]
    refine ⟨t, (drainOne a s).1, row, ?_, rfl, rfl, rfl, ?_, ?_, ?_, ?_, ?_, ?_⟩
    · simp [port, answered]
    · rw [tot]
      exact tot_drainOne_writes a s
    · rw [accs, if_pos rfl]
    · intro b other
      rw [accs, if_neg other]
    · intro group
      rw [itb, lbc]
      exact drainOne_group group
    · rintro m rfl
      cases found : findItem m s with
      | none => exact absurd (by simp [accAt, found]) left
      | some i =>
        rw [itb, lbc]
        obtain ⟨item, purged, items, labels⟩ := drainOne_item places found
        refine ⟨i, rfl, item, purged, items, fun kept => labels ?_⟩
        have notOpened : s.tot.day ≠ .opened := by rw [closing]; nofun
        exact kept.imp_right (.imp_right fun quiet => (quietLaw_iff.1 quiet notOpened).2.1)
    · rw [port, tot, itb, lbc]
      refine same.trans ?_
      rw [drainOne_writes a s]
      rfl

end Sys2Proof.Machine
end

section
/-! SUPPORT. Upstream messages read back from their bytes (R176, section 9.8), and the settlement of their round trip. -/

namespace Sys2Proof.Machine

/-! ### Byte order and CRC -/

theorem ofBe_snoc (bs : List Byte) (b : Byte) : ofBe (bs ++ [b]) = ofBe bs * 256 + b.toNat := by
  simp [ofBe, List.foldl_append]

theorem ofBe_beNat (n v : Nat) : ofBe (beNat n v) = v % 256 ^ n := by
  induction n generalizing v with
  | zero => simp [beNat, ofBe, Nat.mod_one]
  | succ n ih =>
    have split : v % 256 ^ (n + 1) = v % 256 + 256 * (v / 256 % 256 ^ n) := by rw [Nat.pow_succ', Nat.mod_mul]
    rw [beNat, ofBe_snoc, ih, BitVec.toNat_ofNat, split]
    omega

/-- Two's complement is read back within its range. -/
theorem signedOf_beInt {n : Nat} {v : Int} (low : -((256 ^ n : Nat) : Int) ≤ 2 * v)
    (high : 2 * v < ((256 ^ n : Nat) : Int)) : signedOf n (ofBe (beInt n v)) = v := by
  have full : 0 < 256 ^ n := Nat.pow_pos (by decide)
  rw [beInt, ofBe_beNat, signedOf]
  generalize 256 ^ n = k at *
  have residue : ((v % (k : Int)).toNat : Int) = v % k := Int.toNat_of_nonneg (Int.emod_nonneg _ (by omega))
  have below : (v % (k : Int)).toNat < k := by have := Int.emod_lt_of_pos v (show (0 : Int) < k by omega); omega
  rw [Nat.mod_eq_of_lt below]
  obtain neg | pos := lt_or_ge v 0
  · have wrapped : v % (k : Int) = v + k := by
      rw [← Int.add_emod_right, Int.emod_eq_of_lt] <;> omega
    rw [if_neg] <;> omega
  · have same : v % (k : Int) = v := Int.emod_eq_of_lt pos (by omega)
    rw [if_pos] <;> omega

theorem crcGood_sealed (bs : List Byte) : crcGood (sealed bs) = true := by simp [crcGood, sealed]

/-- A part with its CRC behind it is judged by what its body reads as. -/
theorem judge_sealed {i : Slot} {bs : List Byte} {m : Upstream} (reads : readUpstream (slotClass i) bs = some m) :
    judge i (sealed bs) = .good m := by
  have body : (sealed bs).dropLast = bs := by simp [sealed]
  have some : sealed bs ≠ [] := by simp [sealed]
  rw [judge, if_neg some, if_pos (crcGood_sealed bs), body, reads]

/-! ### The bodies (section 9.8) -/

theorem readJoin_deviceByte (k : DeviceKind) : readJoin [deviceByte k] = some k := by cases k <;> rfl

theorem conditionOf_conditionByte (c : Condition) : conditionOf (conditionByte c) = some c := by cases c <;> rfl

/-- The bytes of the job that a printer holds: its tag and copies, or none. -/
def holdBytes (copies : Nat) : Option Tag → List Byte
  | some t => [1#8, t, BitVec.ofNat 8 copies]
  | none => [0#8, 0#8, 0#8]

theorem writePrinterReport_eq (r : PrinterReport) : writePrinterReport r
    = sealed (0x21#8 :: BitVec.ofNat 8 r.credit :: conditionByte r.condition :: holdBytes r.copies r.heldTag) := by
  obtain ⟨credit, condition, held, copies⟩ := r
  cases held <;> rfl

theorem readPrinterReport_write {r : PrinterReport} (credit : r.credit ≤ 8) (copies : r.copies ≤ 16)
    (unheld : r.heldTag = none → r.copies = 0) : readPrinterReport
      (BitVec.ofNat 8 r.credit :: conditionByte r.condition :: holdBytes r.copies r.heldTag) = some r := by
  obtain ⟨c, condition, held, k⟩ := r
  dsimp only at credit copies unheld ⊢
  have creditMod : c % 256 = c := Nat.mod_eq_of_lt (by omega)
  cases held with
  | none =>
    obtain rfl : k = 0 := unheld rfl
    simp [readPrinterReport, holdBytes, conditionOf_conditionByte, creditMod, Nat.not_lt.2 credit]
  | some t =>
    have copiesMod : k % 256 = k := Nat.mod_eq_of_lt (by omega)
    simp [readPrinterReport, holdBytes, conditionOf_conditionByte, creditMod, copiesMod, Nat.not_lt.2 credit,
      Nat.not_lt.2 copies]

/-! ### HEAD_REPORT, part by part -/

/-- The bytes of a key event behind the raw count. -/
def keyBytes : Option WireKey → List Byte
  | some k => k.kind :: beNat 3 k.arg
  | none => []

/-- The bytes of a copy acknowledgement behind the key event. -/
def ackBytes : Option WireAck → List Byte
  | some a => [a.slot, a.version]
  | none => []

theorem writeHeadReport_eq (r : HeadReport) : writeHeadReport r
    = sealed (0x11#8 :: headFlags r :: (beInt 3 r.raw ++ (keyBytes r.key ++ ackBytes r.ack))) := by
  rw [← List.append_assoc]
  rfl

/-- The serial that the flags carry, 0 where there is no key. -/
def flagSerial (r : HeadReport) : BitVec 4 := (r.key.map (·.serial)).getD 0

/-- The low four bits of the flags: bit 0 for a key, bit 1 for an acknowledgement. -/
def presentBits (r : HeadReport) : Nat := (if r.key.isSome then 1 else 0) + (if r.ack.isSome then 2 else 0)

theorem headFlags_eq (r : HeadReport) : headFlags r = flagSerial r ++ BitVec.ofNat 4 (presentBits r) := by
  obtain ⟨raw, key, ack⟩ := r
  cases key <;> rfl

theorem headFlags_bit (r : HeadReport) {j : Nat} (low : j < 4) :
    (headFlags r).getLsbD j = (presentBits r).testBit j := by
  rw [headFlags_eq, BitVec.getLsbD_append, if_pos low, BitVec.getLsbD_ofNat, decide_eq_true low, Bool.true_and]

theorem headFlags_serial (r : HeadReport) : (headFlags r).extractLsb' 4 4 = flagSerial r := by
  rw [headFlags_eq]
  exact BitVec.extractLsb'_append_eq_left

theorem presentBits_testBit (r : HeadReport) : (presentBits r).testBit 0 = r.key.isSome
    ∧ (presentBits r).testBit 1 = r.ack.isSome ∧ (presentBits r).testBit 2 = false
    ∧ (presentBits r).testBit 3 = false := by
  rw [presentBits]
  cases r.key.isSome <;> cases r.ack.isSome <;> decide

theorem readWireKey_keyBytes {r : HeadReport} (arg : ∀ k, r.key = some k → k.arg < 16777216) (rest : List Byte) :
    readWireKey (headFlags r) (keyBytes r.key ++ rest) = some (r.key, rest) := by
  obtain ⟨keyed, -⟩ := presentBits_testBit r
  unfold readWireKey
  dsimp only
  rw [headFlags_bit r (by decide), keyed, headFlags_serial, flagSerial]
  cases key : r.key with
  | none => simp [keyBytes]
  | some k =>
    have value : ofBe (beNat 3 k.arg) = k.arg := (ofBe_beNat 3 k.arg).trans (Nat.mod_eq_of_lt (arg k key))
    simp only [beNat, List.nil_append, List.cons_append] at value
    simp [keyBytes, beNat, value]

theorem readWireAck_ackBytes (r : HeadReport) : readWireAck (headFlags r) (ackBytes r.ack) = some (r.ack, []) := by
  obtain ⟨-, acked, -⟩ := presentBits_testBit r
  unfold readWireAck
  rw [headFlags_bit r (by decide), acked]
  cases r.ack <;> rfl

theorem readHeadReport_write {r : HeadReport} (low : -8388608 ≤ r.raw) (high : r.raw ≤ 8388607)
    (arg : ∀ k, r.key = some k → k.arg < 16777216) :
    readHeadReport (headFlags r :: (beInt 3 r.raw ++ (keyBytes r.key ++ ackBytes r.ack))) = some r := by
  obtain ⟨-, -, two, three⟩ := presentBits_testBit r
  have raw : signedOf 3 (ofBe (beInt 3 r.raw)) = r.raw := signedOf_beInt (by omega) (by omega)
  obtain ⟨a, b, c, bytes⟩ : ∃ a b c, beInt 3 r.raw = [a, b, c] := ⟨_, _, _, rfl⟩
  rw [bytes] at raw ⊢
  simp only [List.cons_append, List.nil_append, readHeadReport, headFlags_bit r (show 2 < 4 by decide), two,
    headFlags_bit r (show 3 < 4 by decide), three, readWireKey_keyBytes arg, readWireAck_ackBytes, raw]
  rfl

/-! ### Every message -/

/-- Settles O48: the CRC stands behind the body, and each body is read back by its own layout. -/
theorem upstreamRoundTrip : Obligations.UpstreamRoundTrip := by
  intro i m fits
  cases m with
  | join k =>
    refine judge_sealed ?_
    simp [readUpstream, readJoin_deviceByte]
  | head r =>
    obtain ⟨seat, low, high, arg⟩ := fits
    rw [writeUpstream, writeHeadReport_eq]
    refine judge_sealed ?_
    simp [readUpstream, seat, readHeadReport_write low high arg]
  | printer r =>
    obtain ⟨seat, credit, copies, unheld⟩ := fits
    rw [writeUpstream, writePrinterReport_eq]
    refine judge_sealed ?_
    simp [readUpstream, seat, readPrinterReport_write credit copies unheld]
  | dispenser c =>
    refine judge_sealed ?_
    simp [readUpstream, show slotClass i = .dispenser from fits, readDispenserReport]

end Sys2Proof.Machine
end

section
/-! SUPPORT. A good HEAD_REPORT (R179, R187 to R189): what each of its parts writes, and the settlement of the report. -/

namespace Sys2Proof.Machine

variable {h : Head} {s : State}

theorem onSlot_onSlot (i : Slot) (f g : SlotLink → SlotLink) (s : State) :
    onSlot i f (onSlot i g s) = onSlot i (fun l => f (g l)) s := by
  simp only [onSlot, Table.change_change]

/-! ### What a report writes -/

/-- The parts of a report handed on, the record of them, and the slot that carried it. -/
def reported (h : Head) (handed : Inbox → Inbox) (record : HeadLink → HeadLink) (slot : SlotLink → SlotLink)
    (s : State) : State := onInbox h handed (onHeadLink h record (onSlot (headSlot h) slot s))

theorem reported_reported (b₁ b₂ : Inbox → Inbox) (l₁ l₂ : HeadLink → HeadLink) (e₁ e₂ : SlotLink → SlotLink) :
    reported h b₂ l₂ e₂ (reported h b₁ l₁ e₁ s)
      = reported h (fun b => b₂ (b₁ b)) (fun l => l₂ (l₁ l)) (fun l => e₂ (e₁ l)) s := by
  simp only [reported, onInbox, onHeadLink, onSlot, Table.change_change]

@[simp] theorem headLink_reported (b : Inbox → Inbox) (l : HeadLink → HeadLink) (e : SlotLink → SlotLink) :
    headLink h (reported h b l e s) = l (headLink h s) := headLink_onHeadLink_same ..

@[simp] theorem slotLink_reported (b : Inbox → Inbox) (l : HeadLink → HeadLink) (e : SlotLink → SlotLink) :
    slotLink (headSlot h) (reported h b l e s) = e (slotLink (headSlot h) s) := slotLink_onSlot_same ..

theorem reported_congr {b b' : Inbox → Inbox} {l l' : HeadLink → HeadLink} {e e' : SlotLink → SlotLink}
    (handed : b (inbox h s) = b' (inbox h s)) (record : l (headLink h s) = l' (headLink h s))
    (slot : e (slotLink (headSlot h) s) = e' (slotLink (headSlot h) s)) : reported h b l e s = reported h b' l' e' s := by
  simp only [inbox, headLink, slotLink] at handed record slot
  simp only [reported, onInbox, onHeadLink, onSlot, Table.change, handed, record, slot]

theorem reported_self : reported h (fun b => b) (fun l => l) (fun l => l) s = s := by
  simp only [reported, onInbox, onHeadLink, onSlot, Table.change_id]

/-! ### Error counts (R192) -/

/-- An error count raised by `n`, saturating. -/
def raised (n e : Nat) : Nat := if n = 0 then e else min (e + n) 65535

theorem raised_raised (m n e : Nat) : raised n (raised m e) = raised (m + n) e := by
  unfold raised
  split <;> split <;> split <;> omega

theorem countError_enabled {i : Slot} (enabled : presence i s ≠ .disabled) :
    countError i s = onSlot i (fun l => { l with errors := raised 1 l.errors }) s := by
  rw [countError, if_neg (by simpa using enabled)]
  rfl

theorem countError_reported (enabled : presence (headSlot h) s ≠ .disabled) : countError (headSlot h) s
    = reported h (fun b => b) (fun l => l) (fun l => { l with errors := raised 1 l.errors }) s := by
  rw [countError_enabled enabled, reported, onHeadLink, onInbox, Table.change_id, Table.change_id]

/-! ### The key event (R187, R188) -/

/-- The key handed on, the serial then accepted and the errors counted, where `old` is the serial accepted before. -/
def keyJudged (old : Option (BitVec 4)) : Option WireKey → List KeyEvent × Option (BitVec 4) × Nat
  | none => ([], old, 0)
  | some k =>
    if old = some k.serial then ([], old, 0)
    else match keyOfCode k.kind with
      | some kind => if k.arg ≤ 999999 then ([⟨kind, k.arg⟩], some k.serial, 0) else ([], some k.serial, 1)
      | none => ([], some k.serial, 1)

/-- The key event of a report taken, where there is one. -/
def takeKeyPart (h : Head) : Option WireKey → State → State
  | some k => takeKeyEvent h k
  | none => id

theorem takeKeyPart_eq {key : Option WireKey} (enabled : presence (headSlot h) s ≠ .disabled) {keys : List KeyEvent}
    {serial : Option (BitVec 4)} {bad : Nat} (judged : keyJudged (headLink h s).serial key = (keys, serial, bad)) :
    takeKeyPart h key s = reported h (fun b => { b with keys := b.keys ++ keys }) (fun l => { l with serial := serial })
      (fun l => { l with errors := raised bad l.errors }) s := by
  cases key with
  | none =>
    cases judged
    exact reported_self.symm.trans (reported_congr (by simp) rfl rfl)
  | some k =>
    have accepted : onHeadLink h (fun l => { l with serial := some k.serial }) s
        = reported h (fun b => b) (fun l => { l with serial := some k.serial }) (fun l => l) s := by
      simp only [reported, onInbox, onSlot, Table.change_id]
    have counted : countError (headSlot h) (onHeadLink h (fun l => { l with serial := some k.serial }) s)
        = reported h (fun b => { b with keys := b.keys ++ [] }) (fun l => { l with serial := some k.serial })
          (fun l => { l with errors := raised 1 l.errors }) s := by
      rw [countError_reported (s := onHeadLink h _ s) enabled, accepted, reported_reported]
      exact reported_congr (by simp) rfl rfl
    unfold keyJudged at judged
    unfold takeKeyPart takeKeyEvent
    dsimp only at judged ⊢
    split at judged
    next seen =>
      cases judged
      rw [if_pos (by simp [seen])]
      exact reported_self.symm.trans (reported_congr (by simp) rfl rfl)
    next new =>
      rw [if_neg (by simpa using new)]
      revert judged
      cases keyOfCode k.kind with
      | none =>
        intro judged
        cases judged
        exact counted
      | some kind =>
        dsimp only
        by_cases within : k.arg ≤ 999999
        · rw [if_pos within]
          intro judged
          cases judged
          refine (if_pos (show k.arg ≤ Config.itemNumberLimit from within)).trans ?_
          simp only [reported, raised, if_true, onSlot, Table.change_id]
        · rw [if_neg within]
          intro judged
          cases judged
          exact (if_neg (show ¬k.arg ≤ Config.itemNumberLimit from within)).trans counted

/-! ### The acknowledgement (R188, R189) -/

/-- The acknowledgement handed on, the one then recorded and the errors counted, where `old` is the one recorded
before. -/
def ackJudged (old : Option Ack) : Option WireAck → List Ack × Option Ack × Nat
  | none => ([], old, 0)
  | some a =>
    if fits : a.slot.toNat < 16 then ([⟨⟨a.slot.toNat, fits⟩, a.version⟩], some ⟨⟨a.slot.toNat, fits⟩, a.version⟩, 0)
    else ([], old, 1)

/-- The acknowledgement of a report taken, where there is one. -/
def takeAckPart (h : Head) : Option WireAck → State → State
  | some a => takeWireAck h a
  | none => id

theorem takeAckPart_eq {sent : Option WireAck} (enabled : presence (headSlot h) s ≠ .disabled) {acks : List Ack}
    {ack : Option Ack} {bad : Nat} (judged : ackJudged (headLink h s).ack sent = (acks, ack, bad)) :
    takeAckPart h sent s = reported h (fun b => { b with acks := b.acks ++ acks }) (fun l => { l with ack := ack })
      (fun l => { l with errors := raised bad l.errors }) s := by
  cases sent with
  | none =>
    cases judged
    exact reported_self.symm.trans (reported_congr (by simp) rfl rfl)
  | some a =>
    unfold ackJudged at judged
    unfold takeAckPart takeWireAck
    dsimp only at judged ⊢
    split at judged
    next fits =>
      cases judged
      simp only [index?, dif_pos fits]
      simp only [reported, raised, if_true, onSlot, Table.change_id]
    next beyond =>
      cases judged
      simp only [index?, dif_neg beyond]
      rw [countError_reported enabled]
      exact reported_congr (by simp) rfl rfl

/-! ### The three parts together (R179) -/

theorem handHead_parts (r : HeadReport) : handHead h r s
    = takeAckPart h r.ack (takeKeyPart h r.key (onInbox h (fun b => { b with samples := b.samples ++ [r.raw] }) s)) := by
  obtain ⟨raw, key, ack⟩ := r
  cases key <;> cases ack <;> rfl

theorem handHead_eq (r : HeadReport) (enabled : presence (headSlot h) s ≠ .disabled) {keys : List KeyEvent}
    {acks : List Ack} {serial : Option (BitVec 4)} {ack : Option Ack} {badKey badAck : Nat}
    (keyed : keyJudged (headLink h s).serial r.key = (keys, serial, badKey))
    (acked : ackJudged (headLink h s).ack r.ack = (acks, ack, badAck)) :
    handHead h r s = reported h (fun b => ⟨b.samples ++ [r.raw], b.keys ++ keys, b.acks ++ acks⟩)
      (fun l => { l with serial := serial, ack := ack })
      (fun l => { l with errors := raised (badKey + badAck) l.errors }) s := by
  have sampled : onInbox h (fun b => { b with samples := b.samples ++ [r.raw] }) s
      = reported h (fun b => { b with samples := b.samples ++ [r.raw] }) (fun l => l) (fun l => l) s := by
    simp only [reported, onHeadLink, onSlot, Table.change_id]
  have keyTaken := takeKeyPart_eq (s := onInbox h (fun b => { b with samples := b.samples ++ [r.raw] }) s) enabled keyed
  rw [sampled, reported_reported] at keyTaken
  rw [handHead_parts, sampled, keyTaken, takeAckPart_eq (by simpa [presence] using enabled) (by simpa using acked),
    reported_reported]
  exact reported_congr rfl rfl (by simp [raised_raised])

/-! ### The report at its slot (R6, R181, R182) -/

section
variable {part : List Byte} {r : HeadReport} (good : judge (headSlot h) part = .good (.head r))
include good

/-- A slot that is masked, or whose head has not joined, takes no report. -/
theorem upstreamPart_head_unseated
    (off : presence (headSlot h) s = .absent ∨ presence (headSlot h) s = .disabled) :
    upstreamPart (headSlot h) (some part) s = s := by
  obtain off | off := off <;> simp [upstreamPart, off, judgePart, good, takeGood, takeReport]

/-- The channel as the report of its head finds it: one that joins starts weighing. -/
def channelSeated (h : Head) (s : State) : State := onChan h (fun c =>
  if presence (headSlot h) s = .joining ∧ role h s ≠ .disabled ∧ c.state = .idle then { c with state := .settling }
  else c) s

omit good in
theorem channelOnline_eq (joins : presence (headSlot h) s = .joining) :
    channelOnline h (setPresence (headSlot h) .online s) = setPresence (headSlot h) .online (channelSeated h s) := by
  unfold channelOnline channelSeated
  by_cases disabled : role h s = .disabled
  · rw [if_pos (by exact beq_iff_eq.2 disabled), onChan_same (by simp [disabled])]
  · rw [if_neg (by exact fun e => disabled (beq_iff_eq.1 e))]
    exact onChan_congr (by simp [startSettling_eq, joins, disabled])

theorem upstreamPart_head_seated (joined : presence (headSlot h) s ≠ .absent)
    (enabled : presence (headSlot h) s ≠ .disabled) :
    upstreamPart (headSlot h) (some part) s = handHead h r (setPresence (headSlot h) .online (channelSeated h s)) := by
  have handed (first : Bool) (x : State) :
      handOn (headSlot h) first (.head r) x = handHead h r (if first then channelOnline h x else x) := by
    simp only [handOn, slotHead_headSlot]
  have served (on : presence (headSlot h) s ≠ .joining) : channelSeated h s = s := onChan_same (by simp [on])
  simp only [upstreamPart, beq_iff_eq, if_neg enabled, judgePart, good, takeGood, takeReport, handed]
  cases stands : presence (headSlot h) s with
  | absent => exact absurd stands joined
  | disabled => exact absurd stands enabled
  | joining => exact congrArg (handHead h r) (channelOnline_eq stands)
  | online | silent => rw [served (by simp [stands])]; rfl

end

/-- Settles O49: the report reaches its head, and its three parts are taken one after another. -/
theorem headReportHandsItsParts : Obligations.HeadReportHandsItsParts := by
  rintro h part r s old keys acks serial ack badKey badAck low good rfl keyed acked
  refine ⟨fun off => takes_unchanged low (upstreamPart_head_unseated good off), fun joined enabled => ?_⟩
  have keyJudgedEq : keyJudged (headLink h s).serial r.key = (keys, serial, badKey) := by
    rw [keyed]
    cases r.key <;> rfl
  have ackJudgedEq : ackJudged (headLink h s).ack r.ack = (acks, ack, badAck) := by
    rw [acked]
    cases r.ack <;> rfl
  obtain ⟨t, ht, behindT⟩ := takes_high_behind (upstreamPart (headSlot h) (some part)) low
  refine ⟨t, ht, ?_⟩
  have online : presence (headSlot h) (setPresence (headSlot h) .online (channelSeated h s)) ≠ .disabled := by
    simp [presence_setPresence]
  have counts (e : Nat) : raised (badKey + badAck) e
      = if badKey + badAck = 0 then e else min (e + badKey + badAck) 65535 := by rw [raised, Nat.add_assoc]
  rw [upstreamPart_head_seated good joined enabled, handHead_eq r online keyJudgedEq ackJudgedEq, reported,
    setPresence] at behindT
  simp only [counts] at behindT
  rwa [onSlot_onSlot] at behindT

end Sys2Proof.Machine
end

section
/-! SUPPORT. Devices lost (R184): how the losses of one event compose. -/

namespace Sys2Proof.Machine

variable {s t u : State} {lost first second : Slot → Bool}

/-! ### The watch and the slots of the heads -/

theorem headSlot_injective {a b : Head} : headSlot a = headSlot b ↔ a = b := by
  constructor
  · intro e
    have val := congrArg Fin.val e
    exact Fin.ext val
  · rintro rfl
    rfl

theorem watchMet_eq_false : watchMet s = false
    ↔ ∃ g, onLink (headSlot g) s = true ∧ ∃ e ∈ (copies g s).entries, e.state ≠ .current := by
  rw [← Bool.not_eq_true, watchMet_iff]
  simp

/-! ### States that agree in what a loss reaches -/

/-- `t` agrees with `u` in all that a loss can reach; of the slots, in which heads stand on the link. -/
structure DevicesKept (u t : State) : Prop where
  weighing : t.wge.pairs = u.wge.pairs ∧ t.wge.settings = u.wge.settings
  chans : ∀ h, chan h t = chan h u
  contexts : t.hsu.heads = u.hsu.heads ∧ t.hsu.signOn = u.hsu.signOn
  blocks : t.itb = u.itb ∧ t.ccu = u.ccu ∧ t.snu = u.snu ∧ t.tkp = u.tkp ∧ t.lbc = u.lbc ∧ t.tot = u.tot
  pins : t.port = u.port ∧ t.sdo = u.sdo
  links : t.lnk.heads = u.lnk.heads
  seats : ∀ g, onLink (headSlot g) t = onLink (headSlot g) u

theorem DevicesKept.watchMet (kept : DevicesKept u t) : watchMet t = watchMet u := by
  obtain ⟨-, ccu, -⟩ := kept.blocks
  simp [Machine.watchMet, kept.seats, copies, ccu]

/-- A change of a slot that leaves whether its device stands on the link. -/
theorem devicesKept_onSlot {i : Slot} {f : SlotLink → SlotLink} (seat : onLink i (onSlot i f s) = onLink i s) :
    DevicesKept s (onSlot i f s) := by
  refine ⟨⟨rfl, rfl⟩, fun _ => rfl, ⟨rfl, rfl⟩, ⟨rfl, rfl, rfl, rfl, rfl, rfl⟩, ⟨rfl, rfl⟩, rfl, fun g => ?_⟩
  by_cases own : headSlot g = i
  · rw [own, seat]
  · simp [onLink, presence, own]

theorem LostDevice.congr {i : Slot} (loss : LostDevice i s u) (kept : DevicesKept u t) : LostDevice i s t := by
  obtain ⟨-, settingsEq⟩ := kept.weighing
  obtain ⟨heads, signOn⟩ := kept.contexts
  obtain ⟨-, ccu, snu, tkp, lbc, -⟩ := kept.blocks
  obtain ⟨port, -⟩ := kept.pins
  constructor
  · simpa only [ctx, kept.chans, settings, copies, headLink, heads, settingsEq, ccu, kept.links, port] using loss.head
  · simpa only [signedOnAt, signOn] using loss.operator
  · simpa only [Machine.ticket, tkp] using loss.ticket
  · simpa only [snu] using loss.number
  · simpa only [Machine.printer, queue, lbc, port] using loss.printer
  · simpa only [snu, port] using loss.dispenser

theorem LossesTaken.congr (loss : LossesTaken lost s u) (kept : DevicesKept u t) : LossesTaken lost s t := by
  obtain ⟨pairs, settingsEq⟩ := kept.weighing
  obtain ⟨heads, signOn⟩ := kept.contexts
  obtain ⟨itb, ccu, snu, tkp, lbc, tot⟩ := kept.blocks
  obtain ⟨port, sdo⟩ := kept.pins
  constructor
  · exact fun i gone => (loss.devices i gone).congr kept
  · simpa only [ctx, kept.chans, copies, headLink, heads, ccu, kept.links] using loss.heads
  · simpa only [pairs, settingsEq] using loss.weighing
  · simpa only [signedOnAt, signOn] using loss.signOn
  · simpa only [ticket, tkp] using loss.tickets
  · simpa only [tkp] using loss.collection
  · simpa only [snu] using loss.skipped
  · simpa only [snu] using loss.numbers
  · simpa only [printer, lbc] using loss.printers
  · simpa only [lbc] using loss.labels
  · rw [← watchMet_eq_false, kept.watchMet, watchMet_eq_false, ccu]
    exact loss.watch
  · simpa only [port, ccu] using loss.flags
  · simpa only [port] using loss.headFlags
  · simpa only [port] using loss.printerFlags
  · simpa only [itb, tot, sdo] using loss.rest

/-- An event that loses nothing. -/
theorem lossesTaken_refl (s : State) : LossesTaken (fun _ => false) s s := by
  constructor <;> simp [parkedBy]

/-! ### One loss behind another -/

theorem LossesTaken.ctx_eq (loss : LossesTaken lost s t) (h : Head) :
    ctx h t = if lost (headSlot h) then offCtx else ctx h s := by
  split
  next gone => exact ((loss.devices _ gone).head h rfl).1
  next stays => exact (loss.heads h (by simpa using stays)).1

theorem LossesTaken.operator_eq (loss : LossesTaken lost s t) (h : Head) :
    (ctx h t).operator = if lost (headSlot h) then none else (ctx h s).operator := by
  rw [loss.ctx_eq]
  split <;> rfl

theorem LossesTaken.held_eq (loss : LossesTaken lost s t) (h : Head) :
    (ctx h t).held = if lost (headSlot h) then none else (ctx h s).held := by
  rw [loss.ctx_eq]
  split <;> rfl

theorem LossesTaken.returnsNumber_eq (loss : LossesTaken lost s t) (h : Head) :
    returnsNumber h t = (!lost (headSlot h) && returnsNumber h s) := by
  rw [returnsNumber, loss.ctx_eq]
  cases lost (headSlot h) <;> rfl

theorem any_or_any {α : Type} (p q : α → Bool) (xs : List α) :
    (xs.any p || xs.any q) = xs.any fun x => p x || q x := by
  induction xs with
  | nil => rfl
  | cons x xs ih =>
    rw [List.any_cons, List.any_cons, List.any_cons, ← ih]
    ac_rfl

/-- Two events park what either parks. -/
theorem LossesTaken.parkedBy_or (loss : LossesTaken first s u) (k : TicketSlot) :
    parkedBy (fun h => first (headSlot h) || second (headSlot h)) k s
      = (parkedBy (fun h => first (headSlot h)) k s || parkedBy (fun h => second (headSlot h)) k u) := by
  simp only [parkedBy, any_or_any, loss.operator_eq, loss.held_eq]
  congr 1
  funext h
  cases first (headSlot h) <;> simp

theorem LossesTaken.signedOff_or (loss : LossesTaken first s u) (n : Operator) :
    (allHeads.any fun h => (first (headSlot h) || second (headSlot h)) && (ctx h s).operator == some n)
      = ((allHeads.any fun h => first (headSlot h) && (ctx h s).operator == some n)
        || allHeads.any fun h => second (headSlot h) && (ctx h u).operator == some n) := by
  simp only [any_or_any, loss.operator_eq]
  congr 1
  funext h
  cases first (headSlot h) <;> simp

/-- A device lost before stays lost. -/
theorem LossesTaken.device_before (before : LossesTaken first s u) (loss : LossesTaken second u t)
    (front : u.snu.waiting <:+ t.snu.waiting) {i : Slot} (gone : first i = true) : LostDevice i s t := by
  have device := before.devices i gone
  obtain ⟨-, settingsEq⟩ := loss.weighing
  constructor
  · rintro h rfl
    cases again : second (headSlot h) with
    | true => exact (loss.devices _ again).head h rfl
    | false =>
      obtain ⟨ctxU, chanU, copiesU, linkU, flagU⟩ := device.head h rfl
      obtain ⟨ctxT, chanT, copiesT, linkT⟩ := loss.heads h again
      refine ⟨ctxT.trans ctxU, ?_, copiesT.trans copiesU, linkT.trans linkU, by rw [loss.headFlags, flagU]; rfl⟩
      rw [chanT, chanU, settings, settings, settingsEq]
  · rintro h op rfl signed
    rw [loss.signOn, device.operator h op rfl signed, ite_self]
  · rintro h id rfl signed held
    rw [loss.tickets, device.ticket h id rfl signed held, ite_self]
  · rintro h n rfl signed serves
    obtain ⟨listed, unmarked⟩ := device.number h n rfl signed serves
    exact ⟨front.mem listed, by rw [loss.skipped, unmarked]; rfl⟩
  · rintro p rfl
    obtain ⟨printerU, queueU, flagU⟩ := device.printer p rfl
    refine ⟨by rw [loss.printers, printerU, ite_self], ?_, by rw [loss.printerFlags, flagU]; rfl⟩
    rw [queue, loss.labels]
    exact queueU
  · rintro rfl
    obtain ⟨counterU, issuedU, fullU, flagU⟩ := device.dispenser rfl
    rw [loss.numbers, loss.flags]
    simp [counterU, issuedU, fullU, flagU]

/-- A device lost only now stood at its slot as the first event found it. -/
theorem LossesTaken.device_behind (before : LossesTaken first s u) (loss : LossesTaken second u t) {i : Slot}
    (stays : first i = false) (gone : second i = true) : LostDevice i s t := by
  have device := loss.devices i gone
  constructor
  · exact device.head
  · rintro h op rfl signed
    exact device.operator h op rfl (by rw [before.operator_eq, stays]; exact signed)
  · rintro h id rfl signed held
    have ticketU := before.tickets id.slot
    rw [device.ticket h id rfl (by rw [before.operator_eq, stays]; exact signed)
      (by rw [before.held_eq, stays]; exact held), ticketU]
    split <;> rfl
  · rintro h n rfl signed serves
    obtain ⟨ctxU, -⟩ := before.heads h stays
    have marked : u.snu.skipped.look h = s.snu.skipped.look h := by rw [before.skipped, stays]; simp
    rw [← marked]
    exact device.number h n rfl (by rwa [ctxU]) (by rwa [ctxU])
  · rintro p rfl
    obtain ⟨printerT, queueT, flagT⟩ := device.printer p rfl
    refine ⟨printerT, queueT.trans ?_, flagT⟩
    rw [queue, before.labels]
    rfl
  · exact device.dispenser

/-- After a further loss the watch is missed where it was missed before at a head that stays. -/
theorem LossesTaken.watchMet_eq_false (loss : LossesTaken lost u t)
    (seats : ∀ g, onLink (headSlot g) t = (onLink (headSlot g) u && !lost (headSlot g))) : watchMet t = false
    ↔ ∃ g, lost (headSlot g) = false ∧ onLink (headSlot g) u = true ∧ ∃ e ∈ (copies g u).entries, e.state ≠ .current := by
  rw [Machine.watchMet_eq_false]
  refine exists_congr fun g => ?_
  rw [seats]
  cases gone : lost (headSlot g) with
  | true => simp
  | false =>
    obtain ⟨-, -, copiesT, -⟩ := loss.heads g gone
    simp [copiesT]

/-- The watch examined behind two events: what the first found met stays met. -/
theorem LossesTaken.watch_trans (before : LossesTaken first s u) (loss : LossesTaken second u t)
    (seats : ∀ g, onLink (headSlot g) t = (onLink (headSlot g) u && !second (headSlot g))) : t.ccu.armed = true
    ↔ s.ccu.armed = true ∧ ((∀ h, (first (headSlot h) || second (headSlot h)) = false) ∨ watchMet t = false) := by
  have back (missed : watchMet t = false) : watchMet u = false := by
    obtain ⟨g, -, on, entry⟩ := (loss.watchMet_eq_false seats).1 missed
    exact Machine.watchMet_eq_false.2 ⟨g, on, entry⟩
  have forth (none : ∀ h, second (headSlot h) = false) (missed : watchMet u = false) : watchMet t = false := by
    obtain ⟨g, on, entry⟩ := Machine.watchMet_eq_false.1 missed
    exact (loss.watchMet_eq_false seats).2 ⟨g, none g, on, entry⟩
  have armedT := loss.watch
  have armedU := before.watch
  rw [← Machine.watchMet_eq_false] at armedT armedU
  rw [armedT, armedU]
  simp only [Bool.or_eq_false_iff, forall_and]
  tauto

/-- The losses of two events, one behind the other. -/
theorem LossesTaken.trans (before : LossesTaken first s u) (loss : LossesTaken second u t)
    (seats : ∀ g, onLink (headSlot g) t = (onLink (headSlot g) u && !second (headSlot g)))
    (front : u.snu.waiting <:+ t.snu.waiting) : LossesTaken (fun i => first i || second i) s t := by
  have armed := before.watch_trans loss seats
  constructor
  case devices =>
    intro i gone
    cases lost : first i with
    | true => exact before.device_before loss front lost
    | false =>
      rw [lost] at gone
      exact before.device_behind loss lost gone
  case heads =>
    intro h stays
    obtain ⟨one, two⟩ := Bool.or_eq_false_iff.1 stays
    obtain ⟨ctxU, chanU, copiesU, linkU⟩ := before.heads h one
    obtain ⟨ctxT, chanT, copiesT, linkT⟩ := loss.heads h two
    exact ⟨ctxT.trans ctxU, chanT.trans chanU, copiesT.trans copiesU, linkT.trans linkU⟩
  case weighing =>
    obtain ⟨pairsU, settingsU⟩ := before.weighing
    obtain ⟨pairsT, settingsT⟩ := loss.weighing
    exact ⟨pairsT.trans pairsU, settingsT.trans settingsU⟩
  case signOn =>
    intro n
    rw [loss.signOn, before.signOn, before.signedOff_or]
    split <;> split <;> simp_all
  case tickets =>
    intro k
    rw [loss.tickets, before.tickets, before.parkedBy_or]
    split <;> split <;> simp_all
  case collection => exact loss.collection.trans before.collection
  case skipped =>
    intro h
    rw [loss.skipped, before.skipped, before.returnsNumber_eq]
    cases first (headSlot h) <;> simp
  case numbers =>
    rw [loss.numbers, before.numbers]
    simp only [Snu.mk.injEq, true_and]
    cases first dispenserSlot <;> simp
  case printers =>
    intro p
    rw [loss.printers, before.printers]
    cases first (printerSlot p) <;> simp
  case labels =>
    rw [loss.labels, before.labels]
  case watch => rwa [← Machine.watchMet_eq_false]
  case flags =>
    have disarmed : (t.ccu.armed → u.ccu.armed) ∧ (u.ccu.armed → s.ccu.armed) :=
      ⟨fun on => (loss.watch.1 on).1, fun on => (before.watch.1 on).1⟩
    rw [loss.flags, before.flags]
    simp only [Port.mk.injEq, Latched.mk.injEq, true_and, and_true, Bool.or_assoc]
    congr 1
    revert disarmed
    cases s.ccu.armed <;> cases u.ccu.armed <;> cases t.ccu.armed <;> decide
  case headFlags =>
    intro h
    rw [loss.headFlags, before.headFlags, Bool.or_assoc]
  case printerFlags =>
    intro p
    rw [loss.printerFlags, before.printerFlags, Bool.or_assoc]
  case rest =>
    obtain ⟨itbU, totU, sdoU⟩ := before.rest
    obtain ⟨itbT, totT, sdoT⟩ := loss.rest
    exact ⟨itbT.trans itbU, totT.trans totU, sdoT.trans sdoU⟩

/-! ### Numbers returned (R101) -/

/-- The number that head `h` returns when it is signed off, with its mark. -/
def returnedAt (s : State) (h : Head) : Option WaitEntry :=
  match (ctx h s).operator, (ctx h s).nowServing with
  | some _, some n => some ⟨n, s.snu.skipped.look h⟩
  | _, _ => none

theorem returnedNumbers_eq (gone : Head → Bool) (s : State) :
    returnedNumbers gone s = (allHeads.filter gone).filterMap (returnedAt s) := by
  rw [List.filterMap_filter, returnedNumbers]
  refine List.filterMap_congr fun h _ => ?_
  unfold returnedAt
  cases gone h with
  | false => rfl
  | true => cases (ctx h s).operator <;> cases (ctx h s).nowServing <;> rfl

theorem filter_or_of_lt {p q : Head → Bool} (below : ∀ g h, p h = true → q g = true → g < h) : ∀ {xs : List Head},
    xs.Pairwise (· < ·) → xs.filter (fun h => p h || q h) = xs.filter q ++ xs.filter p
  | [], _ => rfl
  | x :: xs, sorted => by
    obtain ⟨least, sorted⟩ := List.pairwise_cons.1 sorted
    have rest := filter_or_of_lt below sorted
    cases hp : p x with
    | false => cases hq : q x <;> simp [hp, hq, rest]
    | true =>
      have notQ : q x = false := by
        rw [← Bool.not_eq_true]
        exact fun hq => lt_irrefl x (below x x hp hq)
      have none : xs.filter q = [] := List.filter_eq_nil_iff.2 fun y mem hq => lt_asymm (least y mem) (below y x hp hq)
      simp [hp, notQ, rest, none]

/-- A head that the first event leaves returns what it would have returned before. -/
theorem LossesTaken.returnedNumbers_stays (before : LossesTaken first s u) {p : Head → Bool}
    (stays : ∀ h, p h = true → first (headSlot h) = false) : returnedNumbers p u = returnedNumbers p s := by
  rw [returnedNumbers_eq, returnedNumbers_eq]
  refine List.filterMap_congr fun h mem => ?_
  have kept := stays h (List.mem_filter.1 mem).2
  obtain ⟨ctxU, -⟩ := before.heads h kept
  rw [returnedAt, returnedAt, ctxU, before.skipped, kept]
  simp

/-- The numbers of two events of which the second reaches lower heads only. -/
theorem LossesTaken.returnedNumbers_or (before : LossesTaken first s u)
    (below : ∀ g h, first (headSlot h) = true → second (headSlot g) = true → g < h) :
    returnedNumbers (fun h => first (headSlot h) || second (headSlot h)) s
      = returnedNumbers (fun h => second (headSlot h)) u ++ returnedNumbers (fun h => first (headSlot h)) s := by
  have stays (h : Head) (goes : second (headSlot h) = true) : first (headSlot h) = false := by
    rw [← Bool.not_eq_true]
    exact fun gone => lt_irrefl h (below h h gone goes)
  rw [before.returnedNumbers_stays stays]
  simp only [returnedNumbers_eq]
  rw [filter_or_of_lt below (by decide), List.filterMap_append]

/-! ### The losses of one event, in descending order of slots -/

/-- What a run of losses leaves beside the devices: which heads stand on the link, the waiting list, and the rest of the
Link Controller. -/
structure Losing (lost : Slot → Bool) (s t : State) : Prop extends LossesTaken lost s t where
  seats : ∀ g, onLink (headSlot g) t = (onLink (headSlot g) s && !lost (headSlot g))
  waiting : t.snu.waiting = returnedNumbers (fun h => lost (headSlot h)) s ++ s.snu.waiting
  link : t.lnk = { s.lnk with slots := t.lnk.slots, heads := t.lnk.heads } ∧ t.hand = s.hand ∧ t.down = s.down

theorem Losing.trans (before : Losing first s u) (loss : Losing second u t)
    (below : ∀ g h, first (headSlot h) = true → second (headSlot g) = true → g < h) :
    Losing (fun i => first i || second i) s t where
  toLossesTaken := before.toLossesTaken.trans loss.toLossesTaken loss.seats ⟨_, loss.waiting.symm⟩
  seats g := by
    rw [loss.seats, before.seats]
    cases first (headSlot g) <;> simp
  waiting := by
    rw [loss.waiting, before.waiting, before.toLossesTaken.returnedNumbers_or below, List.append_assoc]
  link := by
    obtain ⟨linkU, handU, downU⟩ := before.link
    obtain ⟨linkT, handT, downT⟩ := loss.link
    exact ⟨by rw [linkT, linkU], handT.trans handU, downT.trans downU⟩

theorem losing_refl (s : State) : Losing (fun _ => false) s s where
  toLossesTaken := lossesTaken_refl s
  seats := by simp
  waiting := by simp [returnedNumbers]
  link := ⟨rfl, rfl, rfl⟩

/-- A change of a slot that leaves whether its device stands on the link loses nothing. -/
theorem losing_onSlot {i : Slot} {f : SlotLink → SlotLink} (seat : onLink i (onSlot i f s) = onLink i s) :
    Losing (fun _ => false) s (onSlot i f s) where
  toLossesTaken := (lossesTaken_refl s).congr (devicesKept_onSlot seat)
  seats g := by simpa using (devicesKept_onSlot seat).seats g
  waiting := by simp [returnedNumbers]
  link := ⟨rfl, rfl, rfl⟩

/-- One event at each slot of a descending run, where whether it loses the slot stands apart from the other slots. -/
theorem losing_foldl {f : Slot → State → State} {goes : Slot → State → Bool}
    (step : ∀ i v, Losing (fun j => j == i && goes i v) v (f i v))
    (apart : ∀ i j v, j ≠ i → goes j (f i v) = goes j v) : ∀ (is : List Slot) (s : State), is.Pairwise (· > ·) →
    Losing (fun j => decide (j ∈ is) && goes j s) s (is.foldl (fun v i => f i v) s)
  | [], s, _ => by simpa using losing_refl s
  | i :: is, s, sorted => by
    obtain ⟨greatest, sorted⟩ := List.pairwise_cons.1 sorted
    have run := (step i s).trans (losing_foldl step apart is (f i s) sorted) (by
      intro g h own listed
      simp only [Bool.and_eq_true, beq_iff_eq, decide_eq_true_eq] at own listed
      have lower := greatest _ listed.1
      rw [← own.1] at lower
      exact lower)
    rw [List.foldl_cons]
    convert run using 2
    next j =>
      by_cases own : j = i
      · subst own
        have past : j ∉ is := fun listed => lt_irrefl j (greatest j listed)
        simp [past]
      · simp [own, apart i j s own]

/-- One event at each slot of a run that writes that slot alone. -/
theorem slotLink_foldl {f : Slot → State → State} {g : Slot → SlotLink → SlotLink} {p : State → Prop}
    (step : ∀ i v, p v → p (f i v) ∧ ∀ j, slotLink j (f i v) = if j = i then g i (slotLink i v) else slotLink j v) :
    ∀ (is : List Slot) (s : State), is.Nodup → p s → ∀ j,
    slotLink j (is.foldl (fun v i => f i v) s) = if j ∈ is then g j (slotLink j s) else slotLink j s
  | [], s, _, _, j => by simp
  | i :: is, s, nodup, holds, j => by
    obtain ⟨new, nodup⟩ := List.nodup_cons.1 nodup
    obtain ⟨kept, written⟩ := step i s holds
    rw [List.foldl_cons, slotLink_foldl step is _ nodup kept, written]
    by_cases own : j = i
    · subst own
      simp [new]
    · simp [own]

end Sys2Proof.Machine
end

section
/-! SUPPORT. One device lost (R184): what the loss of a head, a printer or the dispenser leaves. -/

namespace Sys2Proof.Machine

variable {s : State}

/-! ### The three kinds of slot -/

theorem slot_kinds (i : Slot) : (∃ h, i = headSlot h) ∨ (∃ p, i = printerSlot p) ∨ i = dispenserSlot := by
  revert i
  decide

theorem printerSlot_injective {p q : Printer} : printerSlot p = printerSlot q ↔ p = q := by
  revert p q
  decide

@[simp] theorem headSlot_ne_printerSlot (h : Head) (p : Printer) : headSlot h ≠ printerSlot p := by
  revert h p
  decide

@[simp] theorem headSlot_ne_dispenserSlot (h : Head) : headSlot h ≠ dispenserSlot := by
  revert h
  decide

@[simp] theorem printerSlot_ne_dispenserSlot (p : Printer) : printerSlot p ≠ dispenserSlot := by
  revert p
  decide

@[simp] theorem slotHead_printerSlot (p : Printer) : slotHead (printerSlot p) = none := by
  simp [slotHead, printerSlot]

@[simp] theorem slotPrinter_printerSlot (p : Printer) : slotPrinter (printerSlot p) = some p := by
  revert p
  decide

/-- A question that one head alone can answer. -/
theorem any_own (h : Head) (q : Head → Bool) : (allHeads.any fun a => headSlot a == headSlot h && q a) = q h := by
  rw [Bool.eq_iff_iff, List.any_eq_true]
  simp [headSlot_injective, mem_allHeads]

/-! ### A context lost (R29, R36) -/

theorem loseContext_none {h : Head} (off : (ctx h s).operator = none) :
    loseContext h s = onCtx h (fun _ => offCtx) s := by
  rw [loseContext, signOff_none off]

theorem loseContext_some {h : Head} {op : Operator} (signed : (ctx h s).operator = some op) : loseContext h s
    = onCtx h (fun _ => offCtx)
      (setSignOn op none (numberBack h (ctx h s).nowServing (ticketBack (ctx h s).held s))) := by
  rw [loseContext, signOff_parts signed, onCtx_onCtx]

theorem ctx_loseContext (h a : Head) (s : State) : ctx a (loseContext h s) = if a = h then offCtx else ctx a s := by
  cases signed : (ctx h s).operator with
  | none => rw [loseContext_none signed, ctx_onCtx]
  | some op =>
    rw [loseContext_some signed, ctx_onCtx, ctx_setSignOn]
    cases (ctx h s).nowServing <;> cases (ctx h s).held <;> rfl

theorem signedOnAt_loseContext (h : Head) (n : Operator) (s : State) :
    signedOnAt n (loseContext h s) = if (ctx h s).operator = some n then none else signedOnAt n s := by
  rw [loseContext, signedOnAt_onCtx, signedOnAt_signOff]

theorem ticket_ticketBack (held : Option TicketId) (k : TicketSlot) (s : State) : ticket k (ticketBack held s)
    = if held.any (·.slot == k) then { ticket k s with state := .parked, holder := none, idle := 0 } else ticket k s := by
  cases held with
  | none => rfl
  | some id =>
    rw [ticketBack, parkRecord, ticket_onTicket]
    by_cases own : k = id.slot
    · simp [own]
    · simp [own, Ne.symm own]

theorem ticket_loseContext (h : Head) (k : TicketSlot) (s : State) : ticket k (loseContext h s)
    = if (ctx h s).operator.isSome && (ctx h s).held.any (·.slot == k) then
        { ticket k s with state := .parked, holder := none, idle := 0 }
      else ticket k s := by
  cases signed : (ctx h s).operator with
  | none => rw [loseContext_none signed]; rfl
  | some op =>
    have listed (v : State) : ticket k (numberBack h (ctx h s).nowServing v) = ticket k v := by
      cases (ctx h s).nowServing <;> rfl
    rw [loseContext_some signed, ticket_onCtx, ticket_setSignOn, listed, ticket_ticketBack]
    rfl

theorem collection_loseContext (h : Head) (s : State) : (loseContext h s).tkp.collection = s.tkp.collection := by
  cases signed : (ctx h s).operator with
  | none => rw [loseContext_none signed]; rfl
  | some op =>
    rw [loseContext_some signed]
    cases (ctx h s).nowServing <;> cases (ctx h s).held <;> rfl

theorem snu_loseContext (h : Head) (s : State) : (loseContext h s).snu = { s.snu with
    waiting := (returnedAt s h).toList ++ s.snu.waiting
    skipped := if returnsNumber h s then s.snu.skipped.put h false else s.snu.skipped } := by
  cases signed : (ctx h s).operator with
  | none => simp [loseContext_none signed, returnedAt, returnsNumber, signed]
  | some op =>
    have parked : (ticketBack (ctx h s).held s).snu = s.snu := by cases (ctx h s).held <;> rfl
    rw [loseContext_some signed, onCtx_snu, setSignOn_snu, ← parked]
    cases serves : (ctx h s).nowServing with
    | none => simp [returnedAt, returnsNumber, signed, serves, numberBack]
    | some n => simp [returnedAt, returnsNumber, signed, serves, numberBack, parked]

/-! ### A head lost (R184) -/

/-- Everything a head's loss writes but the watch. -/
def headEmptied (h : Head) (s : State) : State :=
  clearCopies h (recompose h (onChan h (fun _ => idleChannel (settings h s).z0)
    (loseContext h (flagHeadLost h (onHeadLink h (fun _ => resetHeadLink) s)))))

/-- The channel of a head whose context is lost goes to IDLE without an effect at its head. -/
theorem goIdle_emptied {h : Head} (emptied : ctx h s = offCtx) :
    goIdle h s = recompose h (onChan h (fun _ => idleChannel (settings h s).z0) s) := by
  have off : ctx h (onChan h (toIdle (settings h s)) s) = offCtx := emptied
  rw [goIdle, handResult_off (by rw [off]; rfl) (by rw [off]; rfl) Verdict.noConfusion]
  rfl

theorem ownersLose_headSlot (h : Head) (s : State) :
    ownersLose (headSlot h) s = examineWatch (headEmptied h s) := by
  have emptied : ctx h (loseContext h (flagHeadLost h (onHeadLink h (fun _ => resetHeadLink) s))) = offCtx := by
    rw [ctx_loseContext, if_pos rfl]
  simp only [ownersLose, slotHead_headSlot]
  rw [goIdle_emptied emptied, headEmptied, settings, (loseContext_frame ..).2.2.2.2.2.1]
  rfl

theorem ownersLose_printerSlot (p : Printer) (s : State) :
    ownersLose (printerSlot p) s = printerOffline p (flagPrinterLost p s) := by
  simp only [ownersLose, slotHead_printerSlot, slotPrinter_printerSlot]

theorem ownersLose_dispenserSlot (s : State) : ownersLose dispenserSlot s = dispenserGone (flagDispenserLost s) := rfl

section
variable (h a : Head) (s : State)

theorem ctx_headEmptied : ctx a (headEmptied h s) = if a = h then offCtx else ctx a s :=
  ctx_loseContext h a (flagHeadLost h (onHeadLink h (fun _ => resetHeadLink) s))

theorem wge_headEmptied : (headEmptied h s).wge = (onChan h (fun _ => idleChannel (settings h s).z0) s).wge := by
  have kept : (loseContext h (flagHeadLost h (onHeadLink h (fun _ => resetHeadLink) s))).wge = s.wge := by simp
  rw [onChan, ← kept]
  rfl

theorem chan_headEmptied :
    chan a (headEmptied h s) = if a = h then idleChannel (settings h s).z0 else chan a s := by
  rw [chan, wge_headEmptied]
  exact chan_onChan ..

theorem ccu_headEmptied : (headEmptied h s).ccu = (onCopies h (fun _ => emptyCopies) s).ccu := by
  have kept : (loseContext h (flagHeadLost h (onHeadLink h (fun _ => resetHeadLink) s))).ccu = s.ccu := by simp
  rw [onCopies, ← kept]
  rfl

theorem copies_headEmptied : copies a (headEmptied h s) = if a = h then emptyCopies else copies a s := by
  rw [copies, ccu_headEmptied]
  exact copies_onCopies ..

theorem lnk_headEmptied : (headEmptied h s).lnk = (onHeadLink h (fun _ => resetHeadLink) s).lnk := by
  simp [headEmptied]

theorem headLink_headEmptied : headLink a (headEmptied h s) = if a = h then resetHeadLink else headLink a s := by
  rw [headLink, lnk_headEmptied]
  exact headLink_onHeadLink ..

theorem port_headEmptied : (headEmptied h s).port = (flagHeadLost h s).port := by
  simp only [headEmptied, clearCopies_frame, recompose_port, onChan_port, loseContext_frame]
  rfl

theorem signedOnAt_headEmptied (n : Operator) :
    signedOnAt n (headEmptied h s) = if (ctx h s).operator = some n then none else signedOnAt n s :=
  signedOnAt_loseContext h n (flagHeadLost h (onHeadLink h (fun _ => resetHeadLink) s))

theorem ticket_headEmptied (k : TicketSlot) : ticket k (headEmptied h s)
    = if (ctx h s).operator.isSome && (ctx h s).held.any (·.slot == k) then
        { ticket k s with state := .parked, holder := none, idle := 0 }
      else ticket k s :=
  ticket_loseContext h k (flagHeadLost h (onHeadLink h (fun _ => resetHeadLink) s))

theorem snu_headEmptied : (headEmptied h s).snu = { s.snu with
    waiting := (returnedAt s h).toList ++ s.snu.waiting
    skipped := if returnsNumber h s then s.snu.skipped.put h false else s.snu.skipped } :=
  snu_loseContext h (flagHeadLost h (onHeadLink h (fun _ => resetHeadLink) s))

theorem blocks_headEmptied : (headEmptied h s).tkp.collection = s.tkp.collection ∧ (headEmptied h s).lbc = s.lbc
    ∧ (headEmptied h s).itb = s.itb ∧ (headEmptied h s).tot = s.tot ∧ (headEmptied h s).sdo = s.sdo
    ∧ (headEmptied h s).hand = s.hand ∧ (headEmptied h s).down = s.down := by
  refine ⟨collection_loseContext h (flagHeadLost h (onHeadLink h (fun _ => resetHeadLink) s)), ?_, ?_, ?_, ?_, ?_, ?_⟩ <;>
    simp [headEmptied]

end

theorem returnedNumbers_own (h : Head) (s : State) :
    returnedNumbers (fun a => headSlot a == headSlot h) s = (returnedAt s h).toList := by
  have own : allHeads.filter (fun a => headSlot a == headSlot h) = [h] := by
    revert h
    decide
  rw [returnedNumbers_eq, own, List.filterMap_cons]
  cases returnedAt s h <;> rfl

/-- The device at a lost head's slot. -/
theorem lostDevice_headEmptied (h : Head) (s : State) : LostDevice (headSlot h) s (headEmptied h s) where
  head a own := by
    obtain rfl := headSlot_injective.1 own
    refine ⟨(ctx_headEmptied ..).trans (if_pos rfl), (chan_headEmptied ..).trans ?_,
      (copies_headEmptied ..).trans (if_pos rfl), (headLink_headEmptied ..).trans (if_pos rfl), ?_⟩
    · rw [if_pos rfl, settings, settings, wge_headEmptied]
      rfl
    · rw [port_headEmptied]
      simp [flagHeadLost]
  operator a op own signed := by
    obtain rfl := headSlot_injective.1 own
    rw [signedOnAt_headEmptied, if_pos signed]
  ticket a id own signed held := by
    obtain rfl := headSlot_injective.1 own
    rw [ticket_headEmptied, if_pos (by simp [signed, held])]
  number a n own signed serves := by
    obtain rfl := headSlot_injective.1 own
    obtain ⟨op, signed⟩ := Option.isSome_iff_exists.1 signed
    rw [snu_headEmptied]
    simp [returnedAt, returnsNumber, signed, serves]
  printer p own := absurd own (headSlot_ne_printerSlot h p)
  dispenser own := absurd own (headSlot_ne_dispenserSlot h)

theorem LostDevice.watched {i : Slot} {t : State} (loss : LostDevice i s t) (met : Bool) :
    LostDevice i s (watched met t) :=
  ⟨loss.head, loss.operator, loss.ticket, loss.number, loss.printer, loss.dispenser⟩

/-- What the loss of a head takes (R184, R87). -/
theorem lossesTaken_head (h : Head) (s : State) :
    LossesTaken (fun j => j == headSlot h) s (ownersLose (headSlot h) s) := by
  rw [ownersLose_headSlot, examineWatch_eq]
  generalize met : ((headEmptied h s).ccu.armed && watchMet (headEmptied h s)) = hit
  have wge : (watched hit (headEmptied h s)).wge = _ := wge_headEmptied h s
  have snu : (watched hit (headEmptied h s)).snu = _ := snu_headEmptied h s
  have lbc : (watched hit (headEmptied h s)).lbc = s.lbc := (blocks_headEmptied h s).2.1
  have armed : (headEmptied h s).ccu.armed = s.ccu.armed := by rw [ccu_headEmptied]; rfl
  have port : (watched hit (headEmptied h s)).port = { (flagHeadLost h s).port with latched :=
      { (flagHeadLost h s).port.latched with inStep := s.port.latched.inStep || hit } } := by
    rw [watched, port_headEmptied]
    rfl
  obtain ⟨collection, -, itb, tot, sdo, -, -⟩ := blocks_headEmptied h s
  have stays {a : Head} (other : (headSlot a == headSlot h) = false) : a ≠ h := by
    simpa [headSlot_injective] using other
  constructor
  case devices =>
    intro i own
    rw [beq_iff_eq.1 own]
    exact (lostDevice_headEmptied h s).watched hit
  case heads =>
    intro a other
    exact ⟨(ctx_headEmptied ..).trans (if_neg (stays other)), (chan_headEmptied ..).trans (if_neg (stays other)),
      (copies_headEmptied ..).trans (if_neg (stays other)), (headLink_headEmptied ..).trans (if_neg (stays other))⟩
  case weighing =>
    rw [wge]
    exact ⟨rfl, rfl⟩
  case signOn =>
    intro n
    simp only [any_own h (fun a => (ctx a s).operator == some n), beq_iff_eq]
    exact signedOnAt_headEmptied h s n
  case tickets =>
    intro k
    have own : parkedBy (fun a => headSlot a == headSlot h) k s
        = ((ctx h s).operator.isSome && (ctx h s).held.any (·.slot == k)) := by
      simp only [parkedBy, Bool.and_assoc]
      exact any_own h (fun a => (ctx a s).operator.isSome && (ctx a s).held.any (·.slot == k))
    rw [own]
    exact ticket_headEmptied h s k
  case collection => exact collection
  case skipped =>
    intro a
    rw [snu]
    by_cases own : a = h
    · subst own
      cases returns : returnsNumber a s <;> simp
    · have other : (headSlot a == headSlot h) = false := by simpa [headSlot_injective] using own
      rw [other]
      split <;> simp [own]
  case numbers =>
    rw [snu]
    simp [Ne.symm (headSlot_ne_dispenserSlot h)]
  case printers =>
    intro p
    rw [if_neg (by simpa using Ne.symm (headSlot_ne_printerSlot h p)), printer, lbc]
    rfl
  case labels => rw [lbc]
  case watch =>
    have sees : watchMet (watched hit (headEmptied h s)) = watchMet (headEmptied h s) := rfl
    have gone : ¬∀ a, (headSlot a == headSlot h) = false := fun none => by simpa using none h
    have left : (watched hit (headEmptied h s)).ccu.armed = (s.ccu.armed && !hit) := congrArg (· && !hit) armed
    rw [← watchMet_eq_false, sees, left, ← met, armed, or_iff_right gone]
    cases s.ccu.armed <;> simp
  case flags =>
    have left : (watched hit (headEmptied h s)).ccu.armed = (s.ccu.armed && !hit) := congrArg (· && !hit) armed
    have inStep : hit = (s.ccu.armed && !(s.ccu.armed && !hit)) := by
      rw [← met, armed]
      cases s.ccu.armed <;> simp
    rw [left, port, ← inStep]
    simp [flagHeadLost, latch, Ne.symm (headSlot_ne_dispenserSlot h)]
  case headFlags =>
    intro a
    rw [port]
    by_cases own : a = h
    · subst own
      simp [flagHeadLost]
    · simp [flagHeadLost, own, headSlot_injective]
  case printerFlags =>
    intro p
    rw [port, beq_eq_false_iff_ne.2 (Ne.symm (headSlot_ne_printerSlot h p)), Bool.or_false]
    rfl
  case rest => exact ⟨itb, tot, sdo⟩

/-! ### A printer and the dispenser lost (R184) -/

/-- What the loss of a printer takes. -/
theorem lossesTaken_printer (p : Printer) (s : State) :
    LossesTaken (fun j => j == printerSlot p) s (ownersLose (printerSlot p) s) := by
  have heads (h : Head) : (headSlot h == printerSlot p) = false := by simp
  have dispenser : (dispenserSlot == printerSlot p) = false := by simpa using Ne.symm (printerSlot_ne_dispenserSlot p)
  rw [ownersLose_printerSlot]
  constructor
  case devices =>
    intro i own
    rw [beq_iff_eq.1 own]
    refine ⟨fun h same => ?_, fun h _ same => ?_, fun h _ same => ?_, fun h _ same => ?_, fun q same => ?own,
      fun same => absurd same (printerSlot_ne_dispenserSlot p)⟩
    case own =>
      obtain rfl := printerSlot_injective.1 same
      exact ⟨printer_onPrinter_same .., rfl, by simp [printerOffline, flagPrinterLost]⟩
    all_goals exact absurd same.symm (headSlot_ne_printerSlot h p)
  case heads => exact fun h _ => ⟨rfl, rfl, rfl, rfl⟩
  case weighing => exact ⟨rfl, rfl⟩
  case signOn => simp [heads, printerOffline, flagPrinterLost]
  case tickets => simp [parkedBy, heads, printerOffline, flagPrinterLost]
  case collection => rfl
  case skipped => simp [heads, printerOffline, flagPrinterLost]
  case numbers => simp [dispenser, printerOffline, flagPrinterLost]
  case printers =>
    intro q
    rw [printerOffline, printer_onPrinter]
    simp only [beq_iff_eq, printerSlot_injective]
    rfl
  case labels => rfl
  case watch => simp [heads, printerOffline, flagPrinterLost]
  case flags => simp [dispenser, printerOffline, flagPrinterLost, latch]
  case headFlags => simp [heads, printerOffline, flagPrinterLost]
  case printerFlags =>
    intro q
    by_cases own : q = p
    · subst own
      simp [printerOffline, flagPrinterLost]
    · simp [printerOffline, flagPrinterLost, own, printerSlot_injective]
  case rest => exact ⟨rfl, rfl, rfl⟩

/-- What the loss of the dispenser takes. -/
theorem lossesTaken_dispenser (s : State) :
    LossesTaken (fun j => j == dispenserSlot) s (ownersLose dispenserSlot s) := by
  have heads (h : Head) : (headSlot h == dispenserSlot) = false := by simp
  have printers (p : Printer) : (printerSlot p == dispenserSlot) = false := by simp
  rw [ownersLose_dispenserSlot]
  constructor
  case devices =>
    intro i own
    rw [beq_iff_eq.1 own]
    refine ⟨fun h same => ?_, fun h _ same => ?_, fun h _ same => ?_, fun h _ same => ?_,
      fun p same => absurd same.symm (printerSlot_ne_dispenserSlot p), fun _ => ⟨rfl, rfl, rfl, rfl⟩⟩
    all_goals exact absurd same.symm (headSlot_ne_dispenserSlot h)
  case heads => exact fun h _ => ⟨rfl, rfl, rfl, rfl⟩
  case weighing => exact ⟨rfl, rfl⟩
  case signOn => simp [heads, dispenserGone, flagDispenserLost]
  case tickets => simp [parkedBy, heads, dispenserGone, flagDispenserLost]
  case collection => rfl
  case skipped => simp [heads, dispenserGone, flagDispenserLost]
  case numbers => simp [dispenserGone, flagDispenserLost]
  case printers => simp [printers, dispenserGone, flagDispenserLost]
  case labels => rfl
  case watch => simp [heads, dispenserGone, flagDispenserLost]
  case flags => simp [dispenserGone, flagDispenserLost, latch]
  case headFlags => simp [heads, dispenserGone, flagDispenserLost]
  case printerFlags => simp [printers, dispenserGone, flagDispenserLost]
  case rest => exact ⟨rfl, rfl, rfl⟩

theorem lossesTaken_ownersLose (i : Slot) (s : State) : LossesTaken (fun j => j == i) s (ownersLose i s) := by
  obtain ⟨h, rfl⟩ | ⟨p, rfl⟩ | rfl := slot_kinds i
  · exact lossesTaken_head h s
  · exact lossesTaken_printer p s
  · exact lossesTaken_dispenser s

end Sys2Proof.Machine
end

section
/-! SUPPORT. The loss of a slot (R184) and the end of an event that loses devices. -/

namespace Sys2Proof.Machine

variable {i : Slot} {s t u : State} {lost : Slot → Bool}

/-! ### One slot lost -/

theorem LossesTaken.of_onSlot {f : SlotLink → SlotLink} (loss : LossesTaken lost (onSlot i f s) t) :
    LossesTaken lost s t where
  devices j gone := by
    have device := loss.devices j gone
    exact ⟨device.head, device.operator, device.ticket, device.number, device.printer, device.dispenser⟩
  heads := loss.heads
  weighing := loss.weighing
  signOn := loss.signOn
  tickets := loss.tickets
  collection := loss.collection
  skipped := loss.skipped
  numbers := loss.numbers
  printers := loss.printers
  labels := loss.labels
  watch := loss.watch
  flags := loss.flags
  headFlags := loss.headFlags
  printerFlags := loss.printerFlags
  rest := loss.rest

theorem lnk_ownersLose (i : Slot) (s : State) :
    (ownersLose i s).lnk = { s.lnk with heads := (ownersLose i s).lnk.heads } := by
  obtain ⟨h, rfl⟩ | ⟨p, rfl⟩ | rfl := slot_kinds i
  · rw [ownersLose_headSlot, (examineWatch_frame _).2.2.2.1, lnk_headEmptied]
    rfl
  · rw [ownersLose_printerSlot]
    rfl
  · rfl

@[simp] theorem slotLink_ownersLose (i j : Slot) (s : State) : slotLink j (ownersLose i s) = slotLink j s := by
  rw [slotLink, lnk_ownersLose]
  rfl

theorem onLink_ownersLose (i j : Slot) (s : State) : onLink j (ownersLose i s) = onLink j s := by
  simp [onLink, presence]

theorem waiting_ownersLose (i : Slot) (s : State) : (ownersLose i s).snu.waiting
    = returnedNumbers (fun h => headSlot h == i) s ++ s.snu.waiting := by
  obtain ⟨h, rfl⟩ | ⟨p, rfl⟩ | rfl := slot_kinds i
  · rw [ownersLose_headSlot, returnedNumbers_own, (examineWatch_frame _).2.2.2.2.2.2.2.1, snu_headEmptied]
  · simp [ownersLose_printerSlot, returnedNumbers, printerOffline, flagPrinterLost]
  · simp [ownersLose_dispenserSlot, returnedNumbers, dispenserGone, flagDispenserLost]

/-- The loss of a slot whose presence is written with it. -/
theorem losing_ownersLose {f : SlotLink → SlotLink} (away : onLink i (onSlot i f s) = false) :
    Losing (fun j => j == i) s (ownersLose i (onSlot i f s)) where
  toLossesTaken := (lossesTaken_ownersLose i (onSlot i f s)).of_onSlot
  seats g := by
    rw [onLink_ownersLose]
    by_cases own : headSlot g = i
    · simp [own, away]
    · simp [onLink, presence, own]
  waiting := waiting_ownersLose i (onSlot i f s)
  link := by
    refine ⟨?_, by simp, by simp⟩
    rw [lnk_ownersLose]
    rfl

theorem Losing.onSlot {f : SlotLink → SlotLink} (loss : Losing lost s u)
    (seat : onLink i (onSlot i f u) = onLink i u) : Losing lost s (Machine.onSlot i f u) := by
  have both := loss.trans (losing_onSlot seat) (fun _ _ _ none => absurd none Bool.false_ne_true)
  simpa only [Bool.or_false] using both

/-- A run of losses that reaches one slot. -/
theorem Losing.alone (loss : Losing (fun j => j == i) s t) (slots : ∀ j, j ≠ i → slotLink j t = slotLink j s) :
    LostAlone i s t :=
  ⟨loss.toLossesTaken, by simpa only [beq_eq_decide] using loss.waiting, slots, loss.link⟩

/-! ### The end of the event (R51, R52) -/

theorem channel_ext {c d : Channel} (rest : { c with offer := none } = { d with offer := none })
    (offer : c.offer = d.offer) : c = d := by
  cases c
  cases d
  simp_all

/-- A loss changes the item in hand of no head that stays, and leaves none in hand and none offered at one that goes. -/
theorem LossesTaken.offers (loss : LossesTaken lost s u) (h : Head) :
    itemInHand h s = itemInHand h u ∨ (chan h u).offer = offerFor h u := by
  cases gone : lost (headSlot h) with
  | true =>
    obtain ⟨ctxU, chanU, -⟩ := (loss.devices _ gone).head h rfl
    have hand : itemInHand h u = none := by
      rw [itemInHand, ctxU]
      cases role h u <;> rfl
    right
    rw [chanU, offerFor, hand]
    rfl
  | false =>
    obtain ⟨ctxU, -⟩ := loss.heads h gone
    obtain ⟨-, settingsU⟩ := loss.weighing
    left
    simp only [itemInHand, role, settings, ctxU, settingsU]

theorem LossesTaken.settled (loss : LossesTaken lost s u) : DevicesKept u (noted s (settle s u)) where
  weighing := by simp
  chans h := by
    have offer : (chan h (settle s u)).offer
        = if itemInHand h s = itemInHand h u then (chan h u).offer else offerFor h u :=
      congrArg Prod.snd (shownAt_settle s u h)
    have kept : (chan h (settle s u)).offer = (chan h u).offer := by
      rw [offer]
      split
      · rfl
      next changed => exact ((loss.offers h).resolve_left changed).symm
    have noted : chan h (noted s (settle s u)) = chan h (settle s u) := by simp [chan]
    rw [noted]
    exact channel_ext (chan_settle s h u) kept
  contexts := by simp
  blocks := by simp
  pins := by simp
  links := by simp
  seats g := by simp [onLink, presence, slotLink]

/-- The row of an event that loses devices. -/
theorem takes_losses {f : State → State} (low : s.resetLow = false) (loss : LossesTaken lost s (f s)) :
    ∃ t, takes f s = .next t ∧ LossesTaken lost s t ∧ t.lnk = (f s).lnk ∧ t.snu = (f s).snu ∧ t.hand = (f s).hand
      ∧ t.down = (f s).down :=
  ⟨_, takes_high f low, loss.congr loss.settled, by simp, by simp, by simp, by simp⟩

/-- The row of an event that loses one slot. -/
theorem takes_alone {f : State → State} (low : s.resetLow = false) (alone : LostAlone i s (f s)) :
    ∃ t, takes f s = .next t ∧ LostAlone i s t ∧ slotLink i t = slotLink i (f s) := by
  obtain ⟨t, row, loss, lnk, snu, hand, down⟩ := takes_losses low alone.toLossesTaken
  have slot (j : Slot) : slotLink j t = slotLink j (f s) := by rw [slotLink, lnk]; rfl
  refine ⟨t, row, ⟨loss, by rw [snu, alone.waiting], fun j other => (slot j).trans (alone.slots j other), ?_⟩, slot i⟩
  rw [lnk, hand, down]
  exact alone.link

end Sys2Proof.Machine
end

section
/-! SUPPORT. Upstream parts that move a slot's presence (R180 to R185, R192), and their settlement. -/

namespace Sys2Proof.Machine

variable {i : Slot} {s : State} {part : List Byte}

/-! ### What a part comes to (R176, R180) -/

theorem upstreamPart_disabled (off : presence i s = .disabled) (part : Option (List Byte)) :
    upstreamPart i part s = s := by
  simp [upstreamPart, off]

theorem upstreamPart_missing (enabled : presence i s ≠ .disabled) : upstreamPart i none s = takeMiss i s := by
  simp [upstreamPart, enabled, judgePart]

theorem upstreamPart_join (good : judge i part = .good (.join (slotClass i))) (enabled : presence i s ≠ .disabled) :
    upstreamPart i (some part) s = takeJoin i s := by
  simp [upstreamPart, enabled, judgePart, good, takeGood]

/-- A bad CRC, a malformed message or a JOIN of another kind (R176, R185). -/
theorem upstreamPart_wrong (bad : judge i part = .badCrc ∨ judge i part = .malformed
    ∨ ∃ k, judge i part = .good (.join k) ∧ k ≠ slotClass i) (enabled : presence i s ≠ .disabled) :
    upstreamPart i (some part) s = rejectPart i s := by
  obtain crc | malformed | ⟨k, join, other⟩ := bad
  · simp [upstreamPart, enabled, judgePart, crc]
  · simp [upstreamPart, enabled, judgePart, malformed]
  · simp [upstreamPart, enabled, judgePart, join, takeGood, other]

/-! ### Misses (R183, R192) -/

theorem onLink_eq_false : onLink i s = false ↔ presence i s ≠ .online ∧ presence i s ≠ .silent := by
  simp [onLink]

theorem onLink_away (away : presence i s = .absent ∨ presence i s = .joining) : onLink i s = false := by
  obtain off | off := away <;> simp [onLink, off]

theorem enabled_away (away : presence i s = .absent ∨ presence i s = .joining) : presence i s ≠ .disabled := by
  obtain off | off := away <;> simp [off]

theorem takeMiss_away (away : onLink i s = false) : takeMiss i s = s := by simp [takeMiss, away]

theorem lossDue_away (away : onLink i s = false) : lossDue i s = false := by simp [lossDue, away]

theorem silenceThreshold_eq (i : Slot) (s : State) :
    silenceThreshold i s = if h : i.val < 8 then (pairSettings ⟨i.val, h⟩ s).silence else 20 := by
  by_cases head : i.val < 8 <;> simp [silenceThreshold, slotHead, head, Config.deviceSilence]

theorem lossDue_eq (served : onLink i s = true) :
    lossDue i s = decide (silenceThreshold i s ≤ (slotLink i s).misses + 1) := by
  simp [lossDue, served]

/-- A miss that is not the last one. -/
theorem takeMiss_missed (served : onLink i s = true) (short : (slotLink i s).misses + 1 < silenceThreshold i s) :
    takeMiss i s = channelMiss i (onSlot i (fun l => { l with presence := .silent, misses := l.misses + 1 }) s) := by
  have notDue : lossDue i s = false := by rw [lossDue_eq served]; simpa using short
  simp [takeMiss, served, notDue]

theorem takeMiss_lost (served : onLink i s = true) (due : silenceThreshold i s ≤ (slotLink i s).misses + 1) :
    takeMiss i s = loseSlot .absent i (channelMiss i s) := by
  have due : lossDue i s = true := by rw [lossDue_eq served]; simpa using due
  simp [takeMiss, served, due]

theorem channelMiss_headSlot (h : Head) (s : State) :
    channelMiss (headSlot h) s = onChan h (fun c => { c with verdict := .notEligible .unstable }) s := by
  simp only [channelMiss, slotHead_headSlot]
  rfl

theorem channelMiss_other (notHead : ∀ h, i ≠ headSlot h) (s : State) : channelMiss i s = s := by
  obtain ⟨h, rfl⟩ | ⟨p, rfl⟩ | rfl := slot_kinds i
  · exact absurd rfl (notHead h)
  · simp only [channelMiss, slotHead_printerSlot]
  · rfl

theorem channelMiss_onSlot (f : SlotLink → SlotLink) (s : State) :
    channelMiss i (onSlot i f s) = onSlot i f (channelMiss i s) := by
  unfold channelMiss
  split <;> rfl

/-- A miss changes the standing verdict alone, which is no source of a display (log 13). -/
theorem settle_missed (f : SlotLink → SlotLink) (s : State) :
    settle s (onSlot i f (channelMiss i s)) = onSlot i f (channelMiss i s) := by
  obtain ⟨h, rfl⟩ | ⟨p, rfl⟩ | rfl := slot_kinds i
  · rw [channelMiss_headSlot]
    refine settle_eq_self (fun _ => rfl) fun a => ?_
    have same : (chan a (onChan h (fun c => { c with verdict := .notEligible .unstable }) s)).state = (chan a s).state
        ∧ (chan a (onChan h (fun c => { c with verdict := .notEligible .unstable }) s)).last = (chan a s).last := by
      rw [chan_onChan]
      split
      next own => rw [own]; exact ⟨rfl, rfl⟩
      next => exact ⟨rfl, rfl⟩
    obtain ⟨state, last⟩ := same
    simp only [sourcesOf, chan_onSlot, state, last]
    rfl
  · rw [channelMiss_other (fun h => Ne.symm (headSlot_ne_printerSlot h p))]
    exact settle_eq_self_of_blocks rfl rfl rfl rfl rfl
  · exact settle_eq_self_of_blocks rfl rfl rfl rfl rfl

/-- The row of a part that its slot misses, and no more. -/
theorem takes_missed {f : State → State} {g : SlotLink → SlotLink} (low : s.resetLow = false)
    (work : f s = onSlot i g (channelMiss i s)) : takes f s = .next (onSlot i g (channelMiss i s)) :=
  takes_settled low work (settle_missed g s) (portView_congr (by simp) (by simp) (by simp))

/-- An error counted and the part missed, short of the silence threshold. -/
theorem rejectPart_missed (served : onLink i s = true) (short : (slotLink i s).misses + 1 < silenceThreshold i s) :
    rejectPart i s = onSlot i (fun l => { l with
      presence := .silent, misses := l.misses + 1, errors := min (l.errors + 1) 65535 }) (channelMiss i s) := by
  have counted := countError_enabled (onLink_notDisabled served)
  rw [rejectPart, counted, takeMiss_missed (by simpa [onLink, presence] using served)
    (by simpa [silenceThreshold] using short), onSlot_onSlot, channelMiss_onSlot]
  rfl

/-! ### The loss at the silence threshold (R183, R184) -/

theorem loseContext_onChan (h : Head) (f : Channel → Channel) (s : State) :
    loseContext h (onChan h f s) = onChan h f (loseContext h s) := by
  cases signed : (ctx h s).operator with
  | none => rw [loseContext_none signed, loseContext_none (s := onChan h f s) signed]; rfl
  | some op =>
    rw [loseContext_some signed, loseContext_some (s := onChan h f s) signed, ctx_onChan]
    cases (ctx h s).nowServing <;> cases (ctx h s).held <;> rfl

/-- The miss that brings the loss shows nowhere: the channel goes to IDLE. -/
theorem ownersLose_channelMiss (i : Slot) (s : State) : ownersLose i (channelMiss i s) = ownersLose i s := by
  obtain ⟨h, rfl⟩ | ⟨p, rfl⟩ | rfl := slot_kinds i
  · have written (f : Channel → Channel) : headEmptied h (onChan h f s) = headEmptied h s := by
      have moved : loseContext h (flagHeadLost h (onHeadLink h (fun _ => resetHeadLink) (onChan h f s)))
          = onChan h f (loseContext h (flagHeadLost h (onHeadLink h (fun _ => resetHeadLink) s))) :=
        loseContext_onChan h f (flagHeadLost h (onHeadLink h (fun _ => resetHeadLink) s))
      rw [headEmptied, moved, onChan_onChan]
      rfl
    rw [channelMiss_headSlot, ownersLose_headSlot, ownersLose_headSlot, written]
  · rw [channelMiss_other (fun h => Ne.symm (headSlot_ne_printerSlot h p))]
  · rfl

theorem loseSlot_channelMiss (q : Presence) (i : Slot) (s : State) :
    loseSlot q i (channelMiss i s) = loseSlot q i s := by
  rw [loseSlot, setPresence, ← channelMiss_onSlot, ownersLose_channelMiss]
  rfl

/-- The loss of a slot alone, with what is written to it before. -/
theorem lostAlone_ownersLose {f : SlotLink → SlotLink} (away : (f (slotLink i s)).presence = .absent) :
    LostAlone i s (ownersLose i (onSlot i f s)) := by
  refine (losing_ownersLose (by simp [onLink, presence, away])).alone fun j other => ?_
  rw [slotLink_ownersLose, slotLink_onSlot_ne _ _ other]

theorem rejectPart_lost (served : onLink i s = true) (due : silenceThreshold i s ≤ (slotLink i s).misses + 1) :
    rejectPart i s = ownersLose i (onSlot i (fun l => { l with
      presence := .absent, misses := 0, errors := min (l.errors + 1) 65535 }) s) := by
  have counted := countError_enabled (onLink_notDisabled served)
  rw [rejectPart, counted, takeMiss_lost (by simpa [onLink, presence] using served)
    (by simpa [silenceThreshold] using due), loseSlot_channelMiss, loseSlot, setPresence, onSlot_onSlot]
  rfl

/-! ### JOIN (R182, R185) -/

theorem SameBehind.clearCopies {t u : State} (same : SameBehind t u) (h : Head) :
    SameBehind (clearCopies h t) (clearCopies h u) := by
  have cleared := congrArg (Machine.clearCopies h) (show behind t = behind u from same)
  exact cleared

theorem slotLink_joinSlot (i : Slot) (s : State) :
    slotLink i (joinSlot i s) = ⟨.joining, 0, 0, (slotLink i s).errors⟩ := by
  have slots (v : State) : (ownersJoin i v).lnk.slots = v.lnk.slots := by
    unfold ownersJoin
    split
    · rw [(clearCopies_frame ..).2.2.2.2.1, (restart_frame ..).2.2.2.1]
      rfl
    · rfl
    · rfl
  rw [joinSlot, slotLink, slots]
  exact slotLink_onSlot_same ..

/-- A restart at a head without a request clears the hold where it leaves ACTIVE, and no more (R7, R50). -/
theorem restart_idle {h : Head} (low : s.resetLow = false) (idle : (ctx h s).request = none) : SameBehind (restart h s)
    (onCtx h (fun c => { c with autoHold := c.autoHold && !decide ((chan h s).state = .active) })
      (onChan h restartChannel s)) := by
  obtain ⟨examined, plain⟩ := restart_leaves h low rfl
  by_cases active : (chan h s).state = .active
  · refine (examined_none (by exact low) ?_).1 (examined active)
    rw [ctx_onCtx_same]
    exact idle
  · rw [plain active]
    exact .refl _

theorem clearCopies_commutes (h : Head) (f : HeadCtx → HeadCtx) (g : Channel → Channel) (v : State) :
    clearCopies h (onCtx h f (onChan h g v)) = onCtx h f (onChan h g (onCopies h (fun _ => ⟨[], []⟩) v)) := rfl

/-- A head without a request joins: its channel restarted, its copies and its link emptied (R7, R50). -/
theorem joinSlot_head {h : Head} (low : s.resetLow = false) (idle : (ctx h s).request = none) :
    SameBehind (joinSlot (headSlot h) s) (onCtx h (fun c => { c with
        autoHold := c.autoHold && !decide ((chan h s).state = .active) })
      (onChan h (fun c => { c with
          state := if c.state = .active then .settling else c.state
          window := [], history := [], railRun := 0, clearRun := 0, lock := .armed, last := none
          verdict := if c.state = .active then .notEligible .unstable else c.verdict })
        (onCopies h (fun _ => ⟨[], []⟩) (onHeadLink h (fun _ => ⟨none, none, false⟩)
          (onSlot (headSlot h) (fun l => ⟨.joining, 0, 0, l.errors⟩) s))))) := by
  have restarted := (restart_idle (h := h) (s := onHeadLink h (fun _ => ⟨none, none, false⟩)
    (onSlot (headSlot h) (fun l => ⟨.joining, 0, 0, l.errors⟩) s)) low idle).clearCopies h
  rw [clearCopies_commutes, funext restartChannel_eq, chan_onHeadLink, chan_onSlot] at restarted
  simp only [joinSlot, ownersJoin, slotHead_headSlot]
  exact restarted

theorem joinSlot_printer (p : Printer) (s : State) :
    joinSlot (printerSlot p) s = onSlot (printerSlot p) (fun l => ⟨.joining, 0, 0, l.errors⟩) s := by
  simp only [joinSlot, ownersJoin, slotHead_printerSlot, slotPrinter_printerSlot]

theorem joinSlot_dispenser (s : State) : joinSlot dispenserSlot s
    = onSnu (fun u => { u with counter := none, issued := [], full := false })
      (onSlot dispenserSlot (fun l => ⟨.joining, 0, 0, l.errors⟩) s) := rfl

theorem onHeadLink_same {h : Head} {f : HeadLink → HeadLink} (e : f (headLink h s) = headLink h s) :
    onHeadLink h f s = s := by
  have same : s.lnk.heads.change h f = s.lnk.heads.change h (fun l => l) := by
    simp only [headLink] at e
    simp only [Table.change, e]
  rw [onHeadLink, same, Table.change_id]

theorem onCopies_same {h : Head} {f : CopyList → CopyList} (e : f (copies h s) = copies h s) : onCopies h f s = s := by
  have same : s.ccu.lists.change h f = s.ccu.lists.change h (fun l => l) := by
    simp only [copies] at e
    simp only [Table.change, e]
  rw [onCopies, same, Table.change_id]

/-- A join of a device lost just before finds nothing left to empty (R185). -/
theorem joinSlot_lost {v : State} (device : LostDevice i s v) :
    joinSlot i v = onSlot i (fun l => ⟨.joining, 0, 0, l.errors⟩) v := by
  obtain ⟨h, rfl⟩ | ⟨p, rfl⟩ | rfl := slot_kinds i
  · obtain ⟨-, channel, list, link, -⟩ := device.head h rfl
    have linkSame : onHeadLink h (fun _ => resetHeadLink) (onSlot (headSlot h) (fun l => ⟨.joining, 0, 0, l.errors⟩) v)
        = onSlot (headSlot h) (fun l => ⟨.joining, 0, 0, l.errors⟩) v := onHeadLink_same (by simp [link])
    have restarted : restart h (onSlot (headSlot h) (fun l => ⟨.joining, 0, 0, l.errors⟩) v)
        = onSlot (headSlot h) (fun l => ⟨.joining, 0, 0, l.errors⟩) v := by
      rw [restart_eq, if_neg (by simp [channel, idleChannel])]
      exact onChan_same (by rw [chan_onSlot, channel]; rfl)
    have listSame : clearCopies h (onSlot (headSlot h) (fun l => ⟨.joining, 0, 0, l.errors⟩) v)
        = onSlot (headSlot h) (fun l => ⟨.joining, 0, 0, l.errors⟩) v := onCopies_same (by simp [list])
    simp only [joinSlot, ownersJoin, slotHead_headSlot]
    rw [linkSame, restarted, listSame]
  · exact joinSlot_printer p v
  · obtain ⟨counter, issued, full, -⟩ := device.dispenser rfl
    rw [joinSlot_dispenser, onSnu, onSlot_snu, ← counter, ← issued, ← full]
    rfl

/-- A JOIN where a device stood: the loss, then the slot joining. -/
theorem takeJoin_onLink (served : onLink i s = true) :
    takeJoin i s = onSlot i (fun l => ⟨.joining, 0, 0, l.errors⟩) (loseSlot .absent i s)
      ∧ LostAlone i s (takeJoin i s) := by
  have gone : onLink i (loseSlot .absent i s) = false := by
    rw [loseSlot, onLink_ownersLose]
    simp [onLink, presence, setPresence]
  have lost : Losing (fun j => j == i) s (loseSlot .absent i s) :=
    losing_ownersLose (by simp [onLink, presence])
  have joined : takeJoin i s = onSlot i (fun l => ⟨.joining, 0, 0, l.errors⟩) (loseSlot .absent i s) := by
    rw [takeJoin, if_pos served, joinSlot_lost (lost.devices i (by simp))]
  have seated : onLink i (onSlot i (fun l => ⟨.joining, 0, 0, l.errors⟩) (loseSlot .absent i s))
      = onLink i (loseSlot .absent i s) := by rw [gone]; simp [onLink, presence]
  refine ⟨joined, ?_⟩
  rw [joined]
  refine (lost.onSlot seated).alone fun j other => ?_
  rw [slotLink_onSlot_ne _ _ other, loseSlot, slotLink_ownersLose]
  exact slotLink_onSlot_ne _ _ other

theorem takeJoin_away (away : onLink i s = false) : takeJoin i s = joinSlot i s := by simp [takeJoin, away]

/-- A JOIN where no device stood (R182). -/
theorem exec_join_away (low : s.resetLow = false) (good : judge i part = .good (.join (slotClass i)))
    (away : presence i s = .absent ∨ presence i s = .joining) : ∃ t, exec (.join i part) s = .next t
      ∧ slotLink i t = ⟨.joining, 0, 0, (slotLink i s).errors⟩ ∧ SameBehind t (joinSlot i s) := by
  obtain ⟨t, row, behindT⟩ := takes_high_behind (upstreamPart i (some part)) low
  rw [upstreamPart_join good (enabled_away away), takeJoin_away (onLink_away away)] at behindT
  obtain ⟨-, -, -, -, lnk, -⟩ := behindT.blocks
  refine ⟨t, row, ?_, behindT⟩
  rw [slotLink, lnk]
  exact slotLink_joinSlot i s

/-- A JOIN where a device stood (R185). -/
theorem exec_join_onLink (low : s.resetLow = false) (good : judge i part = .good (.join (slotClass i)))
    (served : onLink i s = true) : ∃ t, exec (.join i part) s = .next t
      ∧ slotLink i t = ⟨.joining, 0, 0, (slotLink i s).errors⟩ ∧ LostAlone i s t := by
  have part := upstreamPart_join good (onLink_notDisabled served)
  obtain ⟨joined, alone⟩ := takeJoin_onLink served
  rw [← part] at joined alone
  obtain ⟨t, row, aloneT, slot⟩ := takes_alone low alone
  refine ⟨t, row, slot.trans ?_, aloneT⟩
  rw [joined, slotLink_onSlot_same, loseSlot, slotLink_ownersLose, setPresence, slotLink_onSlot_same]

/-! ### Every part -/

/-- Settles O50: each part by what its slot holds, the losses through `LostAlone`. -/
theorem upstreamMovesPresence : Obligations.UpstreamMovesPresence := by
  intro i part s threshold wrong low thresholdEq wrongIff
  have limit : silenceThreshold i s = threshold := (silenceThreshold_eq i s).trans thresholdEq.symm
  refine ⟨fun off => ?disabled, fun good away idle => ?joins, fun good served => exec_join_onLink low good served,
    fun bad away => ?counts, fun away => ?away, fun served short u headCase otherCase => ?missed, fun served due => ?lost⟩
  case disabled =>
    have away : onLink i s = false := by simp [onLink, off]
    exact ⟨takes_unchanged low (upstreamPart_disabled off _), takes_unchanged low (upstreamPart_disabled off _),
      takes_unchanged low (upstreamPart_disabled off _), takes_unchanged low (by simp [lossDue_away away])⟩
  case joins =>
    obtain ⟨t, row, slot, behindT⟩ := exec_join_away low good away
    refine ⟨t, row, slot, ?_, ?_, ?_⟩
    · rintro h rfl
      exact behindT.trans (joinSlot_head low (idle h rfl))
    · rintro p rfl
      rwa [joinSlot_printer] at behindT
    · rintro rfl
      rwa [joinSlot_dispenser] at behindT
  case counts =>
    have enabled := enabled_away away
    have work : upstreamPart i (some part) s = onSlot i (fun l => { l with errors := min (l.errors + 1) 65535 }) s := by
      rw [upstreamPart_wrong (wrongIff.1 bad) enabled, rejectPart, countError_enabled enabled, takeMiss_away]
      · rfl
      · simpa [onLink, presence] using onLink_away away
    exact takes_settled low work (settle_eq_self_of_blocks rfl rfl rfl rfl rfl) rfl
  case away =>
    have off := onLink_away away
    exact ⟨takes_unchanged low ((upstreamPart_missing (enabled_away away)).trans (takeMiss_away off)),
      takes_unchanged low (by simp [lossDue_away off])⟩
  case missed =>
    have uEq : u = channelMiss i s := by
      by_cases head : ∃ h, i = headSlot h
      · obtain ⟨h, rfl⟩ := head
        rw [headCase h rfl, channelMiss_headSlot]
      · have notHead : ∀ h, i ≠ headSlot h := fun h own => head ⟨h, own⟩
        rw [otherCase notHead, channelMiss_other notHead]
    have enabled := onLink_notDisabled served
    rw [← limit] at short
    have notDue : lossDue i s = false := by rw [lossDue_eq served]; simpa using short
    subst uEq
    refine ⟨fun bad => takes_missed low
        ((upstreamPart_wrong (wrongIff.1 bad) enabled).trans (rejectPart_missed served short)),
      takes_missed low ?_, takes_unchanged low (by simp [notDue])⟩
    rw [upstreamPart_missing enabled, takeMiss_missed served short, channelMiss_onSlot]
  case lost =>
    have enabled := onLink_notDisabled served
    rw [← limit] at due
    have isDue : lossDue i s = true := by rw [lossDue_eq served]; simpa using due
    have missing : upstreamPart i none s = loseSlot .absent i s := by
      rw [upstreamPart_missing enabled, takeMiss_lost served due, loseSlot_channelMiss]
    refine ⟨fun bad => ?_, ?_⟩
    · have work := (upstreamPart_wrong (wrongIff.1 bad) enabled).trans (rejectPart_lost served due)
      have alone := lostAlone_ownersLose (i := i) (s := s)
        (f := fun l => { l with presence := .absent, misses := 0, errors := min (l.errors + 1) 65535 }) rfl
      rw [← work] at alone
      obtain ⟨t, row, aloneT, slot⟩ := takes_alone low alone
      refine ⟨t, row, aloneT, slot.trans ?_⟩
      rw [work, slotLink_ownersLose, slotLink_onSlot_same]
    · have alone := lostAlone_ownersLose (i := i) (s := s) (f := fun l => { l with presence := .absent, misses := 0 }) rfl
      have work : upstreamPart i none s
          = ownersLose i (onSlot i (fun l => { l with presence := .absent, misses := 0 }) s) := missing
      rw [← work] at alone
      obtain ⟨t, row, aloneT, slot⟩ := takes_alone low alone
      have silence : takes (fun v => if lossDue i v then upstreamPart i none v else v) s
          = takes (upstreamPart i none) s := by
        simp [takes, isDue]
      refine ⟨t, row, silence.trans row, aloneT, slot.trans ?_⟩
      rw [work, slotLink_ownersLose, slotLink_onSlot_same]

end Sys2Proof.Machine
end

section
/-! SUPPORT. The frame start of the Link Controller (R174): the mask, the restart and the join waits as one write of each
slot with the losses they bring, and its settlement. -/

namespace Sys2Proof.Machine

variable {i : Slot} {s : State}

/-! ### One slot under a new mask (R180) -/

/-- A slot's record under a new mask. -/
def maskedLink (old new : Bool) (l : SlotLink) : SlotLink :=
  match old, new with
  | true, false => { l with presence := .disabled, misses := 0 }
  | false, true => if l.presence = .disabled then { l with presence := .absent, misses := 0 } else l
  | _, _ => l

/-- Whether a new mask takes off the device of slot `i`. -/
def masksOff (m : Table Bool 11) (i : Slot) (s : State) : Bool := onLink i s && s.lnk.mask.look i && !m.look i

/-- What one slot's event leaves of the slots, and the loss it brings where `gone` says so. -/
def SlotTaken (i : Slot) (gone : Bool) (g : SlotLink → SlotLink) (s t : State) : Prop :=
  Losing (fun j => j == i && gone) s t ∧ ∀ j, slotLink j t = if j = i then g (slotLink i s) else slotLink j s

theorem slotTaken_self {g : SlotLink → SlotLink} (same : g (slotLink i s) = slotLink i s) :
    SlotTaken i false g s s := by
  refine ⟨by simpa only [Bool.and_false] using losing_refl s, fun j => ?_⟩
  split
  next own => rw [own, same]
  next => rfl

/-- A slot written without a loss. -/
theorem slotTaken_setPresence {g : SlotLink → SlotLink} {q : Presence} (away : onLink i s = false)
    (off : q ≠ .online ∧ q ≠ .silent) (written : g (slotLink i s) = { slotLink i s with presence := q, misses := 0 }) :
    SlotTaken i false g s (setPresence i q s) := by
  have seat : onLink i (setPresence i q s) = onLink i s := by
    rw [away, onLink_eq_false]
    simpa [presence_setPresence] using off
  refine ⟨by simp only [Bool.and_false]; exact losing_onSlot seat, fun j => ?_⟩
  rw [setPresence, slotLink_onSlot, written]

/-- A slot lost. -/
theorem slotTaken_loseSlot {g : SlotLink → SlotLink} {q : Presence} (off : q ≠ .online ∧ q ≠ .silent)
    (written : g (slotLink i s) = { slotLink i s with presence := q, misses := 0 }) :
    SlotTaken i true g s (loseSlot q i s) := by
  have away : onLink i (setPresence i q s) = false := by
    rw [onLink_eq_false]
    simpa [presence_setPresence] using off
  refine ⟨by simp only [Bool.and_true]; exact losing_ownersLose away, fun j => ?_⟩
  rw [loseSlot, slotLink_ownersLose, setPresence, slotLink_onSlot, written]

theorem slotTaken_maskSlot (m : Table Bool 11) (i : Slot) (s : State) :
    SlotTaken i (masksOff m i s) (maskedLink (s.lnk.mask.look i) (m.look i)) s (maskSlot m i s) := by
  unfold maskSlot masksOff
  cases s.lnk.mask.look i <;> cases m.look i
  case true.false =>
    dsimp only
    cases served : onLink i s with
    | true => exact slotTaken_loseSlot (by decide) rfl
    | false => exact slotTaken_setPresence served (by decide) rfl
  case false.true =>
    simp only [Bool.and_false, Bool.false_and]
    by_cases off : presence i s = .disabled
    · rw [if_pos (beq_iff_eq.2 off)]
      exact slotTaken_setPresence (by simp [onLink, off]) (by decide) (if_pos off)
    · rw [if_neg (by rwa [beq_iff_eq])]
      exact slotTaken_self (if_neg off)
  all_goals
    simp only [Bool.and_false, Bool.and_true, Bool.not_true]
    exact slotTaken_self rfl

/-! ### One slot under a link restart (R191) -/

/-- A slot's record under a link restart. -/
def restartedLink (l : SlotLink) : SlotLink :=
  if l.presence ∈ [.online, .silent, .joining] then { l with presence := .absent, misses := 0 } else l

theorem slotTaken_restartSlot (i : Slot) (s : State) :
    SlotTaken i (onLink i s) restartedLink s (restartSlot i s) := by
  have stands := presence_eq s i
  have served : onLink i s = (presence i s == .online || presence i s == .silent) := rfl
  rw [served]
  unfold restartSlot
  cases state : presence i s <;> rw [state] at stands
  case online | silent => exact slotTaken_loseSlot (by decide) (if_pos (by simp [← stands]))
  case joining =>
    exact slotTaken_setPresence (by simp [onLink, state]) (by decide) (if_pos (by simp [← stands]))
  case absent | disabled => exact slotTaken_self (if_neg (by simp [← stands]))

/-! ### The join wait (R182) -/

/-- A slot's record at a frame start of its join. -/
def waitedLink (l : SlotLink) : SlotLink :=
  if l.presence = .joining then
    { l with joinWait := l.joinWait + 1, presence := if 50 ≤ l.joinWait + 1 then .absent else .joining }
  else l

theorem joinWait_eq (i : Slot) (s : State) : joinWait i s = onSlot i waitedLink s := by
  refine congrArg (fun f => onSlot i f s) (funext fun l => ?_)
  obtain ⟨stands, wait, misses, errors⟩ := l
  cases stands
  case joining =>
    obtain short | long := Nat.lt_or_ge (wait + 1) 50
    · simp [waitedLink, Config.joinFrames, short, Nat.not_le.2 short]
    · simp [waitedLink, Config.joinFrames, long, Nat.not_lt.2 long]
  all_goals rfl

/-! ### All slots -/

theorem descending_allSlots : allSlots.reverse.Pairwise (· > ·) := by decide

theorem mem_reverse_allSlots (i : Slot) : i ∈ allSlots.reverse := List.mem_reverse.2 (mem_allSlots i)

/-- The losses of one event at each slot, where whether it loses a slot stands apart from the others. -/
theorem losing_eachSlotDown {f : Slot → State → State} {goes : Slot → State → Bool}
    (step : ∀ i v, Losing (fun j => j == i && goes i v) v (f i v))
    (apart : ∀ i j v, j ≠ i → goes j (f i v) = goes j v) (s : State) :
    Losing (fun i => goes i s) s (eachSlotDown f s) := by
  have run := losing_foldl step apart allSlots.reverse s descending_allSlots
  simp only [mem_reverse_allSlots, decide_true, Bool.true_and] at run
  exact run

theorem slotLink_eachSlotDown {f : Slot → State → State} {g : Slot → SlotLink → SlotLink} {p : State → Prop}
    (step : ∀ i v, p v → p (f i v) ∧ ∀ j, slotLink j (f i v) = if j = i then g i (slotLink i v) else slotLink j v)
    (holds : p s) (i : Slot) : slotLink i (eachSlotDown f s) = g i (slotLink i s) :=
  (slotLink_foldl step allSlots.reverse s (descending_allSlots.imp ne_of_gt) holds i).trans
    (if_pos (mem_reverse_allSlots i))

/-- The losses of a new mask, and every slot under it. -/
theorem losing_maskSlots (m : Table Bool 11) (s : State) :
    Losing (fun i => masksOff m i s) s (eachSlotDown (maskSlot m) s)
      ∧ ∀ i, slotLink i (eachSlotDown (maskSlot m) s) = maskedLink (s.lnk.mask.look i) (m.look i) (slotLink i s) := by
  refine ⟨losing_eachSlotDown (fun i v => (slotTaken_maskSlot m i v).1) (fun i j v other => ?_) s, fun i => ?_⟩
  · obtain ⟨-, slots⟩ := slotTaken_maskSlot m i v
    rw [masksOff, masksOff, mask_maskSlot, onLink, onLink, presence, presence, slots, if_neg other]
  · refine slotLink_eachSlotDown (g := fun i => maskedLink (s.lnk.mask.look i) (m.look i))
      (p := fun v => v.lnk.mask = s.lnk.mask) (fun i v mask => ⟨(mask_maskSlot v m i).trans mask, ?_⟩) rfl i
    obtain ⟨-, slots⟩ := slotTaken_maskSlot m i v
    rwa [mask] at slots

/-- The losses of a link restart, and every slot after it. -/
theorem losing_restartSlots (s : State) : Losing (fun i => onLink i s) s (eachSlotDown restartSlot s)
    ∧ ∀ i, slotLink i (eachSlotDown restartSlot s) = restartedLink (slotLink i s) := by
  refine ⟨losing_eachSlotDown (fun i v => (slotTaken_restartSlot i v).1) (fun i j v other => ?_) s, fun i => ?_⟩
  · obtain ⟨-, slots⟩ := slotTaken_restartSlot i v
    rw [onLink, onLink, presence, presence, slots, if_neg other]
  · exact slotLink_eachSlotDown (g := fun _ => restartedLink) (p := fun _ => True)
      (fun i v _ => ⟨trivial, (slotTaken_restartSlot i v).2⟩) trivial i

/-! ### The steps of the frame start -/

/-- What a step of the frame start leaves: its losses, the numbers they return, and every slot. -/
structure SlotsTaken (lost : Slot → Bool) (link : Slot → SlotLink) (s t : State) : Prop extends LossesTaken lost s t where
  waiting : t.snu.waiting = returnedNumbers (fun h => lost (headSlot h)) s ++ s.snu.waiting
  slots : ∀ i, slotLink i t = link i
  signals : t.hand = s.hand ∧ t.down = s.down

/-- The Link Controller written but for its slots and its heads. -/
theorem devicesKept_lnk {u : Lnk} (heads : u.heads = s.lnk.heads) (slots : u.slots = s.lnk.slots) :
    DevicesKept s { s with lnk := u } :=
  ⟨⟨rfl, rfl⟩, fun _ => rfl, ⟨rfl, rfl⟩, ⟨rfl, rfl, rfl, rfl, rfl, rfl⟩, ⟨rfl, rfl⟩, heads,
    fun g => by simp [onLink, presence, slotLink, slots]⟩

theorem Losing.slotsTaken {lost : Slot → Bool} {link : Slot → SlotLink} {v : State} {u : Lnk}
    (losing : Losing lost s v) (slots : ∀ i, slotLink i v = link i) (headsEq : u.heads = v.lnk.heads)
    (slotsEq : u.slots = v.lnk.slots) : SlotsTaken lost link s { v with lnk := u } where
  toLossesTaken := losing.toLossesTaken.congr (devicesKept_lnk headsEq slotsEq)
  waiting := losing.waiting
  slots i := by
    rw [← slots i, slotLink, slotsEq]
    rfl
  signals := losing.link.2

theorem slotsTaken_refl (s : State) : SlotsTaken (fun _ => false) (slotLink · s) s s :=
  ⟨lossesTaken_refl s, by simp [returnedNumbers], fun _ => rfl, rfl, rfl⟩

/-- The row of a step of the frame start. -/
theorem takes_slots {f : State → State} {lost : Slot → Bool} {link : Slot → SlotLink} (low : s.resetLow = false)
    (taken : SlotsTaken lost link s (f s)) :
    ∃ t, takes f s = .next t ∧ SlotsTaken lost link s t ∧ t.lnk = (f s).lnk := by
  obtain ⟨t, row, loss, lnk, snu, hand, down⟩ := takes_losses low taken.toLossesTaken
  refine ⟨t, row, ⟨loss, by rw [snu, taken.waiting], fun i => ?_, by rw [hand, down]; exact taken.signals⟩, lnk⟩
  rw [slotLink, lnk]
  exact taken.slots i

theorem applyMask_none (none : s.lnk.pendingMask = none) : applyMask s = s := by simp [applyMask, none]

/-- A pending mask taken (R180). -/
theorem applyMask_some {m : Table Bool 11} (pending : s.lnk.pendingMask = some m) :
    SlotsTaken (fun i => masksOff m i s) (fun i => maskedLink (s.lnk.mask.look i) (m.look i) (slotLink i s)) s
        (applyMask s)
      ∧ (applyMask s).lnk = { s.lnk with
        mask := m, pendingMask := none, slots := (applyMask s).lnk.slots, heads := (applyMask s).lnk.heads } := by
  obtain ⟨losing, slots⟩ := losing_maskSlots m s
  have taken : applyMask s = { eachSlotDown (maskSlot m) s with
      lnk := { (eachSlotDown (maskSlot m) s).lnk with mask := m, pendingMask := none } } := by simp [applyMask, pending]
  obtain ⟨link, -⟩ := losing.link
  rw [taken]
  generalize eachSlotDown (maskSlot m) s = v at losing slots link
  refine ⟨losing.slotsTaken slots rfl rfl, ?_⟩
  dsimp only
  rw [link]

theorem applyRestart_none (none : s.lnk.restart = false) : applyRestart s = s := by simp [applyRestart, none]

/-- A pending restart taken (R191). -/
theorem applyRestart_some (pending : s.lnk.restart = true) :
    SlotsTaken (fun i => onLink i s) (fun i => restartedLink (slotLink i s)) s (applyRestart s)
      ∧ (applyRestart s).lnk = { s.lnk with
        restart := false, slots := (applyRestart s).lnk.slots, heads := (applyRestart s).lnk.heads } := by
  obtain ⟨losing, slots⟩ := losing_restartSlots s
  have taken : applyRestart s = { eachSlotDown restartSlot s with
      lnk := { (eachSlotDown restartSlot s).lnk with restart := false } } := by simp [applyRestart, pending]
  obtain ⟨link, -⟩ := losing.link
  rw [taken]
  generalize eachSlotDown restartSlot s = v at losing slots link
  refine ⟨losing.slotsTaken slots rfl rfl, ?_⟩
  dsimp only
  rw [link]

theorem eachSlot_onSlot {f : SlotLink → SlotLink} {slots : Table SlotLink 11}
    (written : ∀ i, slots.look i = f (slotLink i s)) :
    eachSlot (fun i => onSlot i f) s = { s with lnk := { s.lnk with slots := slots } } := by
  have frame := eachSlot_keeps (fun u : State => { u with lnk := { u.lnk with slots := slots } })
    (f := fun i => onSlot i f) (fun _ _ => rfl) s
  have all : (eachSlot (fun i => onSlot i f) s).lnk.slots = slots :=
    Table.ext_look fun i => (slotLink_eachSlot f i s).trans (written i).symm
  rw [← frame, ← all]

/-- The frame start behind its mask and its restart: the join waits, the counter and the signals. -/
theorem countFrame_joinWaits {slots : Table SlotLink 11} (written : ∀ i, slots.look i = waitedLink (slotLink i s)) :
    countFrame (eachSlot joinWait s) = { s with
      lnk := { s.lnk with frame := s.lnk.frame + 1, slots := slots }
      hand := { s.hand with hsu := s.hand.hsu + 1, ccu := s.hand.ccu + 1, tkp := s.hand.tkp + 1 }
      down := noDownstream } := by
  have waits : joinWait = fun i => onSlot i waitedLink := funext fun i => funext (joinWait_eq i)
  rw [waits, eachSlot_onSlot written]
  rfl

/-! ### Whether a device stands after the mask -/

theorem onLink_masked {m : Table Bool 11} {t : State}
    (slots : ∀ i, slotLink i t = maskedLink (s.lnk.mask.look i) (m.look i) (slotLink i s)) (i : Slot) :
    onLink i t = (onLink i s && !masksOff m i s) := by
  have masked : presence i t = (maskedLink (s.lnk.mask.look i) (m.look i) (slotLink i s)).presence :=
    congrArg SlotLink.presence (slots i)
  rw [masksOff, onLink, onLink, masked, presence]
  obtain ⟨stands, wait, misses, errors⟩ := slotLink i s
  cases s.lnk.mask.look i <;> cases m.look i <;> cases stands <;> rfl

theorem onLink_waited {t : State} (slots : ∀ i, slotLink i t = waitedLink (slotLink i s)) (i : Slot) :
    onLink i t = onLink i s := by
  have waited : presence i t = (waitedLink (slotLink i s)).presence := congrArg SlotLink.presence (slots i)
  rw [onLink, onLink, waited, presence, waitedLink]
  split
  next joins =>
    rw [joins]
    dsimp only
    split <;> rfl
  next => rfl

/-! ### The mask and the restart of one frame start -/

/-- Whether the mask of a frame start takes off the device of slot `i`. -/
def maskLoses (i : Slot) (s : State) : Bool :=
  onLink i s && s.lnk.pendingMask.any fun m => s.lnk.mask.look i && !m.look i

/-- A slot's record after the mask of a frame start. -/
def masked (i : Slot) (s : State) : SlotLink :=
  match s.lnk.pendingMask with
  | none => slotLink i s
  | some m => maskedLink (s.lnk.mask.look i) (m.look i) (slotLink i s)

theorem applyMask_taken (s : State) : SlotsTaken (maskLoses · s) (masked · s) s (applyMask s)
    ∧ (applyMask s).lnk = { s.lnk with
      mask := s.lnk.pendingMask.getD s.lnk.mask, pendingMask := none
      slots := (applyMask s).lnk.slots, heads := (applyMask s).lnk.heads }
    ∧ ∀ i, onLink i (applyMask s) = (onLink i s && !maskLoses i s) := by
  unfold maskLoses masked
  cases pending : s.lnk.pendingMask with
  | none =>
    simp only [Option.any_none, Bool.and_false, Bool.not_false, Bool.and_true, applyMask_none pending]
    exact ⟨slotsTaken_refl s, by rw [Option.getD_none, ← pending], fun _ => trivial⟩
  | some m =>
    obtain ⟨taken, link⟩ := applyMask_some pending
    have standing := onLink_masked taken.slots
    simp only [Option.any_some, ← Bool.and_assoc]
    exact ⟨taken, link, standing⟩

theorem applyRestart_taken (s : State) : SlotsTaken (fun i => onLink i s && s.lnk.restart)
      (fun i => if s.lnk.restart then restartedLink (slotLink i s) else slotLink i s) s (applyRestart s)
    ∧ (applyRestart s).lnk = { s.lnk with
      restart := false, slots := (applyRestart s).lnk.slots, heads := (applyRestart s).lnk.heads } := by
  cases pending : s.lnk.restart with
  | false =>
    simp only [Bool.and_false, applyRestart_none pending]
    exact ⟨slotsTaken_refl s, by rw [← pending]⟩
  | true =>
    simp only [Bool.and_true, if_true]
    exact applyRestart_some pending

theorem onLink_restarted {t : State}
    (slots : ∀ i, slotLink i t = if s.lnk.restart then restartedLink (slotLink i s) else slotLink i s) (i : Slot) :
    onLink i t = (onLink i s && !(onLink i s && s.lnk.restart)) := by
  have restarted : presence i t = (if s.lnk.restart then restartedLink (slotLink i s) else slotLink i s).presence :=
    congrArg SlotLink.presence (slots i)
  rw [onLink, onLink, restarted, presence]
  obtain ⟨stands, wait, misses, errors⟩ := slotLink i s
  cases s.lnk.restart <;> cases stands <;> rfl

/-- The frame start as the mask, the restart and the waits make it. -/
theorem frameStart_taken (s : State) :
    LossesTaken (fun i => maskLoses i s || (onLink i s && !maskLoses i s && s.lnk.restart)) s (frameStart s)
    ∧ (frameStart s).snu.waiting
      = returnedNumbers (fun h => onLink (headSlot h) s && !maskLoses (headSlot h) s && s.lnk.restart) s
        ++ (returnedNumbers (fun h => maskLoses (headSlot h) s) s ++ s.snu.waiting)
    ∧ (∀ i, slotLink i (frameStart s)
      = waitedLink (if s.lnk.restart then restartedLink (masked i s) else masked i s))
    ∧ (frameStart s).lnk = { s.lnk with
      frame := s.lnk.frame + 1, mask := s.lnk.pendingMask.getD s.lnk.mask, pendingMask := none, restart := false
      slots := (frameStart s).lnk.slots, heads := (frameStart s).lnk.heads }
    ∧ (frameStart s).hand = { s.hand with hsu := s.hand.hsu + 1, ccu := s.hand.ccu + 1, tkp := s.hand.tkp + 1 }
    ∧ (frameStart s).down = noDownstream := by
  obtain ⟨masking, maskLink, standing⟩ := applyMask_taken s
  obtain ⟨restarting, restartLink⟩ := applyRestart_taken (applyMask s)
  have owed : (applyMask s).lnk.restart = s.lnk.restart := by rw [maskLink]
  have seats := onLink_restarted restarting.slots
  rw [owed] at restarting seats
  simp only [standing] at restarting seats
  have both := masking.toLossesTaken.trans restarting.toLossesTaken (fun g => by rw [seats, standing])
    ⟨_, restarting.waiting.symm⟩
  have numbers := masking.toLossesTaken.returnedNumbers_stays
    (p := fun h => onLink (headSlot h) s && !maskLoses (headSlot h) s && s.lnk.restart) (fun h goes => by
      simp only [Bool.and_eq_true, Bool.not_eq_true'] at goes
      exact goes.1.2)
  have waited := countFrame_joinWaits (s := applyRestart (applyMask s))
    (slots := Table.gen fun i => waitedLink (slotLink i (applyRestart (applyMask s)))) (fun i => Table.look_gen ..)
  have started : frameStart s = countFrame (eachSlot joinWait (applyRestart (applyMask s))) := rfl
  rw [← started] at waited
  have slots (i : Slot) : slotLink i (frameStart s) = waitedLink (slotLink i (applyRestart (applyMask s))) := by
    rw [waited]
    exact Table.look_gen ..
  have kept : DevicesKept (applyRestart (applyMask s)) (frameStart s) := by
    refine ⟨?_, fun h => ?_, ?_, ?_, ?_, ?_, fun g => onLink_waited slots _⟩ <;> rw [waited]
    · exact ⟨rfl, rfl⟩
    · rfl
    · exact ⟨rfl, rfl⟩
    · exact ⟨rfl, rfl, rfl, rfl, rfl, rfl⟩
    · exact ⟨rfl, rfl⟩
  obtain ⟨-, -, snu, -⟩ := kept.blocks
  obtain ⟨maskHand, -⟩ := masking.signals
  obtain ⟨restartHand, -⟩ := restarting.signals
  refine ⟨both.congr kept, ?_, fun i => ?_, ?_, ?_, ?_⟩
  · rw [snu, restarting.waiting, masking.waiting, numbers]
  · rw [slots, restarting.slots, masking.slots]
  · rw [waited]
    dsimp only
    rw [restartLink, maskLink]
  · rw [waited, restartHand, maskHand]
  · rw [waited]

/-- The records of the slots whose join a frame start counts. -/
theorem frameStart_quiet {slots : Table SlotLink 11} (mask : s.lnk.pendingMask = none) (restart : s.lnk.restart = false)
    (written : ∀ i, slots.look i = waitedLink (slotLink i s)) : frameStart s = { s with
      lnk := { s.lnk with frame := s.lnk.frame + 1, slots := slots }
      hand := { s.hand with hsu := s.hand.hsu + 1, ccu := s.hand.ccu + 1, tkp := s.hand.tkp + 1 }
      down := noDownstream } := by
  rw [frameStart, applyMask_none mask, applyRestart_none restart, countFrame_joinWaits written]

/-! ### The rows -/

theorem exec_frameStart_quiet {slots : Table SlotLink 11} (low : s.resetLow = false) (mask : s.lnk.pendingMask = none)
    (restart : s.lnk.restart = false) (written : ∀ i, slots.look i = waitedLink (slotLink i s)) :
    exec .frameStart s = .next { s with
      lnk := { s.lnk with frame := s.lnk.frame + 1, slots := slots }
      hand := { s.hand with hsu := s.hand.hsu + 1, ccu := s.hand.ccu + 1, tkp := s.hand.tkp + 1 }
      down := noDownstream } :=
  takes_settled low (frameStart_quiet mask restart written) (settle_eq_self_of_blocks rfl rfl rfl rfl rfl) rfl

theorem onSlot_congr {f g : SlotLink → SlotLink} (e : f (slotLink i s) = g (slotLink i s)) :
    onSlot i f s = onSlot i g s := by
  simp only [slotLink] at e
  simp only [onSlot, Table.change, e]

theorem exec_joinWaitExpiry_due (low : s.resetLow = false) (joins : presence i s = .joining)
    (due : 50 ≤ (slotLink i s).joinWait + 1) : exec (.joinWaitExpiry i) s
      = .next (onSlot i (fun l => { l with joinWait := l.joinWait + 1, presence := .absent }) s) := by
  have isDue : joinExpiryDue i s = true := by simp [joinExpiryDue, joins, Config.joinFrames, due]
  have stands : (slotLink i s).presence = .joining := joins
  have work : (if joinExpiryDue i s then joinWait i s else s)
      = onSlot i (fun l => { l with joinWait := l.joinWait + 1, presence := .absent }) s := by
    rw [if_pos isDue, joinWait_eq]
    exact onSlot_congr (by rw [waitedLink, if_pos stands, if_pos due])
  exact takes_settled (f := fun v => if joinExpiryDue i v then joinWait i v else v) low work
    (settle_eq_self_of_blocks rfl rfl rfl rfl rfl) rfl

theorem exec_joinWaitExpiry_early (low : s.resetLow = false)
    (early : presence i s ≠ .joining ∨ (slotLink i s).joinWait + 1 < 50) : exec (.joinWaitExpiry i) s = .next s := by
  have notDue : joinExpiryDue i s = false := by
    obtain other | short := early
    · simp [joinExpiryDue, other]
    · have notYet : ¬Config.joinFrames ≤ (slotLink i s).joinWait + 1 := Nat.not_le.2 short
      simp only [joinExpiryDue, decide_eq_false notYet, Bool.and_false]
  exact takes_unchanged (f := fun v => if joinExpiryDue i v then joinWait i v else v) low (by simp [notDue])

theorem exec_slotMaskTakesEffect (low : s.resetLow = false) {m : Table Bool 11} (pending : s.lnk.pendingMask = some m) :
    ∃ t, exec .slotMaskTakesEffect s = .next t
      ∧ SlotsTaken (fun i => masksOff m i s) (fun i => maskedLink (s.lnk.mask.look i) (m.look i) (slotLink i s)) s t
      ∧ t.lnk = { s.lnk with mask := m, pendingMask := none, slots := t.lnk.slots, heads := t.lnk.heads } := by
  obtain ⟨taken, link⟩ := applyMask_some pending
  obtain ⟨t, row, takenT, lnk⟩ := takes_slots low taken
  exact ⟨t, row, takenT, by rw [lnk]; exact link⟩

theorem exec_linkRestartTakesEffect (low : s.resetLow = false) (pending : s.lnk.restart = true) :
    ∃ t, exec .linkRestartTakesEffect s = .next t
      ∧ SlotsTaken (fun i => onLink i s) (fun i => restartedLink (slotLink i s)) s t
      ∧ t.lnk = { s.lnk with restart := false, slots := t.lnk.slots, heads := t.lnk.heads } := by
  obtain ⟨taken, link⟩ := applyRestart_some pending
  obtain ⟨t, row, takenT, lnk⟩ := takes_slots low taken
  exact ⟨t, row, takenT, by rw [lnk]; exact link⟩

/-- Settles O46: the frame start is its mask, its restart and its waits, and each of the rows is one of these parts. -/
theorem frameStartTakesPendingChanges : Obligations.FrameStartTakesPendingChanges := by
  intro s low
  refine ⟨fun off maskedRecord restarted lostMask lostRestart offEq maskedEq lostMaskEq lostRestartEq restartedEq => ?start,
    fun mask restart slots written => exec_frameStart_quiet low mask restart written,
    fun i joins due => exec_joinWaitExpiry_due low joins due, fun m pending => ?mask, fun pending => ?restart,
    fun none => takes_unchanged low (applyMask_none none), fun none => takes_unchanged low (applyRestart_none none),
    fun i early => exec_joinWaitExpiry_early low early⟩
  case start =>
    obtain rfl : lostMask = fun i => maskLoses i s := funext lostMaskEq
    obtain rfl : lostRestart = fun i => onLink i s && !maskLoses i s && s.lnk.restart := funext lostRestartEq
    have maskedIs (i : Slot) : maskedRecord i = masked i s := by
      rw [maskedEq, masked]
      cases s.lnk.pendingMask with
      | none => rfl
      | some m =>
        dsimp only
        rw [offEq]
        cases s.lnk.mask.look i <;> cases m.look i <;> rfl
    have restartedIs (i : Slot) :
        restarted i = if s.lnk.restart then restartedLink (masked i s) else masked i s := by
      rw [restartedEq, maskedIs, restartedLink, ← ite_and]
    obtain ⟨losses, waiting, slots, link, hand, down⟩ := frameStart_taken s
    obtain ⟨t, row, lossesT, lnkT, snuT, handT, downT⟩ := takes_losses low losses
    rw [← lnkT] at link
    refine ⟨t, row, ?_, ?_, ?_, ?_, fun i => ?_, lossesT, by rw [snuT, waiting], handT.trans hand, downT.trans down⟩
    · rw [link]
    · rw [link]
    · rw [link]
    · rw [link]
    · rw [restartedIs, ← waitedLink, ← slots, slotLink, lnkT]
      rfl
  case mask =>
    obtain ⟨t, row, taken, link⟩ := exec_slotMaskTakesEffect low pending
    obtain ⟨hand, down⟩ := taken.signals
    refine ⟨t, row, by rw [link], by rw [link], by rw [link], by rw [link], taken.waiting, taken.toLossesTaken, hand,
      down, fun i => ⟨fun old new => ⟨?_, fun served => taken.devices i ?_⟩, fun old new => ?_, fun same => ?_⟩⟩
    · rw [taken.slots, old, new]
      rfl
    · simp [masksOff, served, old, new]
    · rw [taken.slots, old, new]
      rfl
    · rw [taken.slots, same]
      cases m.look i <;> rfl
  case restart =>
    obtain ⟨t, row, taken, link⟩ := exec_linkRestartTakesEffect low pending
    obtain ⟨hand, down⟩ := taken.signals
    have slots (i : Slot) : slotLink i t
        = if presence i s ∈ [.online, .silent, .joining] then { slotLink i s with presence := .absent, misses := 0 }
          else slotLink i s := taken.slots i
    refine ⟨t, row, by rw [link], by rw [link], by rw [link], by rw [link], taken.waiting, taken.toLossesTaken, hand,
      down, fun i => ⟨fun served => ⟨?_, taken.devices i ?_⟩, fun joins => ?_, fun away => ?_⟩⟩
    · rw [slots, if_pos]
      obtain on | silent := served <;> simp [*]
    · simpa [onLink] using served
    · rw [slots, if_pos (by simp [joins])]
    · rw [slots, if_neg]
      obtain off | off := away <;> simp [off]

end Sys2Proof.Machine
end
